-- ==== Sys2Proof/Word.lean ====
section
/-! DEFINITION. The word types of the link: bytes and the wider big-endian values built of them. -/

namespace Sys2Proof

/-- One byte on the link (spec 11.1). -/
abbrev Byte := BitVec 8

/-- One scan of the sense matrix: 64 contacts, bit `8 k + j` is return `j` of strobe `k`, 1 for a closed contact
(spec 11.7). Of bay number `b + 1`, bit `2 b` is the presence switch and bit `2 b + 1` the latch switch. -/
abbrev SenseWord := BitVec 64

end Sys2Proof
end

