-- ==== Sys2Proof/Syntax.lean ====
section
/-! DEFINITION. The commands: one constructor for each row of spec/opcode_table.json, in the table's order. A request
carries the fields of its payload as the catalogue of spec 11.3 sizes them; an internal event names its bay (`Fin 32`,
bay number less one) or its channel (`Fin 4`, channel number less one). -/

namespace Sys2Proof

/-- The token record of 20 bytes (R32): eight fields, each as wide as the record carries it. -/
structure Token where
  rider    : BitVec 32
  serial   : BitVec 16
  issue    : BitVec 32
  span     : BitVec 16
  plan     : BitVec 8
  classKey : BitVec 8
  credit   : BitVec 16
  code     : BitVec 32
deriving DecidableEq, Repr

/-- The commands of the part. -/
inductive Instr where
  /-- HELLO (R197). -/
  | hello
  /-- STATUS (R198). -/
  | status
  /-- RESTART (R199). -/
  | restart
  /-- CHANGES_GET (R202). -/
  | changesGet
  /-- SET_TIME (R184). -/
  | setTime (minute : BitVec 32) (second : Byte)
  /-- GET_TIME (R186). -/
  | getTime
  /-- SETTINGS_SET (R189). -/
  | settingsSet (skew takeWindow tagWindow deadline minCharge deadTime : Byte)
  /-- SETTINGS_GET (R190). -/
  | settingsGet
  /-- KEY_LOAD (R39): the sixteen key bytes, the first most significant. -/
  | keyLoad (slot : Byte) (key : BitVec 128)
  /-- KEY_DROP (R40). -/
  | keyDrop (slot : Byte)
  /-- TARIFF_SET (R111). -/
  | tariffSet (plan : Byte) (unlockFee freeMinutes period periodPrice supplement rideCap : BitVec 16)
  /-- TARIFF_GET (R113). -/
  | tariffGet (plan : Byte)
  /-- DENY_ADD (R55): expiry flag 0 means the expiry is absent. -/
  | denyAdd (rider : BitVec 32) (reason flag : Byte) (expiry : BitVec 32)
  /-- DENY_REMOVE (R56). -/
  | denyRemove (rider : BitVec 32)
  /-- DENY_CLEAR (R57). -/
  | denyClear
  /-- DENY_LOOKUP (R58). -/
  | denyLookup (rider : BitVec 32)
  /-- PRESENT (R68). -/
  | present (bay : Byte) (token : Token)
  /-- BIKE_TAG (R101). -/
  | bikeTag (bay : Byte) (bike : BitVec 24) (cls battery : Byte)
  /-- RENTAL_QUERY (R107). -/
  | rentalQuery (selector : Byte) (number : BitVec 32)
  /-- RENTAL_CLOSE (R105). -/
  | rentalClose (bike : BitVec 24)
  /-- BAY_QUERY (R25). -/
  | bayQuery (bay : Byte)
  /-- BAY_SERVICE (R26, R27). -/
  | bayService (bay flag : Byte)
  /-- BAY_CLEAR (R28). -/
  | bayClear (bay : Byte)
  /-- STAFF_UNLATCH (R29). -/
  | staffUnlatch (bay : Byte)
  /-- JOURNAL_READ (R132). -/
  | journalRead (flag count : Byte)
  /-- JOURNAL_RELEASE (R133). -/
  | journalRelease (n : BitVec 16)
  /-- PROFILE_SET (R149). -/
  | profileSet (profile : Byte) (kickDuty : BitVec 16) (kickTime : Byte) (holdDuty travelLimit stallThreshold : BitVec 16)
      (stallTime inrushMask brakeTime : Byte)
  /-- PROFILE_GET (R150). -/
  | profileGet (profile : Byte)
  /-- CHANNEL_ENABLE (R156). -/
  | channelEnable (channel : Byte)
  /-- SUPPLY_SET (R172). -/
  | supplySet (lowEnter lowLeave critEnter critLeave brownEnter brownLeave : BitVec 16)
  /-- SUPPLY_GET (R173). -/
  | supplyGet
  /-- REJECT (R192): a complete frame of KIND and PAYLOAD `body` with its CHECK byte is taken. -/
  | reject (body : List Byte) (check : Byte)
  /-- BUSY_FRAME_DROP (R193): a frame completes while a reply is in progress. -/
  | busyFrameDrop
  /-- INTER_BYTE_GAP_TIMEOUT (R191). -/
  | interByteGapTimeout
  /-- LINE_ERROR (R191). -/
  | lineError
  /-- REPLY_COMPLETE (R193): `samples` are what the seeding scan reads if a warm restart follows (R199, R3). -/
  | replyComplete (samples : SenseWord)
  /-- RESET_ASSERT (R207). -/
  | resetAssert
  /-- RESET_RELEASE (R207): `samples` are what the seeding scan of the cold reset reads (R3). -/
  | resetRelease (samples : SenseWord)
  /-- MAIN_POWER_LOSS (R175). -/
  | mainPowerLoss
  /-- MAIN_POWER_RETURN (R176): `samples` are what the seeding scan reads (R3). -/
  | mainPowerReturn (samples : SenseWord)
  /-- SENSE_SCAN (R1). -/
  | senseScan (samples : SenseWord)
  /-- SENSE_EVENT (R2). -/
  | senseEvent (bay : Fin 32)
  /-- TAKE_WINDOW_EXPIRY (R21). -/
  | takeWindowExpiry (bay : Fin 32)
  /-- TAG_WINDOW_EXPIRY (R19). -/
  | tagWindowExpiry (bay : Fin 32)
  /-- UNLATCH_DEADLINE_EXPIRY (R78, R79). -/
  | unlatchDeadlineExpiry (bay : Fin 32)
  /-- RETRY_DELAY_EXPIRY (R16). -/
  | retryDelayExpiry (bay : Fin 32)
  /-- PENDING_TAG_EXPIRY (R20). -/
  | pendingTagExpiry (bay : Fin 32)
  /-- GRANT (R140). -/
  | grant
  /-- CONNECT_END (R144). -/
  | connectEnd (channel : Fin 4)
  /-- DEADTIME_END (R146). -/
  | deadtimeEnd (channel : Fin 4)
  /-- KICK_END (R145). -/
  | kickEnd (channel : Fin 4)
  /-- CURRENT_CONVERSION (R164): the conversion count of the channel's current input. -/
  | currentConversion (channel : Fin 4) (count : BitVec 10)
  /-- STALL (R151). -/
  | stall (channel : Fin 4)
  /-- TRAVEL_LIMIT (R152, R153). -/
  | travelLimit (channel : Fin 4)
  /-- SHORT (R154). -/
  | short (channel : Fin 4)
  /-- BRAKE_END (R146). -/
  | brakeEnd (channel : Fin 4)
  /-- COAST_END (R146). -/
  | coastEnd (channel : Fin 4)
  /-- BATTERY_CONVERSION (R165): the conversion count of the battery input. -/
  | batteryConversion (count : BitVec 10)
  /-- BAND_EVALUATION (R168). -/
  | bandEvaluation
  /-- CLOCK_SECOND (R180). -/
  | clockSecond
  /-- MINUTE_EVENT (R181). -/
  | minuteEvent
  /-- LAMP_PHASE (R24). -/
  | lampPhase (bay : Fin 32)
  /-- BYTE_RECEIVED (R191). -/
  | byteReceived (byte : Byte)
  /-- BACKUP_SUPPLY_LOSS (R176). -/
  | backupSupplyLoss
deriving DecidableEq, Repr

end Sys2Proof
end

