-- ==== Sys2Proof/Decode.lean ====
section
/-! DEFINITION. Reading a request out of a frame and writing it into one (the catalogue of spec 11.3), and
`decodeTableWord`: no row of the opcode table gives bits, so no word spells a command. -/

namespace Sys2Proof

/-- The command a word spells by the table's bits: none, since no row gives bits. -/
def decodeTableWord (_nbits _w : Nat) : Option Instr := none

namespace Frame

/-- Two bytes as a big-endian value (R195). -/
def word16 (a b : Byte) : BitVec 16 := a ++ b

/-- Three bytes as a big-endian value (R195). -/
def word24 (a b c : Byte) : BitVec 24 := a ++ b ++ c

/-- Four bytes as a big-endian value (R195). -/
def word32 (a b c d : Byte) : BitVec 32 := a ++ b ++ c ++ d

/-- The bytes of a 16-bit value, most significant first (R195). -/
def bytes16 (w : BitVec 16) : List Byte := [w.extractLsb' 8 8, w.extractLsb' 0 8]

/-- The bytes of a 24-bit value, most significant first (R195). -/
def bytes24 (w : BitVec 24) : List Byte := [w.extractLsb' 16 8, w.extractLsb' 8 8, w.extractLsb' 0 8]

/-- The bytes of a 32-bit value, most significant first (R195). -/
def bytes32 (w : BitVec 32) : List Byte :=
  [w.extractLsb' 24 8, w.extractLsb' 16 8, w.extractLsb' 8 8, w.extractLsb' 0 8]

/-- The sixteen key bytes, most significant first (R41). -/
def bytes128 (w : BitVec 128) : List Byte :=
  bytes32 (w.extractLsb' 96 32) ++ bytes32 (w.extractLsb' 64 32) ++ bytes32 (w.extractLsb' 32 32)
    ++ bytes32 (w.extractLsb' 0 32)

/-- The first sixteen bytes of a token record, b0 to b15 (R32, R41). -/
def boundBytes (t : Token) : List Byte :=
  bytes32 t.rider ++ bytes16 t.serial ++ bytes32 t.issue ++ bytes16 t.span ++ [t.plan, t.classKey] ++ bytes16 t.credit

/-- The token record of 20 bytes (R32). -/
def tokenBytes (t : Token) : List Byte := boundBytes t ++ bytes32 t.code

/-- A payload of no bytes. -/
def parse0 (i : Instr) : List Byte → Option Instr
  | [] => some i
  | _ => none

/-- A payload of one byte. -/
def parse1 (f : Byte → Instr) : List Byte → Option Instr
  | [a] => some (f a)
  | _ => none

/-- A payload of two bytes. -/
def parse2 (f : Byte → Byte → Instr) : List Byte → Option Instr
  | [a, b] => some (f a b)
  | _ => none

/-- A payload of one four-byte field. -/
def parseWord32 (f : BitVec 32 → Instr) : List Byte → Option Instr
  | [a, b, c, d] => some (f (word32 a b c d))
  | _ => none

/-- SET_TIME: minute 4, second 1. -/
def parseSetTime : List Byte → Option Instr
  | [a, b, c, d, s] => some (.setTime (word32 a b c d) s)
  | _ => none

/-- SETTINGS_SET: six settings of one byte. -/
def parseSettingsSet : List Byte → Option Instr
  | [a, b, c, d, e, f] => some (.settingsSet a b c d e f)
  | _ => none

/-- KEY_LOAD: slot 1, key 16. -/
def parseKeyLoad : List Byte → Option Instr
  | [s, a, b, c, d, e, f, g, h, i, j, k, l, m, n, o, p] =>
    some (.keyLoad s (word32 a b c d ++ word32 e f g h ++ word32 i j k l ++ word32 m n o p))
  | _ => none

/-- TARIFF_SET: plan 1, six fields of two bytes. -/
def parseTariffSet : List Byte → Option Instr
  | [p, a, a', b, b', c, c', d, d', e, e', f, f'] =>
    some (.tariffSet p (word16 a a') (word16 b b') (word16 c c') (word16 d d') (word16 e e') (word16 f f'))
  | _ => none

/-- DENY_ADD: rider 4, reason 1, expiry flag 1, expiry minute 4. -/
def parseDenyAdd : List Byte → Option Instr
  | [a, b, c, d, r, f, e, g, h, i] => some (.denyAdd (word32 a b c d) r f (word32 e g h i))
  | _ => none

/-- PRESENT: bay 1, token record 20. -/
def parsePresent : List Byte → Option Instr
  | [bay, r0, r1, r2, r3, s0, s1, i0, i1, i2, i3, n0, n1, p, k, c0, c1, x0, x1, x2, x3] =>
    some (.present bay ⟨word32 r0 r1 r2 r3, word16 s0 s1, word32 i0 i1 i2 i3, word16 n0 n1, p, k, word16 c0 c1,
      word32 x0 x1 x2 x3⟩)
  | _ => none

/-- BIKE_TAG: bay 1, bike 3, class 1, battery percent 1. -/
def parseBikeTag : List Byte → Option Instr
  | [bay, a, b, c, k, p] => some (.bikeTag bay (word24 a b c) k p)
  | _ => none

/-- RENTAL_QUERY: selector 1, number 4. -/
def parseRentalQuery : List Byte → Option Instr
  | [s, a, b, c, d] => some (.rentalQuery s (word32 a b c d))
  | _ => none

/-- RENTAL_CLOSE: bike 3. -/
def parseRentalClose : List Byte → Option Instr
  | [a, b, c] => some (.rentalClose (word24 a b c))
  | _ => none

/-- JOURNAL_RELEASE: number 2. -/
def parseJournalRelease : List Byte → Option Instr
  | [a, b] => some (.journalRelease (word16 a b))
  | _ => none

/-- PROFILE_SET: profile 1, then the eight fields in the catalogue's sizes. -/
def parseProfileSet : List Byte → Option Instr
  | [p, a, a', kt, h, h', t, t', s, s', st, im, bt] =>
    some (.profileSet p (word16 a a') kt (word16 h h') (word16 t t') (word16 s s') st im bt)
  | _ => none

/-- SUPPLY_SET: six thresholds of two bytes. -/
def parseSupplySet : List Byte → Option Instr
  | [a, a', b, b', c, c', d, d', e, e', f, f'] =>
    some (.supplySet (word16 a a') (word16 b b') (word16 c c') (word16 d d') (word16 e e') (word16 f f'))
  | _ => none

/-- One row of the catalogue: the kind code, the payload length and how the payload is read. -/
structure Row where
  kind : Byte
  length : Nat
  parse : List Byte → Option Instr

/-- The catalogue of 31 requests (spec 11.3). -/
def catalogue : List Row :=
  [ ⟨0x01, 0, parse0 .hello⟩, ⟨0x02, 0, parse0 .status⟩, ⟨0x03, 0, parse0 .restart⟩, ⟨0x04, 0, parse0 .changesGet⟩,
    ⟨0x10, 5, parseSetTime⟩, ⟨0x11, 0, parse0 .getTime⟩, ⟨0x12, 6, parseSettingsSet⟩, ⟨0x13, 0, parse0 .settingsGet⟩,
    ⟨0x18, 17, parseKeyLoad⟩, ⟨0x19, 1, parse1 .keyDrop⟩, ⟨0x20, 13, parseTariffSet⟩, ⟨0x21, 1, parse1 .tariffGet⟩,
    ⟨0x28, 10, parseDenyAdd⟩, ⟨0x29, 4, parseWord32 .denyRemove⟩, ⟨0x2A, 0, parse0 .denyClear⟩,
    ⟨0x2B, 4, parseWord32 .denyLookup⟩, ⟨0x30, 21, parsePresent⟩, ⟨0x38, 6, parseBikeTag⟩,
    ⟨0x39, 5, parseRentalQuery⟩, ⟨0x3A, 3, parseRentalClose⟩, ⟨0x40, 1, parse1 .bayQuery⟩,
    ⟨0x41, 2, parse2 .bayService⟩, ⟨0x42, 1, parse1 .bayClear⟩, ⟨0x43, 1, parse1 .staffUnlatch⟩,
    ⟨0x48, 2, parse2 .journalRead⟩, ⟨0x49, 2, parseJournalRelease⟩, ⟨0x50, 13, parseProfileSet⟩,
    ⟨0x51, 1, parse1 .profileGet⟩, ⟨0x52, 1, parse1 .channelEnable⟩, ⟨0x58, 12, parseSupplySet⟩,
    ⟨0x59, 0, parse0 .supplyGet⟩ ]

/-- The catalogue's row of a kind code, if it is a request kind. -/
def rowOf (kind : Byte) : Option Row := catalogue.find? fun r => r.kind == kind

/-- The kind code and payload of a request; none for a command that is no request. -/
def encodeRequest : Instr → Option (Byte × List Byte)
  | .hello => some (0x01, [])
  | .status => some (0x02, [])
  | .restart => some (0x03, [])
  | .changesGet => some (0x04, [])
  | .setTime m s => some (0x10, bytes32 m ++ [s])
  | .getTime => some (0x11, [])
  | .settingsSet a b c d e f => some (0x12, [a, b, c, d, e, f])
  | .settingsGet => some (0x13, [])
  | .keyLoad s k => some (0x18, s :: bytes128 k)
  | .keyDrop s => some (0x19, [s])
  | .tariffSet p a b c d e f =>
    some (0x20, p :: (bytes16 a ++ bytes16 b ++ bytes16 c ++ bytes16 d ++ bytes16 e ++ bytes16 f))
  | .tariffGet p => some (0x21, [p])
  | .denyAdd r n f e => some (0x28, bytes32 r ++ [n, f] ++ bytes32 e)
  | .denyRemove r => some (0x29, bytes32 r)
  | .denyClear => some (0x2A, [])
  | .denyLookup r => some (0x2B, bytes32 r)
  | .present b t => some (0x30, b :: tokenBytes t)
  | .bikeTag b n c p => some (0x38, [b] ++ bytes24 n ++ [c, p])
  | .rentalQuery s n => some (0x39, s :: bytes32 n)
  | .rentalClose n => some (0x3A, bytes24 n)
  | .bayQuery b => some (0x40, [b])
  | .bayService b f => some (0x41, [b, f])
  | .bayClear b => some (0x42, [b])
  | .staffUnlatch b => some (0x43, [b])
  | .journalRead f n => some (0x48, [f, n])
  | .journalRelease n => some (0x49, bytes16 n)
  | .profileSet p kd kt hd tl st sm im bt =>
    some (0x50, [p] ++ bytes16 kd ++ [kt] ++ bytes16 hd ++ bytes16 tl ++ bytes16 st ++ [sm, im, bt])
  | .profileGet p => some (0x51, [p])
  | .channelEnable c => some (0x52, [c])
  | .supplySet a b c d e f =>
    some (0x58, bytes16 a ++ bytes16 b ++ bytes16 c ++ bytes16 d ++ bytes16 e ++ bytes16 f)
  | .supplyGet => some (0x59, [])
  | .reject _ _ | .busyFrameDrop | .interByteGapTimeout | .lineError | .replyComplete _ | .resetAssert | .resetRelease _
  | .mainPowerLoss | .mainPowerReturn _ | .senseScan _ | .senseEvent _ | .takeWindowExpiry _ | .tagWindowExpiry _
  | .unlatchDeadlineExpiry _ | .retryDelayExpiry _ | .pendingTagExpiry _ | .grant | .connectEnd _ | .deadtimeEnd _
  | .kickEnd _ | .currentConversion _ _ | .stall _ | .travelLimit _ | .short _ | .brakeEnd _ | .coastEnd _
  | .batteryConversion _ | .bandEvaluation | .clockSecond | .minuteEvent | .lampPhase _ | .byteReceived _
  | .backupSupplyLoss => none

/-- The sum of the bytes modulo 256. -/
def sum : List Byte → Byte
  | [] => 0
  | b :: rest => b + sum rest

/-- The CHECK byte of a frame of KIND and PAYLOAD `body`: the sum of LEN, KIND, PAYLOAD and CHECK is 0 modulo 256. -/
def checkByte (body : List Byte) : Byte := -(BitVec.ofNat 8 body.length + sum body)

/-- A whole frame: SYNC, LEN, KIND and PAYLOAD, CHECK (spec 11.1). -/
def frame (body : List Byte) : List Byte := [0xC3, BitVec.ofNat 8 body.length] ++ body ++ [checkByte body]

end Frame

end Sys2Proof
end

