-- ==== Sys2Proof/Machine/Types.lean ====
section
/-! DEFINITION. The pieces the state is made of: the records, lists and enumerations of the spec's chapters. -/

namespace Sys2Proof.Machine

/-- A bay's index: bay number less one. -/
abbrev BayIx := Fin 32

/-- The states of a bay (spec 1.1). -/
inductive BayState where
  | vacant | latching | docked | unlatching | released | fault | service
deriving DecidableEq, Repr

/-- The values of a presence point. -/
inductive Presence where
  | absent | present
deriving DecidableEq, Repr

/-- The values of a latch point: OPEN and CLOSED. -/
inductive Latch where
  | opened | closed
deriving DecidableEq, Repr

/-- The class of a bike. -/
inductive BikeClass where
  | standard | electric
deriving DecidableEq, Repr

/-- The identity of a bike (spec 1.1). -/
structure Identity where
  bike    : Nat
  cls     : BikeClass
  battery : Nat
deriving DecidableEq, Repr

/-- A pending tag with the count at which its 5 s life ends (R20). -/
structure PendingTag where
  identity : Identity
  expiry   : Nat
deriving DecidableEq, Repr

/-- The link of a bay record: what its unlatch is for (spec 1.1, R12). -/
inductive Link where
  | unlinked | rental (slot : Fin 64) | staff | readiness
deriving DecidableEq, Repr

/-- The drive stage of a bay (spec 1.1). -/
inductive DriveStage where
  | noRequest | queued | driving | retryWait
deriving DecidableEq, Repr

/-- The last outcome of a bay (R23). -/
inductive LastOutcome where
  | noOutcome | checkedOut | takeExpired | deadline | jammed | powerAbort | latchReclosed | restartDiscard
deriving DecidableEq, Repr

/-- The fault cause of a bay (spec 1.1). -/
inductive FaultCause where
  | latchJam | unlatchJam
deriving DecidableEq, Repr

/-- The alarm set of a bay (R22). -/
structure Alarms where
  unrentedRemoval : Bool
  unidentified    : Bool
  latchSlip       : Bool
  tagConflict     : Bool
deriving DecidableEq, Repr

/-- The unlatch deadline: stopped, running to an expiry count, or passed (R77). -/
inductive Deadline where
  | stopped | running (expiry : Nat) | passed
deriving DecidableEq, Repr

/-- The lamp patterns (R24). -/
inductive LampPattern where
  | off | steady | slow | fast | double
deriving DecidableEq, Repr

/-- The fields of a FOREIGN_RETURN record (R98). -/
structure ForeignReturn where
  minute  : Nat
  bay     : BayIx
  bike    : Nat
  cls     : BikeClass
  battery : Nat
deriving DecidableEq, Repr

/-- The plans of tokens and rentals. -/
inductive Plan where
  | casual | daypass | member
deriving DecidableEq, Repr

/-- The stages of a rental record: PENDING, RELEASED, OPEN (R92). -/
inductive Stage where
  | pending | released | opened
deriving DecidableEq, Repr

/-- The six fields of a tariff entry (spec 6.1). -/
structure Tariff where
  unlockFee   : Nat
  freeMinutes : Nat
  period      : Nat
  periodPrice : Nat
  supplement  : Nat
  rideCap     : Nat
deriving DecidableEq, Repr

/-- A rental record (R90). -/
structure Rental where
  stage      : Stage
  rider      : Nat
  serial     : Nat
  plan       : Plan
  bike       : Nat
  cls        : BikeClass
  bay        : BayIx
  acceptedAt : Nat
  checkout   : Option Nat
  hold       : Nat
  tariff     : Tariff
deriving DecidableEq, Repr

/-- A deny entry (spec 3.1). -/
structure DenyEntry where
  rider  : Nat
  reason : Nat
  expiry : Option Nat
deriving DecidableEq, Repr

/-- The states of a spent entry: HELD and FINAL (spec 3.2). -/
inductive SpentState where
  | held | finalized
deriving DecidableEq, Repr

/-- A spent entry (spec 3.2). -/
structure SpentEntry where
  rider     : Nat
  serial    : Nat
  endMinute : Nat
  state     : SpentState
deriving DecidableEq, Repr

/-- The fields of a CHECKOUT record (R83). -/
structure CheckoutRecord where
  minute : Nat
  bay    : BayIx
  bike   : Nat
  cls    : BikeClass
  rider  : Nat
  serial : Nat
  plan   : Plan
  hold   : Nat
deriving DecidableEq, Repr

/-- The fields of a RETURN record (R97). -/
structure ReturnRecord where
  minute   : Nat
  bay      : BayIx
  fromBay  : BayIx
  bike     : Nat
  cls      : BikeClass
  rider    : Nat
  plan     : Plan
  checkout : Nat
  duration : Nat
  charge   : Nat
  settled  : Nat
  due      : Nat
deriving DecidableEq, Repr

/-- The fields of a STAFF_REMOVAL record (R88): the identity is absent where the bike was unidentified. -/
structure StaffRemovalRecord where
  minute : Nat
  bay    : BayIx
  bike   : Nat
  cls    : Option BikeClass
deriving DecidableEq, Repr

/-- A journal record of one of the four kinds (spec 7.1). -/
inductive JournalRecord where
  | checkout (r : CheckoutRecord)
  | returned (r : ReturnRecord)
  | foreignReturn (r : ForeignReturn)
  | staffRemoval (r : StaffRemovalRecord)
deriving DecidableEq, Repr

/-- The eight fields of a drive profile (spec 8.4). -/
structure Profile where
  kickDuty       : Nat
  kickTime       : Nat
  holdDuty       : Nat
  travelLimit    : Nat
  stallThreshold : Nat
  stallTime      : Nat
  inrushMask     : Nat
  brakeTime      : Nat
deriving DecidableEq, Repr

/-- The kinds of drive request (spec 8.1). -/
inductive DriveKind where
  | latch | unlatchRental | unlatchStaff | unlatchReady
deriving DecidableEq, Repr

/-- A drive request (spec 8.1). -/
structure DriveRequest where
  bay   : BayIx
  kind  : DriveKind
  order : Nat
deriving DecidableEq, Repr

/-- The phases of a pulse in order, the two DEADTIMEs told apart (spec 8.3). -/
inductive Phase where
  | connect | deadtime1 | kick | hold | deadtime2 | brake | coast
deriving DecidableEq, Repr

/-- The results of a pulse (spec 8.3). -/
inductive PulseResult where
  | done | jam | abort
deriving DecidableEq, Repr

/-- A pulse in flight (spec 8.3). `kickStart` and `brakeStart` are the counts at which KICK and BRAKE began;
`shorted` marks a pulse that a short has ended (R154); `refreshed` says that a refresh of the select chain has come for the
channel, and that the end of CONNECT or COAST it brings has not been taken (the model's own, log 38). -/
structure Pulse where
  bay        : BayIx
  kind       : DriveKind
  phase      : Phase
  profile    : Profile
  deadTime   : Nat
  kickStart  : Nat
  brakeStart : Nat
  result     : Option PulseResult
  shorted    : Bool
  refreshed  : Bool
deriving DecidableEq, Repr

/-- The states of a channel (R143). -/
inductive ChannelMode where
  | idle | driving (pulse : Pulse) | disabled
deriving DecidableEq, Repr

/-- A drive channel with its stall and short counts (spec 8.3). -/
structure Channel where
  mode  : ChannelMode
  stall : Nat
  short : Nat
deriving DecidableEq, Repr

/-- What the select chain carries to a bay since its last refresh: the channel connected to the bay or none, and the on or
off value of its lamp (R24, R144, section 11.7). -/
structure ChainSlot where
  channel : Option (Fin 4)
  lamp    : Bool
deriving DecidableEq, Repr

/-- The bands of the supply (spec 9.3). -/
inductive Band where
  | normal | low | critical | brownout
deriving DecidableEq, Repr

/-- The six thresholds in mV (spec 9.3). -/
structure Thresholds where
  lowEnter   : Nat
  lowLeave   : Nat
  critEnter  : Nat
  critLeave  : Nat
  brownEnter : Nat
  brownLeave : Nat
deriving DecidableEq, Repr

/-- The six station settings (spec 10.3). -/
structure Settings where
  skew       : Nat
  takeWindow : Nat
  tagWindow  : Nat
  deadline   : Nat
  minCharge  : Nat
  deadTime   : Nat
deriving DecidableEq, Repr

/-- The station clock (spec 10.2). `boundary` marks that the phase has reached 32,768 periods and returned to 0, and that
the event of that second has not been taken (the model's own, log 18). -/
structure Clock where
  minute : Nat
  second : Nat
  phase  : Nat
  isSet  : Bool
  boundary : Bool
deriving DecidableEq, Repr

/-- The causes of a bay's change-set entry (R200, R204). -/
structure BayCauses where
  state    : Bool
  outcome  : Bool
  alarm    : Bool
  returned : Bool
  held     : Bool
deriving DecidableEq, Repr

/-- The kinds of the restart cause (R200). -/
inductive RestartKind where
  | restart | resume
deriving DecidableEq, Repr

/-- The causes of the station's change-set entry (R200, R204). -/
structure StationCauses where
  band        : Bool
  journalHigh : Bool
  channel     : Bool
  restart     : Option RestartKind
deriving DecidableEq, Repr

/-- The change set (R200): an entry stands in it exactly when its causes are not empty. -/
structure ChangeSet where
  station : StationCauses
  bays    : Vector BayCauses 32
deriving DecidableEq, Repr

/-- A reply on the link: its kind and payload (R194). -/
structure Reply where
  kind    : Byte
  payload : List Byte
deriving DecidableEq, Repr

/-- The receive states (R191), with the bytes received and the count at which the last of them ended. -/
inductive Rx where
  | hunt
  | length (lastAt : Nat)
  | body (expected : Nat) (received : List Byte) (lastAt : Nat)
  | check (received : List Byte) (lastAt : Nat)
deriving DecidableEq, Repr

/-- A bay record (spec 1.1), with the scanner's agreement counts of its two points (R2). The due marks say that a
point's fifth differing sample has been taken and its acceptance awaits the SENSE_EVENT. `lampSince` is the count at which
the lamp's present phase began (R24). -/
structure Bay where
  state           : BayState
  presence        : Presence
  latch           : Latch
  rawPresence     : Presence
  rawLatch        : Latch
  presenceAgree   : Nat
  latchAgree      : Nat
  presenceDue     : Bool
  latchDue        : Bool
  identity        : Option Identity
  arrival         : Option Nat
  processed       : Bool
  pendingTag      : Option PendingTag
  link            : Link
  driveStage      : DriveStage
  presenceChanged : Bool
  attempts        : Nat
  lastOutcome     : LastOutcome
  faultCause      : Option FaultCause
  alarms          : Alarms
  held            : Option ForeignReturn
  takeWindow      : Option Nat
  tagWindow       : Option Nat
  deadline        : Deadline
  retryDelay      : Option Nat
  lamp            : LampPattern
  lampPhase       : Nat
  lampSince       : Nat
deriving DecidableEq, Repr

end Sys2Proof.Machine
end

