-- ==== Sys2Proof/Machine/Defaults.lean ====
section
/-! DEFINITION. The values the spec gives for a cold reset, and the empty records. -/

namespace Sys2Proof.Machine

/-- No alarm (R22: "It is empty after cold reset"). -/
def noAlarms : Alarms := ⟨false, false, false, false⟩

/-- No cause of a bay. -/
def noBayCauses : BayCauses := ⟨false, false, false, false, false⟩

/-- The empty change set (R196). -/
def emptyChanges : ChangeSet := ⟨⟨false, false, false, none⟩, Vector.replicate 32 noBayCauses⟩

/-- A slot of the select chain that carries no channel and a lamp that is off (R24, R161). -/
def darkSlot : ChainSlot := ⟨none, false⟩

/-- A bay record of R30 before its re-derivation, with its two points reading ABSENT and OPEN (log 1) and its lamp off
(R24). -/
def blankBay : Bay where
  state := .vacant
  presence := .absent
  latch := .opened
  rawPresence := .absent
  rawLatch := .opened
  presenceAgree := 0
  latchAgree := 0
  presenceDue := false
  latchDue := false
  identity := none
  arrival := none
  processed := false
  pendingTag := none
  link := .unlinked
  driveStage := .noRequest
  presenceChanged := false
  attempts := 0
  lastOutcome := .noOutcome
  faultCause := none
  alarms := noAlarms
  held := none
  takeWindow := none
  tagWindow := none
  deadline := .stopped
  retryDelay := none
  lamp := .off
  lampPhase := 0
  lampSince := 0

/-- An idle channel with its counts 0 (R161). -/
def idleChannel : Channel := ⟨.idle, 0, 0⟩

/-- The default LATCH profile (spec 8.4). -/
def defaultLatchProfile : Profile := ⟨1000, 60, 600, 400, 1800, 20, 30, 20⟩

/-- The default UNLATCH profile (spec 8.4). -/
def defaultUnlatchProfile : Profile := ⟨1000, 80, 700, 500, 2000, 20, 30, 20⟩

/-- The default thresholds (spec 9.3). -/
def defaultThresholds : Thresholds := ⟨11600, 12000, 11000, 11400, 9800, 10600⟩

/-- The default settings (spec 10.3). -/
def defaultSettings : Settings := ⟨5, 30, 20, 8, 20, 4⟩

/-- The clock after a cold reset (spec 10.2). -/
def unsetClock : Clock := ⟨0, 0, 0, false, false⟩

end Sys2Proof.Machine
end

