-- ==== Sys2Proof/Machine/State.lean ====
section
/-! DEFINITION. The state of the part and the machine right after reset. -/

namespace Sys2Proof.Machine

/-- All the state the spec gives the part. "(backup)" marks what R174 keeps through a loss of main power. -/
structure State where
  /-- Main power is present (R175). -/
  mainPower      : Bool
  /-- The RESET input is held low (R207). -/
  resetHeld      : Bool
  /-- The validity mark of the backup domain (R176) (backup). -/
  backupValid    : Bool
  /-- The millisecond count (R178). -/
  ms             : Nat
  /-- The crystal periods' remainder towards the next millisecond (the model's own, log 23). -/
  msRemainder    : Nat
  /-- The count stands at a refresh of the select chain that no event has made yet (R144, R178; the model's own, log 38). -/
  refreshDue     : Bool
  /-- The count stands at an evaluation of the band that has not been taken yet (R167; the model's own, log 38). -/
  evaluationDue  : Bool
  /-- The station clock (R180) (backup). -/
  clock          : Clock
  /-- The station settings (R187) (backup). -/
  settings       : Settings
  /-- The key store (R38) (backup). -/
  keys           : Vector (Option (BitVec 128)) 4
  /-- The tariff table, by plan number less one (R110) (backup). -/
  tariffs        : Vector (Option Tariff) 3
  /-- The deny list (R50) (backup). -/
  deny           : List DenyEntry
  /-- The spent list, oldest first (R59) (backup). -/
  spent          : List SpentEntry
  /-- The rental table (R90) (backup). -/
  rentals        : Vector (Option Rental) 64
  /-- The journal, oldest record first (R124) (backup). -/
  journal        : List JournalRecord
  /-- The journal's read cursor (R134). -/
  cursor         : Nat
  /-- The held order (R129) (backup). -/
  heldOrder      : List BayIx
  /-- The journal's high-water flag is armed (R135) (backup). -/
  highWaterArmed : Bool
  /-- The bay records (spec 1.1). -/
  bays           : Vector Bay 32
  /-- The drive queue in posting order (R138). -/
  queue          : List DriveRequest
  /-- The next posting order (spec 8.1). -/
  nextOrder      : Nat
  /-- The drive channels (R143). -/
  channels       : Vector Channel 4
  /-- The stored LATCH profile (R147) (backup). -/
  latchProfile   : Profile
  /-- The stored UNLATCH profile (R147) (backup). -/
  unlatchProfile : Profile
  /-- What the select chain carries to each bay, as its last refresh left it (R24, R144, R160). -/
  chain          : Vector ChainSlot 32
  /-- The slot of the scan that the analog scanner converts next: 0 to 3 for the current inputs of channels 1 to 4, and 4 for
  the battery (R162, the table of section 9.1). -/
  scanSlot       : Fin 5
  /-- The latest conversion of each current input in mA (R162, R163). -/
  currents       : Vector Nat 4
  /-- The latest conversion of the battery input in mV (R162, R163). -/
  battery        : Nat
  /-- The accepted battery samples in mV, oldest first (R165). -/
  samples        : List Nat
  /-- The rejection run (R165). -/
  rejections     : Nat
  /-- The supply band (R168). -/
  band           : Band
  /-- The six thresholds (R171) (backup). -/
  thresholds     : Thresholds
  /-- The receive state of the link port (R191). -/
  rx             : Rx
  /-- The reply in progress (R193). -/
  reply          : Option Reply
  /-- The change set (R200). -/
  changes        : ChangeSet
  /-- The index of the next free value (the model's own, log 6). -/
  freeIndex      : Nat
  /-- The commands waiting, first in first out (the model's own, log 2). -/
  pending        : List Instr
deriving DecidableEq, Repr

/-- The reasons the part can stop with: none. No rule of the spec stops the machine (INVENTORY, Faults). -/
inductive Fault where
deriving DecidableEq, Repr

/-- The reasons a step can have no meaning. -/
inductive Refusal where
  /-- A command that has no meaning yet, by its mnemonic; raised by exec's refused arms only. Safe: nothing runs. -/
  | notModelled (mnemonic : String)
deriving DecidableEq, Repr

/-- The machine right after a cold reset whose seeding scan read all 64 contacts open (R30, R161, R178, R187, R196;
log 1): every bay is VACANT. -/
def State.reset : State where
  mainPower := true
  resetHeld := false
  backupValid := true
  ms := 0
  msRemainder := 0
  refreshDue := false
  evaluationDue := true
  clock := unsetClock
  settings := defaultSettings
  keys := Vector.replicate 4 none
  tariffs := Vector.replicate 3 none
  deny := []
  spent := []
  rentals := Vector.replicate 64 none
  journal := []
  cursor := 0
  heldOrder := []
  highWaterArmed := true
  bays := Vector.replicate 32 blankBay
  queue := []
  nextOrder := 0
  channels := Vector.replicate 4 idleChannel
  latchProfile := defaultLatchProfile
  unlatchProfile := defaultUnlatchProfile
  chain := Vector.replicate 32 darkSlot
  scanSlot := 0
  currents := Vector.replicate 4 0
  battery := 0
  samples := []
  rejections := 0
  band := .critical
  thresholds := defaultThresholds
  rx := .hunt
  reply := none
  changes := emptyChanges
  freeIndex := 0
  pending := []

end Sys2Proof.Machine
end

