-- ==== Sys2Proof/Machine/Flags.lean ====
section
/-! DEFINITION. Posting causes to the change set, raising alarms, and the station's outputs that follow from them. -/

namespace Sys2Proof.Machine

/-- The causes of a bay entry (R200). -/
inductive BayCause where
  | state | outcome | alarm | returned | held
deriving DecidableEq, Repr

/-- The alarms of a bay (R22). -/
inductive Alarm where
  | unrentedRemoval | unidentified | latchSlip | tagConflict
deriving DecidableEq, Repr

/-- A bay's causes with one more, which stands there once (R200). -/
def BayCauses.add (c : BayCauses) : BayCause → BayCauses
  | .state => { c with state := true }
  | .outcome => { c with outcome := true }
  | .alarm => { c with alarm := true }
  | .returned => { c with returned := true }
  | .held => { c with held := true }

/-- An entry holds at least one cause. -/
def BayCauses.any (c : BayCauses) : Bool := c.state || c.outcome || c.alarm || c.returned || c.held

/-- The station's entry holds at least one cause. -/
def StationCauses.any (c : StationCauses) : Bool := c.band || c.journalHigh || c.channel || c.restart.isSome

/-- The change set holds at least one entry (R201). -/
def ChangeSet.any (c : ChangeSet) : Bool :=
  c.station.any || (List.finRange 32).any fun b => c.bays[b].any

/-- A bay posts a cause (R200). -/
def State.postBay (s : State) (b : BayIx) (c : BayCause) : State :=
  { s with changes := { s.changes with bays := s.changes.bays.set b.val (s.changes.bays[b].add c) b.isLt } }

/-- The station cause BAND is posted (R169). -/
def State.postBand (s : State) : State :=
  { s with changes := { s.changes with station := { s.changes.station with band := true } } }

/-- The station cause JOURNAL_HIGH is posted (R135). -/
def State.postJournalHigh (s : State) : State :=
  { s with changes := { s.changes with station := { s.changes.station with journalHigh := true } } }

/-- The station cause CHANNEL is posted (R154). -/
def State.postChannel (s : State) : State :=
  { s with changes := { s.changes with station := { s.changes.station with channel := true } } }

/-- The change set a warm restart leaves: the restart cause and STATE for every bay (R196). -/
def restartChanges (k : RestartKind) : ChangeSet :=
  ⟨⟨false, false, false, some k⟩, Vector.replicate 32 (noBayCauses.add .state)⟩

/-- An alarm set with one more alarm (R22). -/
def Alarms.add (a : Alarms) : Alarm → Alarms
  | .unrentedRemoval => { a with unrentedRemoval := true }
  | .unidentified => { a with unidentified := true }
  | .latchSlip => { a with latchSlip := true }
  | .tagConflict => { a with tagConflict := true }

/-- One bit of a byte. -/
def bit (n : Nat) (b : Bool) : Nat := if b then 2 ^ n else 0

/-- The alarm set as its byte (R206). -/
def Alarms.code (a : Alarms) : Nat :=
  bit 0 a.unrentedRemoval + bit 1 a.unidentified + bit 2 a.latchSlip + bit 3 a.tagConflict

/-- A bay's causes as their byte (R204). -/
def BayCauses.code (c : BayCauses) : Nat :=
  bit 0 c.state + bit 1 c.outcome + bit 2 c.alarm + bit 3 c.returned + bit 4 c.held

/-- The station's causes as their byte (R204). -/
def StationCauses.code (c : StationCauses) : Nat :=
  bit 0 c.band + bit 1 c.journalHigh + bit 2 c.channel + bit 3 c.restart.isSome

end Sys2Proof.Machine
end

