-- ==== Sys2Proof/Machine/Encode.lean ====
section
/-! DEFINITION. The code values (R206), the encoding of reply fields (R195) and the layouts of records (R203, R204). -/

namespace Sys2Proof.Machine

/-- A value in one byte. -/
def be8 (n : Nat) : List Byte := [BitVec.ofNat 8 n]

/-- A value in two bytes, most significant first (R195). -/
def be16 (n : Nat) : List Byte := [BitVec.ofNat 8 (n / 256), BitVec.ofNat 8 n]

/-- A value in three bytes, most significant first (R195). -/
def be24 (n : Nat) : List Byte := BitVec.ofNat 8 (n / 65536) :: be16 n

/-- A value in four bytes, most significant first (R195). -/
def be32 (n : Nat) : List Byte := BitVec.ofNat 8 (n / 16777216) :: be24 n

/-- A value in six bytes, most significant first (R195). -/
def be48 (n : Nat) : List Byte := be16 (n / 4294967296) ++ be32 n

/-- A flag in one byte (R195). -/
def beFlag (b : Bool) : List Byte := be8 (if b then 1 else 0)

/-- An optional station minute or other four-byte field: a presence byte and the field, 0 when absent (R195). -/
def beOpt32 : Option Nat → List Byte
  | some n => be8 1 ++ be32 n
  | none => be8 0 ++ be32 0

/-- The status codes of a reply (R194). -/
inductive Status where
  | ok | range | full | notFound | state | conflict
deriving DecidableEq, Repr

/-- The byte of a status (R194). -/
def Status.code : Status → Nat
  | .ok => 0 | .range => 1 | .full => 2 | .notFound => 3 | .state => 4 | .conflict => 5

/-- A payload of the status byte alone (R194). -/
def statusOnly (c : Status) : List Byte := be8 c.code

/-- A payload with status OK and fields. -/
def okWith (fields : List Byte) : List Byte := be8 0 ++ fields

/-- The code of a bay state (R206). -/
def BayState.code : BayState → Nat
  | .vacant => 1 | .latching => 2 | .docked => 3 | .unlatching => 4 | .released => 5 | .fault => 6 | .service => 7

/-- The code of a presence (R206). -/
def Presence.code : Presence → Nat
  | .absent => 0 | .present => 1

/-- The code of a latch position (R206). -/
def Latch.code : Latch → Nat
  | .opened => 0 | .closed => 1

/-- The code of a bike class (R206). -/
def BikeClass.code : BikeClass → Nat
  | .standard => 1 | .electric => 2

/-- The code of a plan (R206). -/
def Plan.code : Plan → Nat
  | .casual => 1 | .daypass => 2 | .member => 3

/-- The code of a rental stage (R206). -/
def Stage.code : Stage → Nat
  | .pending => 1 | .released => 2 | .opened => 3

/-- The code of a last outcome (R206). -/
def LastOutcome.code : LastOutcome → Nat
  | .noOutcome => 0 | .checkedOut => 1 | .takeExpired => 2 | .deadline => 3 | .jammed => 4 | .powerAbort => 5
  | .latchReclosed => 6 | .restartDiscard => 7

/-- The code of a fault cause, 0 where there is none (R206). -/
def faultCode : Option FaultCause → Nat
  | none => 0 | some .latchJam => 1 | some .unlatchJam => 2

/-- The code of a link (R206). -/
def Link.code : Link → Nat
  | .unlinked => 0 | .rental _ => 1 | .staff => 2 | .readiness => 3

/-- The slot byte of a link, 0 unless it is a rental slot (R205). -/
def Link.slotByte : Link → Nat
  | .rental k => k.val
  | .unlinked | .staff | .readiness => 0

/-- The code of a drive stage (R206). -/
def DriveStage.code : DriveStage → Nat
  | .noRequest => 0 | .queued => 1 | .driving => 2 | .retryWait => 3

/-- The code of a lamp pattern (R206). -/
def LampPattern.code : LampPattern → Nat
  | .off => 0 | .steady => 1 | .slow => 2 | .fast => 3 | .double => 4

/-- The code of a band (R206). -/
def Band.code : Band → Nat
  | .normal => 1 | .low => 2 | .critical => 3 | .brownout => 4

/-- The code of a channel state (R206). -/
def ChannelMode.code : ChannelMode → Nat
  | .idle => 0 | .driving _ => 1 | .disabled => 2

/-- The code of a restart kind, 0 where there is none (R204). -/
def restartCode : Option RestartKind → Nat
  | none => 0 | some .restart => 1 | some .resume => 2

/-- The outcomes of PRESENT in the order of their codes (R206). -/
inductive PresentOutcome where
  | accepted | badBay | clockUnset | malformed | keyAbsent | codeMismatch | notYet | expired | denied | spent
  | tariffUnset | bayNotReady | classNotAllowed | bikeLowCharge | alreadyRiding | tableFull | spentFull | journalFull
  | creditLow | powerLow
deriving DecidableEq, Repr

/-- The code of a PRESENT outcome (R206). -/
def PresentOutcome.code : PresentOutcome → Nat
  | .accepted => 0 | .badBay => 1 | .clockUnset => 2 | .malformed => 3 | .keyAbsent => 4 | .codeMismatch => 5
  | .notYet => 6 | .expired => 7 | .denied => 8 | .spent => 9 | .tariffUnset => 10 | .bayNotReady => 11
  | .classNotAllowed => 12 | .bikeLowCharge => 13 | .alreadyRiding => 14 | .tableFull => 15 | .spentFull => 16
  | .journalFull => 17 | .creditLow => 18 | .powerLow => 19

/-- The payload of a PRESENT reply: status, outcome, slot, hold, deny reason (R68, R206). -/
def presentPayload (o : PresentOutcome) (slot hold reason : Nat) : List Byte :=
  okWith (be8 o.code ++ be8 slot ++ be16 hold ++ be8 reason)

/-- The six fields of a tariff entry (R113). -/
def tariffFields (t : Tariff) : List Byte :=
  be16 t.unlockFee ++ be16 t.freeMinutes ++ be16 t.period ++ be16 t.periodPrice ++ be16 t.supplement ++ be16 t.rideCap

/-- The eight fields of a profile (R149, R195). -/
def profileFields (p : Profile) : List Byte :=
  be16 p.kickDuty ++ be8 p.kickTime ++ be16 p.holdDuty ++ be16 p.travelLimit ++ be16 p.stallThreshold
    ++ be8 p.stallTime ++ be8 p.inrushMask ++ be8 p.brakeTime

/-- The six settings, one byte each (R195). -/
def settingsFields (t : Settings) : List Byte :=
  be8 t.skew ++ be8 t.takeWindow ++ be8 t.tagWindow ++ be8 t.deadline ++ be8 t.minCharge ++ be8 t.deadTime

/-- The six thresholds in the order of SUPPLY_SET (R172). -/
def thresholdFields (t : Thresholds) : List Byte :=
  be16 t.lowEnter ++ be16 t.lowLeave ++ be16 t.critEnter ++ be16 t.critLeave ++ be16 t.brownEnter ++ be16 t.brownLeave

/-- A bay number byte. -/
def beBay (b : BayIx) : List Byte := be8 (b.val + 1)

/-- A list of bytes filled with zeros up to 28 (R203). -/
def pad28 (l : List Byte) : List Byte := l ++ List.replicate (28 - l.length) 0

/-- A journal record as 28 bytes (R203). -/
def recordBytes : JournalRecord → List Byte
  | .checkout r => pad28 (be8 1 ++ be32 r.minute ++ beBay r.bay ++ be24 r.bike ++ be8 r.cls.code ++ be32 r.rider
      ++ be16 r.serial ++ be8 r.plan.code ++ be16 r.hold)
  | .returned r => pad28 (be8 2 ++ be32 r.minute ++ beBay r.bay ++ beBay r.fromBay ++ be24 r.bike ++ be8 r.cls.code
      ++ be32 r.rider ++ be8 r.plan.code ++ be32 r.checkout ++ be16 r.duration ++ be16 r.charge ++ be16 r.settled
      ++ be16 r.due)
  | .foreignReturn r => pad28 (be8 3 ++ be32 r.minute ++ beBay r.bay ++ be24 r.bike ++ be8 r.cls.code ++ be8 r.battery)
  | .staffRemoval r => pad28 (be8 4 ++ be32 r.minute ++ beBay r.bay ++ be24 r.bike
      ++ be8 (match r.cls with | some c => c.code | none => 0))

/-- A rental record in the reply to RENTAL_QUERY at count `now` (R107): seconds since acceptance while PENDING or
RELEASED, checkout minute while OPEN, each 0 where it does not apply (R195). -/
def rentalFields (now : Nat) (slot : Fin 64) (r : Rental) : List Byte :=
  be8 slot.val ++ be8 r.stage.code ++ be32 r.rider ++ be16 r.serial ++ be8 r.plan.code ++ be24 r.bike ++ be8 r.cls.code
    ++ beBay r.bay ++ be16 r.hold ++ tariffFields r.tariff
    ++ be16 (match r.stage with | .opened => 0 | .pending | .released => min 65535 ((now - r.acceptedAt) / 1000))
    ++ be32 (match r.stage with | .opened => r.checkout.getD 0 | .pending | .released => 0)

/-- A timer in the reply to BAY_QUERY at count `now`: presence and remainder in milliseconds (R205). -/
def timerFields (now : Nat) : Option Nat → List Byte
  | some e => be8 1 ++ be32 (e - now)
  | none => be8 0 ++ be32 0

/-- The unlatch deadline in the reply to BAY_QUERY; a passed one shows presence 1 and remainder 0 (R77, R205). -/
def deadlineFields (now : Nat) : Deadline → List Byte
  | .stopped => be8 0 ++ be32 0
  | .running e => be8 1 ++ be32 (e - now)
  | .passed => be8 1 ++ be32 0

/-- An identity in the reply to BAY_QUERY (R205, bytes 6 to 11). -/
def identityFields : Option Identity → List Byte
  | some i => be8 1 ++ be24 i.bike ++ be8 i.cls.code ++ be8 i.battery
  | none => be8 0 ++ be24 0 ++ be8 0 ++ be8 0

/-- The payload of the reply to BAY_QUERY at count `now`: 56 bytes (R205). -/
def bayQueryPayload (now : Nat) (y : Bay) : List Byte :=
  okWith (be8 y.state.code ++ be8 y.presence.code ++ be8 y.latch.code ++ be8 y.rawPresence.code ++ be8 y.rawLatch.code
    ++ identityFields y.identity ++ beOpt32 y.arrival ++ beFlag y.processed
    ++ (match y.pendingTag with | some p => be8 1 ++ be24 p.identity.bike | none => be8 0 ++ be24 0)
    ++ be8 y.link.code ++ be8 y.link.slotByte ++ be8 y.driveStage.code ++ be8 y.attempts
    ++ timerFields now y.takeWindow ++ timerFields now y.tagWindow ++ deadlineFields now y.deadline
    ++ timerFields now y.retryDelay ++ timerFields now (y.pendingTag.map (·.expiry))
    ++ be8 y.lastOutcome.code ++ be8 (faultCode y.faultCause) ++ be8 y.alarms.code ++ beFlag y.held.isSome
    ++ be8 y.lamp.code)

/-- The change-set entry of a bay as 4 bytes, with the bay's present state and last outcome (R202, R204). -/
def bayEntryBytes (b : BayIx) (c : BayCauses) (y : Bay) : List Byte :=
  beBay b ++ be8 c.code ++ be8 y.state.code ++ be8 y.lastOutcome.code

/-- The change-set entry of the station as 4 bytes, with the present band (R202, R204). -/
def stationEntryBytes (c : StationCauses) (band : Band) : List Byte :=
  be8 0 ++ be8 c.code ++ be8 (restartCode c.restart) ++ be8 band.code

end Sys2Proof.Machine
end

