-- ==== Sys2Proof/Machine/Operands.lean ====
section
/-! DEFINITION. The operand forms of the requests: how a request's bytes name a bay, a channel, a plan, a class, how a
value is clamped, and what a token's fields say. -/

namespace Sys2Proof.Machine

/-- The bay a request byte names: 1..32 (spec 1.8). -/
def bayOf? (n : Byte) : Option BayIx :=
  if h : 1 ≤ n.toNat ∧ n.toNat ≤ 32 then some ⟨n.toNat - 1, by omega⟩ else none

/-- The channel a request byte names: 1..4 (R156). -/
def channelOf? (n : Byte) : Option (Fin 4) :=
  if h : 1 ≤ n.toNat ∧ n.toNat ≤ 4 then some ⟨n.toNat - 1, by omega⟩ else none

/-- The key slot a request byte names: 0..3 (R39, R40). -/
def keySlotOf? (n : Byte) : Option (Fin 4) :=
  if h : n.toNat < 4 then some ⟨n.toNat, h⟩ else none

/-- The plan a byte names: 1 CASUAL, 2 DAYPASS, 3 MEMBER (R206). -/
def planOf? (n : Byte) : Option Plan :=
  if n = 1 then some .casual else if n = 2 then some .daypass else if n = 3 then some .member else none

/-- The class a byte names: 1 STANDARD, 2 ELECTRIC (R206). -/
def classOf? (n : Byte) : Option BikeClass :=
  if n = 1 then some .standard else if n = 2 then some .electric else none

/-- A plan's place in the tariff table (R110). -/
def planIndex : Plan → Fin 3
  | .casual => 0
  | .daypass => 1
  | .member => 2

/-- A value given outside its range is stored at the nearest bound (spec 00, "Clamped"). -/
def clamp (lo hi v : Nat) : Nat := min hi (max lo v)

/-- A tariff entry with each field clamped into its range (R111). -/
def clampTariff (t : Tariff) : Tariff where
  unlockFee := clamp 0 1000 t.unlockFee
  freeMinutes := clamp 0 1440 t.freeMinutes
  period := clamp 1 240 t.period
  periodPrice := clamp 0 2000 t.periodPrice
  supplement := clamp 0 2000 t.supplement
  rideCap := clamp 100 50000 t.rideCap

/-- The station settings with each value clamped into its range (R189). -/
def clampSettings (t : Settings) : Settings where
  skew := clamp 0 30 t.skew
  takeWindow := clamp 5 120 t.takeWindow
  tagWindow := clamp 5 60 t.tagWindow
  deadline := clamp 2 30 t.deadline
  minCharge := clamp 0 100 t.minCharge
  deadTime := clamp 1 20 t.deadTime

/-- A drive profile with each field clamped, and the travel limit then raised to the kick time plus 20 ms (R149). -/
def clampProfile (p : Profile) : Profile where
  kickDuty := clamp 100 1000 p.kickDuty
  kickTime := clamp 0 200 p.kickTime
  holdDuty := clamp 100 1000 p.holdDuty
  travelLimit := max (clamp 100 2000 p.travelLimit) (clamp 0 200 p.kickTime + 20)
  stallThreshold := clamp 200 4000 p.stallThreshold
  stallTime := clamp 4 200 p.stallTime
  inrushMask := clamp 0 100 p.inrushMask
  brakeTime := clamp 0 100 p.brakeTime

/-- One threshold lies within 6,000..18,000 mV (R172). -/
def thresholdInRange (v : Nat) : Bool := decide (6000 ≤ v ∧ v ≤ 18000)

/-- The six thresholds lie in range and keep the order of R171. -/
def thresholdsOk (t : Thresholds) : Bool :=
  thresholdInRange t.lowEnter && thresholdInRange t.lowLeave && thresholdInRange t.critEnter
    && thresholdInRange t.critLeave && thresholdInRange t.brownEnter && thresholdInRange t.brownLeave
    && decide (t.brownEnter < t.brownLeave ∧ t.brownLeave ≤ t.critEnter ∧ t.critEnter < t.critLeave
      ∧ t.critLeave ≤ t.lowEnter ∧ t.lowEnter < t.lowLeave)

/-- The permitted class code of a token: the upper four bits of its class-and-key byte (R32). -/
def tokenClass (t : Token) : Nat := t.classKey.toNat / 16

/-- The two bits between class and key slot (R32). -/
def tokenMiddle (t : Token) : Nat := t.classKey.toNat / 4 % 4

/-- The key slot a token names: the lowest two bits of its class-and-key byte (R32). -/
def tokenSlot (t : Token) : Fin 4 := ⟨t.classKey.toNat % 4, Nat.mod_lt _ (by decide)⟩

/-- A token is malformed (R33). -/
def malformed (t : Token) : Bool :=
  t.rider == 0 || t.span == 0 || decide (240 < t.span.toNat) || (planOf? t.plan).isNone
    || decide (tokenClass t = 0 ∨ 4 ≤ tokenClass t) || decide (tokenMiddle t ≠ 0)

/-- The bike's class is permitted: STANDARD 1, ELECTRIC 2, ANY 3 (R37). -/
def classPermitted (permitted : Nat) (c : BikeClass) : Bool :=
  match c with
  | .standard => decide (permitted = 1 ∨ permitted = 3)
  | .electric => decide (permitted = 2 ∨ permitted = 3)

/-- The largest station minute (R180). -/
def maxMinute : Nat := 4294967295

/-- The start minute of a token: issue less skew, no lower than 0 (R44). -/
def startMinute (t : Token) (skew : Nat) : Nat := t.issue.toNat - skew

/-- The end minute of a token: issue plus span, held at the largest minute (R44). -/
def endMinute (t : Token) : Nat := min maxMinute (t.issue.toNat + t.span.toNat)

/-- The presence of a bay in one sample of the matrix (spec 11.7). -/
def samplePresence (w : SenseWord) (b : BayIx) : Presence :=
  if w.getLsbD (2 * b.val) then .present else .absent

/-- The latch of a bay in one sample of the matrix (spec 11.7). -/
def sampleLatch (w : SenseWord) (b : BayIx) : Latch :=
  if w.getLsbD (2 * b.val + 1) then .closed else .opened

/-- The motor current of a conversion: the count times 4 mA (R163). -/
def currentOf (count : BitVec 10) : Nat := count.toNat * 4

/-- The battery value of a conversion: the count times 20 mV (R163). -/
def batteryOf (count : BitVec 10) : Nat := count.toNat * 20

end Sys2Proof.Machine
end

