-- ==== Sys2Proof/Machine/Ops.lean ====
section
/-! DEFINITION. The named operations the commands share: running, time, the bay table, the journal and its flush, return
processing, entries to bay states, drive requests, re-derivation, and the ends of a release. -/

namespace Sys2Proof.Machine

/-- The part runs: main power is present and RESET is not held (R175, R207). -/
def State.running (s : State) : Bool := s.mainPower && !s.resetHeld

/-- An event of the running part; a stopped part takes none (R175, R207). -/
def whenRunning (s : State) (act : State → State) : State := if s.running then act s else s

/-- A request whose frame completes (R191 to R193): reception returns to HUNT; the frame is dropped while a reply is in
progress, and otherwise the owning block acts and its payload becomes the reply in progress, of the request's kind plus
0x80 (R194). A stopped part ignores it (R207). -/
def takeRequest (kind : Byte) (act : State → State × List Byte) (s : State) : State :=
  whenRunning s fun s =>
    match s.reply with
    | some _ => { s with rx := .hunt }
    | none =>
      let r := act { s with rx := .hunt }
      { r.1 with reply := some ⟨kind + 0x80, r.2⟩ }

/-- A request that changes nothing (a query) and answers a payload. -/
def answer (payload : State → List Byte) (s : State) : State × List Byte := (s, payload s)

/-- The largest millisecond count (R178). -/
def maxCount : Nat := 281474976710655

/-- A bay record. -/
def State.bay (s : State) (b : BayIx) : Bay := s.bays[b]

/-- The state with a bay record changed. -/
def State.modBay (s : State) (b : BayIx) (f : Bay → Bay) : State :=
  { s with bays := s.bays.set b.val (f (s.bay b)) b.isLt }

/-- The bays in ascending order of number. -/
def allBays : List BayIx := List.finRange 32

/-- The rental slots in ascending order. -/
def allSlots : List (Fin 64) := List.finRange 64

/-- The channels in ascending order of number. -/
def allChannels : List (Fin 4) := List.finRange 4

/-! ### The journal -/

/-- The number of rental records in a stage. -/
def State.stageCount (s : State) (g : Stage) : Nat :=
  (allSlots.filter fun k => (s.rentals[k]).any fun r => decide (r.stage = g)).length

/-- The number of staff releases: bays under the staff mark (R126; R12 keeps the mark to UNLATCHING and RELEASED). -/
def State.staffReleases (s : State) : Nat :=
  (allBays.filter fun b => decide ((s.bay b).link = .staff)).length

/-- The committed count (R126). -/
def State.committed (s : State) : Nat :=
  s.journal.length + 2 * s.stageCount .pending + 2 * s.stageCount .released + s.stageCount .opened + s.staffReleases

/-- A record is appended at the back (R124); the rise to 192 with the flag armed posts JOURNAL_HIGH and disarms it
(R135). -/
def appendRecord (r : JournalRecord) (s : State) : State :=
  let t := { s with journal := s.journal ++ [r] }
  if t.journal.length = 192 ∧ t.highWaterArmed then { t.postJournalHigh with highWaterArmed := false } else t

/-- The journal admits a foreign return (R127). -/
def State.admitsForeign (s : State) : Bool := decide (s.committed + 1 ≤ 256)

/-- The flush writes the held return at the front of the held order (R130, steps 1 to 4). -/
def writeHeld (b : BayIx) (r : ForeignReturn) (s : State) : State :=
  (({ appendRecord (.foreignReturn r) s with heldOrder := s.heldOrder.tail }).modBay b
    fun y => { y with held := none }).postBay b .returned

/-- The flush of held returns (R130) over the held order as it stood, with the bays it wrote in that order. -/
def flushFrom : List BayIx → State → State × List BayIx
  | [], s => (s, [])
  | b :: rest, s =>
    match (s.bay b).held with
    | some r =>
      if s.admitsForeign then
        let out := flushFrom rest (writeHeld b r s)
        (out.1, b :: out.2)
      else (s, [])
    | none => flushFrom rest { s with heldOrder := s.heldOrder.tail }

/-! ### Returns -/

/-- The conditions of return processing (R18). -/
def Bay.returnDue (y : Bay) : Bool :=
  (decide (y.state = .docked) || (decide (y.state = .fault) && decide (y.presence = .present)))
    && y.identity.isSome && !y.processed

/-- A bay is rentable (R18). -/
def Bay.rentable (y : Bay) : Bool :=
  decide (y.state = .docked) && y.identity.isSome && y.processed && y.held.isNone && decide (y.latch = .closed)

/-- The slots whose record holds a bike number, in ascending order (R93). -/
def State.slotsOfBike (s : State) (bike : Nat) : List (Fin 64) :=
  allSlots.filter fun k => (s.rentals[k]).any fun r => decide (r.bike = bike)

/-- The slots whose record holds a rider number, in ascending order (R93). -/
def State.slotsOfRider (s : State) (rider : Nat) : List (Fin 64) :=
  allSlots.filter fun k => (s.rentals[k]).any fun r => decide (r.rider = rider)

/-- The OPEN record of a bike, with its slot (R95). -/
def State.openRental? (s : State) (bike : Nat) : Option (Fin 64 × Rental) :=
  (allSlots.filterMap fun k => (s.rentals[k]).map fun r => (k, r)).find?
    fun p => decide (p.2.bike = bike) && decide (p.2.stage = .opened)

/-- A slot of the rental table is set or freed. -/
def State.setRental (s : State) (k : Fin 64) (r : Option Rental) : State :=
  { s with rentals := s.rentals.set k.val r k.isLt }

/-- The four results of the charge computation (R117 to R120). -/
structure Charge where
  duration : Nat
  charge   : Nat
  settled  : Nat
  due      : Nat
deriving DecidableEq, Repr

/-- Stage 1: the duration (R117). -/
def rideDuration (checkout minute : Nat) : Nat := minute - checkout

/-- Stages 2 to 4: the chargeable periods, rounded up (R117, R118). -/
def ridePeriods (t : Tariff) (duration : Nat) : Nat :=
  (min duration 20160 - t.freeMinutes + t.period - 1) / t.period

/-- Stage 5: the rate per period (R119). -/
def rideRate (t : Tariff) : BikeClass → Nat
  | .standard => t.periodPrice
  | .electric => t.periodPrice + t.supplement

/-- Stages 6 and 7: the charge (R119, R120). -/
def rideCharge (t : Tariff) (c : BikeClass) (duration : Nat) : Nat :=
  min (t.unlockFee + ridePeriods t duration * rideRate t c) t.rideCap

/-- The charge computation of a local return (section 6.3): the RETURN record's duration is held at 65,535 (R97). -/
def computeCharge (r : Rental) (minute : Nat) : Charge :=
  let d := rideDuration (r.checkout.getD 0) minute
  let c := rideCharge r.tariff r.cls d
  ⟨min d 65535, c, min c r.hold, c - min c r.hold⟩

/-- A local return closes the OPEN record in slot `k` (R96, R97). -/
def localReturn (b : BayIx) (minute : Nat) (k : Fin 64) (r : Rental) (s : State) : State :=
  let c := computeCharge r minute
  ((appendRecord (.returned ⟨minute, b, r.bay, r.bike, r.cls, r.rider, r.plan, r.checkout.getD 0, c.duration, c.charge,
    c.settled, c.due⟩) s).setRental k none).postBay b .returned

/-- A foreign return is written where the journal admits it (R98) and held where it does not (R99). -/
def foreignReturn (b : BayIx) (minute : Nat) (i : Identity) (s : State) : State :=
  let r : ForeignReturn := ⟨minute, b, i.bike, i.cls, i.battery⟩
  if s.admitsForeign then (appendRecord (.foreignReturn r) s).postBay b .returned
  else (({ s with heldOrder := s.heldOrder ++ [b] }).modBay b fun y => { y with held := some r }).postBay b .held

/-- The return minute is fixed: a missing arrival minute is recorded (R95). -/
def fixMinute (b : BayIx) (s : State) : State :=
  s.modBay b fun y => { y with arrival := some (y.arrival.getD s.clock.minute) }

/-- The return minute is fixed and the return-processed mark set (R18, R95). -/
def markProcessed (b : BayIx) (s : State) : State :=
  s.modBay b fun y => { y with processed := true, arrival := some (y.arrival.getD s.clock.minute) }

/-- A bay tests the conditions of return processing and processes a due return (R18, R95); a foreign return waits behind
a held one with its minute fixed and the mark left clear (R95, R100). -/
def processReturn (b : BayIx) (s : State) : State :=
  let y := s.bay b
  match y.identity with
  | none => s
  | some i =>
    if y.returnDue then
      let minute := y.arrival.getD s.clock.minute
      match s.openRental? i.bike with
      | some (k, r) => localReturn b minute k r (markProcessed b s)
      | none => if y.held.isSome then fixMinute b s else foreignReturn b minute i (markProcessed b s)
    else s

/-- The flush after a fall of the committed count (R130), then the waiting returns of the bays it wrote, in order
(R131). -/
def flush (s : State) : State :=
  let out := flushFrom s.heldOrder s
  out.2.foldl (fun t b => processReturn b t) out.1

/-! ### Bay states -/

/-- The lamp pattern of a state (spec 1.3). -/
def BayState.lamp : BayState → LampPattern
  | .vacant | .docked => .off
  | .latching | .unlatching => .slow
  | .released => .steady
  | .fault => .fast
  | .service => .double

/-- A bay's timers that belong to the state it leaves are stopped (R4, the timer table of 1.6, R77): the pending tag of
VACANT (R5), the tag window of DOCKED and FAULT, the take window of RELEASED, the retry delay of LATCHING and UNLATCHING,
and the unlatch deadline at RELEASED and FAULT. -/
def Bay.leave (new : BayState) (y : Bay) : Bay :=
  let y := match new with
    | .released | .fault => { y with deadline := .stopped }
    | .vacant | .latching | .docked | .unlatching | .service => y
  match y.state with
  | .vacant => { y with pendingTag := none }
  | .docked | .fault => { y with tagWindow := none }
  | .released => { y with takeWindow := none }
  | .latching | .unlatching => { y with retryDelay := none }
  | .service => y

/-- A bay record in a new state at count `now`, its lamp in the state's pattern, which begins with its first phase; the
same pattern is not restarted (R4, R24). -/
def Bay.turn (now : Nat) (new : BayState) (y : Bay) : Bay :=
  if y.lamp = new.lamp then { y with state := new }
  else { y with state := new, lamp := new.lamp, lampPhase := 0, lampSince := now }

/-- A change of a bay's state: its old timers stop, its lamp follows and STATE is posted; the same state posts nothing
(R4). -/
def changeState (b : BayIx) (new : BayState) (s : State) : State :=
  if (s.bay b).state = new then s
  else (s.modBay b fun y => (y.leave new).turn s.ms new).postBay b .state

/-- The tag window starts where no identity is known (R19). -/
def startTagWindow (b : BayIx) (s : State) : State :=
  if (s.bay b).identity.isNone then
    s.modBay b fun y => { y with tagWindow := some (s.ms + 1000 * s.settings.tagWindow) }
  else s

/-- What an entry to DOCKED, or to FAULT with presence PRESENT, does: the tag window, then return processing (R4). -/
def secured (b : BayIx) (s : State) : State := processReturn b (startTagWindow b s)

/-- Entry to DOCKED (R4). -/
def enterDocked (b : BayIx) (s : State) : State := secured b (changeState b .docked s)

/-- Entry to FAULT (R4). -/
def enterFault (b : BayIx) (s : State) : State :=
  let t := changeState b .fault s
  if (t.bay b).presence = .present then secured b t else t

/-- The drive request a bay holds by its state and link (R12). -/
def Bay.requestKind (y : Bay) : Option DriveKind :=
  match y.state, y.link with
  | .latching, _ => some .latch
  | .unlatching, .rental _ => some .unlatchRental
  | .unlatching, .staff => some .unlatchStaff
  | .unlatching, .readiness => some .unlatchReady
  | _, _ => none

/-- A bay posts its drive request with a new posting order, and its drive stage becomes queued (R12, R139). -/
def postRequest (b : BayIx) (s : State) : State :=
  match (s.bay b).requestKind with
  | some k =>
    ({ s with queue := s.queue ++ [(⟨b, k, s.nextOrder⟩ : DriveRequest)], nextOrder := s.nextOrder + 1 }).modBay b
      fun y => { y with driveStage := .queued }
  | none => s

/-- A bay takes back its queued request or stops its retry delay, and its drive stage becomes none (R6, R8, R78, R139). -/
def withdrawRequest (b : BayIx) (s : State) : State :=
  ({ s with queue := s.queue.filter fun q => decide (q.bay ≠ b) }).modBay b
    fun y => { y with driveStage := .noRequest, retryDelay := none }

/-- Entry to LATCHING with a LATCH request and attempt count 0 (R5, R7, R17, R21). -/
def enterLatching (b : BayIx) (s : State) : State :=
  postRequest b ((changeState b .latching s).modBay b fun y => { y with attempts := 0, link := .unlinked })

/-- Entry to UNLATCHING under a link, with its request and attempt count 0 (R5, R17, R29, R76). -/
def enterUnlatching (b : BayIx) (link : Link) (s : State) : State :=
  postRequest b ((changeState b .unlatching s).modBay b fun y => { y with attempts := 0, link := link })

/-- The record of a bay whose bike has gone: identity, arrival minute and return-processed mark cleared. -/
def Bay.clearBike (y : Bay) : Bay := { y with identity := none, arrival := none, processed := false }

/-- What re-derivation does to the record before it sets the state (R17); the bay holds no request and no link when it
begins. -/
def Bay.rederived (minute : Nat) (y : Bay) : Bay :=
  let y := { y with attempts := 0, presenceChanged := false, faultCause := none, link := .unlinked, driveStage := .noRequest }
  match y.presence with
  | .absent => y.clearBike
  | .present => { y with arrival := some (y.arrival.getD minute) }

/-- Re-derivation of a bay (R17). -/
def rederive (b : BayIx) (s : State) : State :=
  let t := s.modBay b (Bay.rederived s.clock.minute)
  match (t.bay b).presence, (t.bay b).latch with
  | .present, .closed => enterDocked b t
  | .present, .opened => enterLatching b t
  | .absent, .opened => changeState b .vacant t
  | .absent, .closed => enterUnlatching b .readiness t

/-- An alarm is raised: it stands in the set and ALARM is posted (R22). -/
def raiseAlarm (b : BayIx) (a : Alarm) (s : State) : State :=
  (s.modBay b fun y => { y with alarms := y.alarms.add a }).postBay b .alarm

/-! ### The ends of a release -/

/-- A release ends: the bay's last outcome is set, OUTCOME is posted, the deadline and the take window stop and the link
is dropped (R23, R77, R84, R87). -/
def endRelease (b : BayIx) (o : LastOutcome) (s : State) : State :=
  (s.modBay b fun y =>
    { y with lastOutcome := o, deadline := .stopped, takeWindow := none, link := .unlinked }).postBay b .outcome

/-- The HELD spent entry of a rider and serial is withdrawn (R62). -/
def withdrawSpent (rider serial : Nat) (s : State) : State :=
  { s with spent := s.spent.filter fun e => !(decide (e.rider = rider) && decide (e.serial = serial) && decide (e.state = .held)) }

/-- The HELD spent entry of a rider and serial becomes FINAL (R61). -/
def finalizeSpent (rider serial : Nat) (s : State) : State :=
  { s with spent := s.spent.map fun e =>
      if e.rider = rider ∧ e.serial = serial ∧ e.state = .held then { e with state := .finalized } else e }

/-- The PENDING or RELEASED record a rental link names. -/
def State.heldRental? (s : State) (k : Fin 64) : Option Rental :=
  (s.rentals[k]).filter fun r => decide (r.stage ≠ .opened)

/-- A PENDING or RELEASED record leaves the table, and a CASUAL one's HELD entry is withdrawn (R84, steps 1 and 2). -/
def removeRental (k : Fin 64) (r : Rental) (s : State) : State :=
  let t := s.setRental k none
  if r.plan = .casual then withdrawSpent r.rider r.serial t else t

/-- The release under a bay's link is discarded with a last outcome (R84, R87): a rental leaves the table, a staff
release is dropped, and the fall of the committed count flushes held returns. A readiness mark is no release. -/
def discardRelease (b : BayIx) (o : LastOutcome) (s : State) : State :=
  match (s.bay b).link with
  | .rental k =>
    match s.heldRental? k with
    | some r => flush (endRelease b o (removeRental k r s))
    | none => endRelease b o s
  | .staff => flush (endRelease b o s)
  | .unlinked | .readiness => s

/-- The rental in slot `k` passes to OPEN at the removal of its bike, its spent entry becomes FINAL and its CHECKOUT
record is written (R82, R83). -/
def openRental (k : Fin 64) (r : Rental) (s : State) : State :=
  let t := s.setRental k (some { r with stage := .opened, checkout := some s.clock.minute })
  let t := if r.plan = .casual then finalizeSpent r.rider r.serial t else t
  appendRecord (.checkout ⟨s.clock.minute, r.bay, r.bike, r.cls, r.rider, r.serial, r.plan, r.hold⟩) t

/-- The STAFF_REMOVAL record of a staff removal (R88). -/
def staffRecord (b : BayIx) (minute : Nat) (i : Option Identity) : JournalRecord :=
  .staffRemoval ⟨minute, b, (i.map (·.bike)).getD 0, i.map (·.cls)⟩

/-- The removal of a released bike (R82, R88), with its effects on the bay: identity, arrival minute and mark cleared,
last outcome CHECKED_OUT, OUTCOME posted, timers stopped, link dropped (R8, R9, R21). -/
def removeBike (b : BayIx) (s : State) : State :=
  let y := s.bay b
  let t := match y.link with
    | .rental k => match s.heldRental? k with
      | some r => openRental k r s
      | none => s
    | .staff => appendRecord (staffRecord b s.clock.minute y.identity) s
    | .unlinked | .readiness => s
  (endRelease b .checkedOut t).modBay b Bay.clearBike

end Sys2Proof.Machine
end

