-- ==== Sys2Proof/Machine/DenyList.lean ====
section
/-! DEFINITION. The deny list: DENY_ADD, DENY_REMOVE, DENY_CLEAR, DENY_LOOKUP. -/

namespace Sys2Proof.Machine

/-- An entry is in force (R51). -/
def DenyEntry.inForce (k : Clock) (e : DenyEntry) : Bool :=
  !k.isSet || e.expiry.all fun x => decide (k.minute < x)

/-- The stored entry of a rider. -/
def State.denyEntry? (s : State) (rider : Nat) : Option DenyEntry := s.deny.find? fun e => decide (e.rider = rider)

/-- The entry of a rider that bars it: stored and in force (R51, R53, R58). -/
def State.denied? (s : State) (rider : Nat) : Option DenyEntry :=
  (s.denyEntry? rider).filter fun e => e.inForce s.clock

/-- An entry is inserted at the place its rider number takes in ascending order (R50). -/
def insertDeny (e : DenyEntry) : List DenyEntry → List DenyEntry
  | [] => [e]
  | x :: rest => if e.rider < x.rider then e :: x :: rest else x :: insertDeny e rest

/-- The list with a rider's entry replaced in place (R55). -/
def updateDeny (e : DenyEntry) (l : List DenyEntry) : List DenyEntry :=
  l.map fun x => if x.rider = e.rider then e else x

/-- The position of a rider's entry: the number of entries with lower rider numbers (R50). -/
def State.denyPosition (s : State) (rider : Nat) : Nat := (s.deny.filter fun e => decide (e.rider < rider)).length

/-- The event of DENY_ADD (R55). -/
def denyAdd (e : DenyEntry) (s : State) : State × List Byte :=
  if e.rider = 0 ∨ e.reason = 0 ∨ 15 < e.reason then (s, statusOnly .range)
  else if (s.denyEntry? e.rider).isSome then
    ({ s with deny := updateDeny e s.deny }, okWith (be8 2 ++ be16 s.deny.length))
  else if s.deny.length < 1024 then
    ({ s with deny := insertDeny e s.deny }, okWith (be8 1 ++ be16 (s.deny.length + 1)))
  else (s, statusOnly .full)

/-- DENY_ADD (R55): expiry flag 0 stores no expiry minute (section 11.3). -/
def execDenyAdd (rider : BitVec 32) (reason flag : Byte) (expiry : BitVec 32) (s : State) :
    Host.Outcome State Fault Refusal :=
  .next (takeRequest 0x28 (denyAdd ⟨rider.toNat, reason.toNat, if flag = 0 then none else some expiry.toNat⟩) s)

/-- The event of DENY_REMOVE (R56). -/
def denyRemove (rider : Nat) (s : State) : State × List Byte :=
  if rider = 0 then (s, statusOnly .range)
  else match s.denyEntry? rider with
    | some e =>
      let t := { s with deny := s.deny.filter fun x => decide (x.rider ≠ rider) }
      (t, okWith (be8 e.reason ++ beOpt32 e.expiry ++ beFlag (e.inForce s.clock) ++ be16 t.deny.length))
    | none => (s, be8 Status.notFound.code ++ be16 s.deny.length)

/-- DENY_REMOVE (R56). -/
def execDenyRemove (rider : BitVec 32) (s : State) : Host.Outcome State Fault Refusal :=
  .next (takeRequest 0x29 (denyRemove rider.toNat) s)

/-- DENY_CLEAR (R57). -/
def execDenyClear (s : State) : Host.Outcome State Fault Refusal :=
  .next (takeRequest 0x2A (fun s => ({ s with deny := [] }, okWith (be16 s.deny.length))) s)

/-- DENY_LOOKUP (R58). -/
def execDenyLookup (rider : BitVec 32) (s : State) : Host.Outcome State Fault Refusal :=
  .next (takeRequest 0x2B (answer fun s =>
    if rider = 0 then statusOnly .range
    else match s.denied? rider.toNat with
      | some e => okWith (be8 e.reason ++ beOpt32 e.expiry ++ be16 (s.denyPosition rider.toNat) ++ be16 s.deny.length)
      | none => be8 Status.notFound.code ++ be16 s.deny.length) s)

end Sys2Proof.Machine
end

