-- ==== Sys2Proof/Machine/Keys.lean ====
section
/-! DEFINITION. The key store and the check code: KEY_LOAD, KEY_DROP, and the computation of R41 to R43. -/

namespace Sys2Proof.Machine

/-- The map of present key slots: one bit for each (R39, R197). That slot k stands in bit k is the model's choice (log 35). -/
def State.keyMap (s : State) : Nat :=
  bit 0 (s.keys[0]).isSome + bit 1 (s.keys[1]).isSome + bit 2 (s.keys[2]).isSome + bit 3 (s.keys[3]).isSome

/-- A key word K0 to K3 (R41): four big-endian words of the sixteen key bytes. -/
def keyWord (key : BitVec 128) (i : Nat) : BitVec 32 := key.extractLsb' (96 - 32 * (i % 4)) 32

/-- One round (R42): multiply by 31, add the byte and the key word, then the exclusive-or with the quotient by 8192. -/
def checkRound (word : BitVec 32) (b : Byte) (acc : BitVec 32) : BitVec 32 :=
  let a := acc * 31 + b.zeroExtend 32 + word
  a ^^^ (a >>> 13)

/-- The rounds over the bound bytes from round `i` on (R42). -/
def checkRounds (key : BitVec 128) : Nat → List Byte → BitVec 32 → BitVec 32
  | _, [], acc => acc
  | i, b :: rest, acc => checkRounds key (i + 1) rest (checkRound (keyWord key i) b acc)

/-- The check code of a token under a key (R41 to R43). -/
def checkCode (key : BitVec 128) (t : Token) : BitVec 32 :=
  checkRounds key 0 (Frame.boundBytes t) (keyWord key 0) ^^^ keyWord key 3

/-- A key slot is set or made absent. -/
def State.setKey (s : State) (k : Fin 4) (v : Option (BitVec 128)) : State :=
  { s with keys := s.keys.set k.val v k.isLt }

/-- KEY_LOAD (R39). -/
def execKeyLoad (slot : Byte) (key : BitVec 128) (s : State) : Host.Outcome State Fault Refusal :=
  .next (takeRequest 0x18 (fun s => match keySlotOf? slot with
    | some k => let t := s.setKey k (some key); (t, okWith (be8 t.keyMap))
    | none => (s, statusOnly .range)) s)

/-- KEY_DROP (R40). -/
def execKeyDrop (slot : Byte) (s : State) : Host.Outcome State Fault Refusal :=
  .next (takeRequest 0x19 (fun s => match keySlotOf? slot with
    | some k => let t := s.setKey k none; (t, okWith (beFlag (s.keys[k]).isSome ++ be8 t.keyMap))
    | none => (s, statusOnly .range)) s)

end Sys2Proof.Machine
end

