-- ==== Sys2Proof/Machine/Tariffs.lean ====
section
/-! DEFINITION. The tariff table: TARIFF_SET, TARIFF_GET, the hold and the entry threshold. -/

namespace Sys2Proof.Machine

/-- The entry of a plan, if it is set (R110). -/
def State.tariffOf (s : State) (p : Plan) : Option Tariff := s.tariffs[planIndex p]

/-- The hold at acceptance (R115). -/
def holdOf (p : Plan) (credit : Nat) (t : Tariff) : Nat :=
  match p with
  | .casual | .daypass => min credit t.rideCap
  | .member => 0

/-- The entry threshold of a CASUAL token (R116). -/
def entryThreshold (t : Tariff) (c : BikeClass) : Nat := min (t.unlockFee + rideRate t c) t.rideCap

/-- TARIFF_SET (R111). -/
def execTariffSet (plan : Byte) (unlockFee freeMinutes period periodPrice supplement rideCap : BitVec 16) (s : State) :
    Host.Outcome State Fault Refusal :=
  .next (takeRequest 0x20 (fun s => match planOf? plan with
    | some p =>
      let t := clampTariff ⟨unlockFee.toNat, freeMinutes.toNat, period.toNat, periodPrice.toNat, supplement.toNat,
        rideCap.toNat⟩
      ({ s with tariffs := s.tariffs.set (planIndex p).val (some t) (planIndex p).isLt },
        okWith (be8 p.code ++ beFlag (s.tariffOf p).isSome ++ tariffFields t))
    | none => (s, statusOnly .range)) s)

/-- TARIFF_GET (R113): the fields of an unset entry are reported as 0. -/
def execTariffGet (plan : Byte) (s : State) : Host.Outcome State Fault Refusal :=
  .next (takeRequest 0x21 (answer fun s => match planOf? plan with
    | some p => okWith (be8 p.code ++ beFlag (s.tariffOf p).isSome
        ++ tariffFields ((s.tariffOf p).getD ⟨0, 0, 0, 0, 0, 0⟩))
    | none => statusOnly .range) s)

end Sys2Proof.Machine
end

