-- ==== Sys2Proof/Machine/Checkout.lean ====
section
/-! DEFINITION. Checkout: PRESENT, its eighteen admission steps and its acceptance. -/

namespace Sys2Proof.Machine

/-- What a PRESENT that passes every step is accepted with. -/
structure Acceptance where
  bay      : BayIx
  slot     : Fin 64
  plan     : Plan
  identity : Identity
  hold     : Nat
  tariff   : Tariff
deriving DecidableEq, Repr

/-- The answer of the admission: a refusal with the reason code it carries, or an acceptance (R68). -/
inductive Admission where
  | refused (outcome : PresentOutcome) (reason : Nat)
  | accepted (a : Acceptance)
deriving DecidableEq, Repr

/-- The rental records of a rider, in every stage (R71). -/
def State.rentalsOfRider (s : State) (rider : Nat) : List Rental :=
  (allSlots.filterMap fun k => s.rentals[k]).filter fun r => decide (r.rider = rider)

/-- The record limit of a rider for a token's plan: 2 where that plan and all of its records are MEMBER, otherwise 1
(R71). -/
def recordLimit (p : Plan) (records : List Rental) : Nat :=
  if p = .member ∧ records.all (fun r => decide (r.plan = .member)) then 2 else 1

/-- The lowest-numbered free slot of the rental table (R75). -/
def State.freeSlot? (s : State) : Option (Fin 64) := allSlots.find? fun k => (s.rentals[k]).isNone

/-- A spent entry carries a rider and serial, HELD or FINAL (R64). -/
def State.isSpent (s : State) (rider serial : Nat) : Bool :=
  s.spent.any fun e => decide (e.rider = rider) && decide (e.serial = serial)

/-- Steps 13 to 18, at a bay whose identity, tariff and plan are known (R71 to R73). -/
def admitRecords (b : BayIx) (t : Token) (p : Plan) (i : Identity) (f : Tariff) (s : State) : Admission :=
  let records := s.rentalsOfRider t.rider.toNat
  if recordLimit p records ≤ records.length then .refused .alreadyRiding 0
  else match s.freeSlot? with
    | none => .refused .tableFull 0
    | some k =>
      if p = .casual ∧ 384 ≤ s.spent.length then .refused .spentFull 0
      else if 248 < s.committed + 2 then .refused .journalFull 0
      else if p = .casual ∧ t.credit.toNat < entryThreshold f i.cls then .refused .creditLow 0
      else if s.band = .critical ∨ s.band = .brownout then .refused .powerLow 0
      else .accepted ⟨b, k, p, i, holdOf p t.credit.toNat f, f⟩

/-- Steps 7 to 12, for a token of plan `p` that the token check has passed (R53, R64, R70). -/
def admitBike (b : BayIx) (t : Token) (p : Plan) (s : State) : Admission :=
  match s.denied? t.rider.toNat with
  | some e => .refused .denied e.reason
  | none =>
    if p = .casual ∧ s.isSpent t.rider.toNat t.serial.toNat then .refused .spent 0
    else match s.tariffOf p with
      | none => .refused .tariffUnset 0
      | some f =>
        match (s.bay b).identity with
        | none => .refused .bayNotReady 0
        | some i =>
          if !(s.bay b).rentable then .refused .bayNotReady 0
          else if !classPermitted (tokenClass t) i.cls then .refused .classNotAllowed 0
          else if i.cls = .electric ∧ i.battery < s.settings.minCharge then .refused .bikeLowCharge 0
          else admitRecords b t p i f s

/-- Steps 3 to 6: the token check (R33, R47). -/
def admitToken (b : BayIx) (t : Token) (s : State) : Admission :=
  match planOf? t.plan with
  | none => .refused .malformed 0
  | some p =>
    if malformed t then .refused .malformed 0
    else match s.keys[tokenSlot t] with
      | none => .refused .keyAbsent 0
      | some key =>
        if checkCode key t ≠ t.code then .refused .codeMismatch 0
        else if s.clock.minute < startMinute t s.settings.skew then .refused .notYet 0
        else if endMinute t ≤ s.clock.minute then .refused .expired 0
        else admitBike b t p s

/-- The admission of a PRESENT: the eighteen steps in order, the first failure ending it (R68, R69). -/
def admission (bay : Byte) (t : Token) (s : State) : Admission :=
  match bayOf? bay with
  | none => .refused .badBay 0
  | some b => if !s.clock.isSet then .refused .clockUnset 0 else admitToken b t s

/-- The rental record of an acceptance (R75). -/
def acceptedRental (a : Acceptance) (t : Token) (now : Nat) : Rental :=
  ⟨.pending, t.rider.toNat, t.serial.toNat, a.plan, a.identity.bike, a.identity.cls, a.bay, now, none, a.hold, a.tariff⟩

/-- A CASUAL acceptance appends a HELD spent entry (R60). -/
def holdSpent (p : Plan) (t : Token) (s : State) : State :=
  if p = .casual then
    { s with spent := s.spent ++ [⟨t.rider.toNat, t.serial.toNat, endMinute t, .held⟩] }
  else s

/-- A bay takes a release: last outcome NONE with no cause, the deadline running, the tag window stopped, the link taken
and the unlatch request posted on entry to UNLATCHING (R29, R76, R77). -/
def takeRelease (b : BayIx) (link : Link) (s : State) : State :=
  enterUnlatching b link (s.modBay b fun y =>
    { y with lastOutcome := .noOutcome, tagWindow := none, deadline := .running (s.ms + 1000 * s.settings.deadline) })

/-- The acceptance of a PRESENT (R75, R76). -/
def acceptRental (a : Acceptance) (t : Token) (s : State) : State :=
  takeRelease a.bay (.rental a.slot) (holdSpent a.plan t (s.setRental a.slot (some (acceptedRental a t s.ms))))

/-- The event of PRESENT (R68). -/
def presentToken (bay : Byte) (t : Token) (s : State) : State × List Byte :=
  match admission bay t s with
  | .refused o reason => (s, presentPayload o 0 0 reason)
  | .accepted a => (acceptRental a t s, presentPayload .accepted a.slot.val a.hold 0)

/-- PRESENT (R68). -/
def execPresent (bay : Byte) (t : Token) (s : State) : Host.Outcome State Fault Refusal :=
  .next (takeRequest 0x30 (presentToken bay t) s)

end Sys2Proof.Machine
end

