-- ==== Sys2Proof/Machine/Bays.lean ====
section
/-! DEFINITION. The requests at a bay: BAY_QUERY, BAY_SERVICE, BAY_CLEAR, STAFF_UNLATCH. -/

namespace Sys2Proof.Machine

/-- A request that names a bay; a bay number outside 1..32 is refused with RANGE (section 1.8). -/
def atBay (bay : Byte) (act : BayIx → State → State × List Byte) (s : State) : State × List Byte :=
  match bayOf? bay with
  | some b => act b s
  | none => (s, statusOnly .range)

/-- BAY_QUERY (R25, R205). -/
def execBayQuery (bay : Byte) (s : State) : Host.Outcome State Fault Refusal :=
  .next (takeRequest 0x40 (atBay bay fun b => answer fun s => bayQueryPayload s.ms (s.bay b)) s)

/-- The bay states from which service is accepted (R26). -/
def BayState.servable : BayState → Bool
  | .vacant | .docked | .fault => true
  | .latching | .unlatching | .released | .service => false

/-- A bay drops its pending tag, stops its timers and clears its fault cause (R26). -/
def Bay.quiet (y : Bay) : Bay :=
  { y with pendingTag := none, takeWindow := none, tagWindow := none, deadline := .stopped, retryDelay := none,
           faultCause := none }

/-- The event of BAY_SERVICE with the service flag on (R26). -/
def serviceOn (b : BayIx) (s : State) : State × List Byte :=
  if (s.bay b).state.servable then (changeState b .service (s.modBay b Bay.quiet), okWith (be8 BayState.service.code))
  else (s, statusOnly .state)

/-- The event of BAY_SERVICE with the service flag off (R27). -/
def serviceOff (b : BayIx) (s : State) : State × List Byte :=
  if (s.bay b).state = .service then
    let t := rederive b s
    (t, okWith (be8 (t.bay b).state.code))
  else (s, statusOnly .state)

/-- BAY_SERVICE (R26, R27): any flag but 0 sets service (section 11.3). -/
def execBayService (bay flag : Byte) (s : State) : Host.Outcome State Fault Refusal :=
  .next (takeRequest 0x41 (atBay bay fun b => if flag = 0 then serviceOff b else serviceOn b) s)

/-- The event of BAY_CLEAR (R28). -/
def clearBay (b : BayIx) (s : State) : State × List Byte :=
  let t := s.modBay b fun y => { y with alarms := noAlarms }
  let u := if (s.bay b).state = .fault then rederive b (t.modBay b fun y => { y with faultCause := none }) else t
  (u, okWith (be8 (u.bay b).state.code ++ be8 (s.bay b).alarms.code))

/-- BAY_CLEAR (R28). -/
def execBayClear (bay : Byte) (s : State) : Host.Outcome State Fault Refusal :=
  .next (takeRequest 0x42 (atBay bay clearBay) s)

/-- The event of STAFF_UNLATCH (R29, R127). -/
def staffUnlatch (b : BayIx) (s : State) : State × List Byte :=
  if (s.bay b).state ≠ .docked then (s, statusOnly .state)
  else if 248 < s.committed + 1 then (s, statusOnly .full)
  else (takeRelease b .staff s, statusOnly .ok)

/-- STAFF_UNLATCH (R29). -/
def execStaffUnlatch (bay : Byte) (s : State) : Host.Outcome State Fault Refusal :=
  .next (takeRequest 0x43 (atBay bay staffUnlatch) s)

end Sys2Proof.Machine
end

