-- ==== Sys2Proof/Config.lean ====
section
/-! DEFINITION. What the spec leaves open: the free values. Each is a constant with no body, so nothing can be proved
of its value. -/

namespace Sys2Proof.Config

/-- The millisecond count after a step past its largest value. DESIGN CHOICE (log 6): R178 gives no value there. -/
opaque countPastEnd : Nat → BitVec 48

/-- A conversion count read from an analog input before its first conversion. DESIGN CHOICE (log 7): R162 gives none. -/
opaque unconverted : Nat → BitVec 10

/-- Which of several events due at one count is taken first. DESIGN CHOICE (log 37): the spec allows every order (R21, R179,
R185). -/
opaque firstDue : Nat → Nat

/-- The counts at which the select chain is refreshed, modulo 4. DESIGN CHOICE (log 38): R144 says every 4 ms and no more. -/
opaque refreshPhase : Nat

end Sys2Proof.Config
end

