-- ==== Sys2Proof/Machine/Clock.lean ====
section
/-! DEFINITION. Time base, station clock and settings: SET_TIME, GET_TIME, SETTINGS_SET, SETTINGS_GET, CLOCK_SECOND,
MINUTE_EVENT, and what one crystal period does to the time base and the clock. -/

namespace Sys2Proof.Machine

/-- An entry the deny sweep removes: its expiry minute is at or before the station minute (R52). -/
def DenyEntry.swept (minute : Nat) (e : DenyEntry) : Bool := e.expiry.any fun x => decide (x ≤ minute)

/-- An entry the spent sweep removes: FINAL with its end minute at or before the station minute (R63). -/
def SpentEntry.swept (minute : Nat) (e : SpentEntry) : Bool :=
  decide (e.state = .finalized) && decide (e.endMinute ≤ minute)

/-- The deny sweep and the spent sweep with the station minute as it stands (R52, R63). -/
def sweep (s : State) : State :=
  { s with
    deny := s.deny.filter fun e => !e.swept s.clock.minute
    spent := s.spent.filter fun e => !e.swept s.clock.minute }

/-- A minute event (R180): second and phase stand at 0 and the minute rises, held at its largest; it is delivered to the
two lists while the part runs (R181, R183). -/
def minuteEvent (s : State) : State :=
  let t := { s with clock := { s.clock with minute := min maxMinute (s.clock.minute + 1), second := 0, phase := 0,
                                                boundary := false } }
  if t.running then sweep t else t

/-- The return of the second to 0 is a minute event: the set flag is true (R180, R182). -/
def Clock.minuteDue (k : Clock) : Bool := k.isSet && decide (59 ≤ k.second)

/-- The event of a second boundary (R180): the second rises, or returns to 0, which with the clock set is a minute event.
The phase has returned to 0 when it reached 32,768 periods. -/
def clockSecond (s : State) : State :=
  if s.clock.minuteDue then minuteEvent s
  else { s with clock := { s.clock with
    second := if s.clock.second < 59 then s.clock.second + 1 else 0, phase := 0, boundary := false } }

/-- The crystal runs while either supply is present (section 10.1). The validity mark is read as the presence of the backup
supply: one that failed is taken to be present again after the cold reset that follows, which is the model's choice (R176,
log 40). -/
def State.crystalRuns (s : State) : Bool := s.mainPower || s.backupValid

/-- One step of the millisecond count; past its largest value it is a free value (R178, log 6). -/
def countUp (s : State) : State :=
  if s.ms < maxCount then { s with ms := s.ms + 1 }
  else { s with ms := (Config.countPastEnd s.freeIndex).toNat, freeIndex := s.freeIndex + 1 }

/-- One crystal period of the time base: a thousand counts for every 32,768 periods, spread evenly (R178, log 23). -/
def tickCount (s : State) : State :=
  if s.msRemainder + 1000 < 32768 then { s with msRemainder := s.msRemainder + 1000 }
  else { countUp s with msRemainder := s.msRemainder + 1000 - 32768 }

/-- One crystal period of the station clock (R180): a phase that reaches 32,768 periods returns to 0, and its second
boundary is due (log 18). -/
def tickPhase (s : State) : State :=
  if s.clock.phase + 1 < 32768 then { s with clock := { s.clock with phase := s.clock.phase + 1 } }
  else { s with clock := { s.clock with phase := 0, boundary := true } }

/-- One crystal period passes: the time base counts while the part runs, and the clock while either supply is present
(section 10.1, R178, R180). -/
def crystalPeriod (s : State) : State :=
  if s.crystalRuns then tickPhase (if s.running then tickCount s else s) else s

/-- The event of SET_TIME (R184); a second boundary that was due does not come (R185). -/
def setTime (minute second : Nat) (s : State) : State × List Byte :=
  if 59 < second then (s, statusOnly .range)
  else
    let t := { s with clock := { minute := minute, second := second, phase := 0, isSet := true, boundary := false } }
    (sweep t, okWith (be32 s.clock.minute ++ be8 s.clock.second ++ beFlag s.clock.isSet ++ be32 minute ++ be8 second
      ++ be16 (s.deny.length - (sweep t).deny.length) ++ be16 (s.spent.length - (sweep t).spent.length)))

/-- SET_TIME (R184). -/
def execSetTime (minute : BitVec 32) (second : Byte) (s : State) : Host.Outcome State Fault Refusal :=
  .next (takeRequest 0x10 (setTime minute.toNat second.toNat) s)

/-- GET_TIME (R186). -/
def execGetTime (s : State) : Host.Outcome State Fault Refusal :=
  .next (takeRequest 0x11 (answer fun s =>
    okWith (be32 s.clock.minute ++ be8 s.clock.second ++ beFlag s.clock.isSet ++ be48 s.ms)) s)

/-- SETTINGS_SET (R189). -/
def execSettingsSet (skew takeWindow tagWindow deadline minCharge deadTime : Byte) (s : State) :
    Host.Outcome State Fault Refusal :=
  .next (takeRequest 0x12 (fun s =>
    let t := clampSettings ⟨skew.toNat, takeWindow.toNat, tagWindow.toNat, deadline.toNat, minCharge.toNat,
      deadTime.toNat⟩
    ({ s with settings := t }, okWith (settingsFields t))) s)

/-- SETTINGS_GET (R190). -/
def execSettingsGet (s : State) : Host.Outcome State Fault Refusal :=
  .next (takeRequest 0x13 (answer fun s => okWith (settingsFields s.settings)) s)

/-- A second boundary is due: the crystal runs and the phase has reached 32,768 periods (R180). -/
def State.secondDue (s : State) : Bool := s.crystalRuns && s.clock.boundary

/-- CLOCK_SECOND: a second boundary that is due is taken (R180). -/
def execClockSecond (s : State) : Host.Outcome State Fault Refusal :=
  .next (if s.secondDue then clockSecond s else s)

/-- MINUTE_EVENT: a second boundary that is due is taken where it is a minute event (R180, R181, R182). -/
def execMinuteEvent (s : State) : Host.Outcome State Fault Refusal :=
  .next (if s.secondDue && s.clock.minuteDue then minuteEvent s else s)

end Sys2Proof.Machine
end

