-- ==== Sys2Proof/Machine/DriveOps.lean ====
section
/-! DEFINITION. The drive operations the commands share: the arbiter, the course of a pulse, its completion at the bay,
and the abort of every pulse in a brownout. -/

namespace Sys2Proof.Machine

/-- How many channels may drive in a band (R142). -/
def Band.allowance : Band → Nat
  | .normal => 4 | .low => 2 | .critical => 1 | .brownout => 0

/-- The kinds a band may grant (R142). -/
def Band.admits : Band → DriveKind → Bool
  | .normal, _ | .low, _ => true
  | .critical, .latch => true
  | .critical, .unlatchRental | .critical, .unlatchStaff | .critical, .unlatchReady => false
  | .brownout, _ => false

/-- The class of a kind: LATCH first, UNLATCH_RENTAL second, UNLATCH_STAFF and UNLATCH_READY third (R141). -/
def DriveKind.rank : DriveKind → Nat
  | .latch => 1 | .unlatchRental => 2 | .unlatchStaff | .unlatchReady => 3

/-- The pulse a channel drives, if it is DRIVING. -/
def State.pulse? (s : State) (c : Fin 4) : Option Pulse :=
  match (s.channels[c]).mode with
  | .driving p => some p
  | .idle | .disabled => none

/-- A channel record is set. -/
def State.setChannel (s : State) (c : Fin 4) (x : Channel) : State :=
  { s with channels := s.channels.set c.val x c.isLt }

/-- A channel goes on driving with its pulse changed. -/
def State.setPulse (s : State) (c : Fin 4) (p : Pulse) : State :=
  s.setChannel c { s.channels[c] with mode := .driving p }

/-- The lamp is on in its present phase (R24). -/
def Bay.lampOn (y : Bay) : Bool :=
  match y.lamp with
  | .off => false
  | .steady => true
  | .slow | .fast => decide (y.lampPhase = 0)
  | .double => decide (y.lampPhase = 0 ∨ y.lampPhase = 2)

/-- The number of channels in DRIVING, in any phase (R142). -/
def State.drivingCount (s : State) : Nat := (allChannels.filter fun c => (s.pulse? c).isSome).length

/-- A bay is held by a channel in DRIVING (R140). -/
def State.bayHeld (s : State) (b : BayIx) : Bool :=
  allChannels.any fun c => (s.pulse? c).any fun p => decide (p.bay = b)

/-- The lowest-numbered IDLE channel (R140). -/
def State.idleChannel? (s : State) : Option (Fin 4) :=
  allChannels.find? fun c => decide ((s.channels[c]).mode = .idle)

/-- The band allows a waiting request and no channel holds its bay (R140). -/
def State.grantable (s : State) (q : DriveRequest) : Bool := s.band.admits q.kind && !s.bayHeld q.bay

/-- The request the arbiter chooses: by class, then by posting order, the order of the queue (R141). -/
def State.chosenRequest? (s : State) : Option DriveRequest :=
  let waiting := s.queue.filter s.grantable
  (waiting.find? fun q => decide (q.kind.rank = 1)) <|> (waiting.find? fun q => decide (q.kind.rank = 2))
    <|> waiting.head?

/-- The stored profile of a kind (R148). -/
def State.profileOf (s : State) : DriveKind → Profile
  | .latch => s.latchProfile
  | .unlatchRental | .unlatchStaff | .unlatchReady => s.unlatchProfile

/-- A request becomes a pulse on a channel: the four effects of a grant (R140, R148, R151, R154). -/
def grantTo (c : Fin 4) (q : DriveRequest) (s : State) : State :=
  let p : Pulse := ⟨q.bay, q.kind, .connect, s.profileOf q.kind, s.settings.deadTime, s.ms, s.ms, none, false, false⟩
  (({ s with queue := s.queue.erase q }).setChannel c ⟨.driving p, 0, 0⟩).modBay q.bay
    fun y => { y with driveStage := .driving }

/-- One grant, where the three conditions of R140 hold together. -/
def grantOne (s : State) : Option State :=
  if s.drivingCount < s.band.allowance then
    match s.idleChannel?, s.chosenRequest? with
    | some c, some q => some (grantTo c q s)
    | _, _ => none
  else none

/-- The arbiter goes on granting, at most `n` times, until a condition fails (R140). -/
def grantMany : Nat → State → State
  | 0, s => s
  | n + 1, s => match grantOne s with
    | some t => grantMany n t
    | none => s

/-- The arbiter looks for grants (R140): four channels allow at most four. -/
def arbitrate (s : State) : State := grantMany 4 s

/-- KICK or HOLD, where the motor is driven (R145). -/
def Phase.drives : Phase → Bool
  | .kick | .hold => true
  | .connect | .deadtime1 | .deadtime2 | .brake | .coast => false

/-- A short ends the pulse: the channel goes to the second DEADTIME on the way to COAST, its result is JAM, and CHANNEL is
posted (R154). -/
def takeShort (c : Fin 4) (p : Pulse) (s : State) : State :=
  (s.setPulse c { p with phase := .deadtime2, result := some .jam, shorted := true }).postChannel

/-- The end of a drive: the second DEADTIME (R146); a scan that has completed a short is taken as a short (R154). -/
def endDrive (c : Fin 4) (p : Pulse) (s : State) : State :=
  if (s.channels[c]).short = 2 then takeShort c p s else s.setPulse c { p with phase := .deadtime2 }

/-- The debounced latch of a bay, just written CLOSED, ends a LATCH drive of that bay (R152). -/
def latchClosedEndsDrive (b : BayIx) (s : State) : State :=
  allChannels.foldl (fun t c => match t.pulse? c with
    | some p => if p.bay = b ∧ p.kind = .latch ∧ p.phase.drives then endDrive c p t else t
    | none => t) s

/-- A fall into BROWNOUT stops a channel's pulse unless its result has been reported or a short has ended it (R157). The
COAST it begins waits for a refresh of its own, also where a refresh had come for CONNECT (R146, log 38). -/
def abortChannel (s : State) (c : Fin 4) : State :=
  match s.pulse? c with
  | some p =>
    if p.shorted ∨ p.phase = .coast then s
    else if p.phase.drives ∧ (s.channels[c]).short = 2 then takeShort c p s
    else s.setPulse c { p with phase := .coast, result := some .abort, refreshed := false }
  | none => s

/-- A fall into BROWNOUT stops every pulse not yet reported (R157). -/
def brownoutAbort (s : State) : State := allChannels.foldl abortChannel s

/-- A JAM starts the retry delay of 2 s, or at the third failure sends the bay to FAULT with its release ended JAMMED
(R16). -/
def retryOrFault (b : BayIx) (cause : FaultCause) (s : State) : State :=
  let y := s.bay b
  if y.attempts < 2 then
    s.modBay b fun y => { y with attempts := y.attempts + 1, driveStage := .retryWait, retryDelay := some (s.ms + 2000) }
  else
    let t := s.modBay b fun y =>
      { y with faultCause := some cause, driveStage := .noRequest, attempts := 0, takeWindow := none, tagWindow := none,
               deadline := .stopped, retryDelay := none, pendingTag := none }
    enterFault b ((discardRelease b .jammed t).modBay b fun y => { y with link := .unlinked })

/-- A completion with the presence-changed mark set: mark, request, attempt count and link are cleared and the bay is
re-derived (R13, R14, R15). -/
def completeChanged (b : BayIx) (s : State) : State :=
  rederive b (s.modBay b fun y =>
    { y with presenceChanged := false, driveStage := .noRequest, attempts := 0, link := .unlinked })

/-- The drive stage of a bay becomes none (R12). -/
def clearStage (b : BayIx) (s : State) : State := s.modBay b fun y => { y with driveStage := .noRequest }

/-- The bay handles the completion of a LATCH pulse (R13). -/
def completeLatch (b : BayIx) (r : PulseResult) (s : State) : State :=
  if (s.bay b).presenceChanged then completeChanged b s
  else match r with
    | .done => if (s.bay b).latch = .closed then enterDocked b (clearStage b s) else retryOrFault b .latchJam s
    | .jam => retryOrFault b .latchJam s
    | .abort => postRequest b (clearStage b s)

/-- The bay handles the completion of an UNLATCH_READY pulse (R14). -/
def completeReady (b : BayIx) (r : PulseResult) (s : State) : State :=
  if (s.bay b).presenceChanged then completeChanged b s
  else match r with
    | .done => rederive b ((clearStage b s).modBay b fun y => { y with link := .unlinked })
    | .jam => retryOrFault b .unlatchJam s
    | .abort => postRequest b (clearStage b s)

/-- A rental release is open to be taken: its record passes from PENDING to RELEASED (R80). -/
def releaseRental (b : BayIx) (s : State) : State :=
  match (s.bay b).link with
  | .rental k => match s.heldRental? k with
    | some r => s.setRental k (some { r with stage := .released })
    | none => s
  | .unlinked | .staff | .readiness => s

/-- Entry to RELEASED: the deadline stops and the take window starts (R15, R21, R77, R80). -/
def enterReleased (b : BayIx) (s : State) : State :=
  (changeState b .released (releaseRental b (clearStage b s))).modBay b
    fun y => { y with takeWindow := some (s.ms + 1000 * s.settings.takeWindow) }

/-- The bay handles the completion of an UNLATCH_RENTAL or UNLATCH_STAFF pulse (R15, R79). -/
def completeRelease (b : BayIx) (r : PulseResult) (s : State) : State :=
  if (s.bay b).presenceChanged then completeChanged b s
  else match r with
    | .done => enterReleased b s
    | .jam =>
      if (s.bay b).deadline = .passed then rederive b (discardRelease b .jammed (clearStage b s))
      else retryOrFault b .unlatchJam s
    | .abort => rederive b (discardRelease b .powerAbort (clearStage b s))

/-- A completion is handed to the bay, which handles it by the rule of the kind; a bay whose drive stage is not driving
takes none (R159). -/
def complete (b : BayIx) (k : DriveKind) (r : PulseResult) (s : State) : State :=
  if (s.bay b).driveStage = .driving then
    match k with
    | .latch => completeLatch b r s
    | .unlatchReady => completeReady b r s
    | .unlatchRental | .unlatchStaff => completeRelease b r s
  else s

/-- The result of a pulse from the bay's debounced latch as it stands (R152, R153). -/
def pulseResult (k : DriveKind) (l : Latch) : PulseResult :=
  match k, l with
  | .latch, .closed => .done
  | .latch, .opened => .jam
  | .unlatchRental, .opened | .unlatchStaff, .opened | .unlatchReady, .opened => .done
  | .unlatchRental, .closed | .unlatchStaff, .closed | .unlatchReady, .closed => .jam

/-- The end of BRAKE: the result is fixed from the latch and reported, and the channel enters COAST (R146). -/
def finishBrake (c : Fin 4) (p : Pulse) (s : State) : State :=
  let r := pulseResult p.kind (s.bay p.bay).latch
  complete p.bay p.kind r (s.setPulse c { p with phase := .coast, result := some r })

/-- KICK begins at the end of the first DEADTIME: a LATCH drive whose latch reads CLOSED ends at once (R152), and a kick
time of 0 goes straight on to HOLD (R145). -/
def beginKick (c : Fin 4) (p : Pulse) (s : State) : State :=
  let p := { p with kickStart := s.ms }
  if p.kind = .latch ∧ (s.bay p.bay).latch = .closed then s.setPulse c { p with phase := .deadtime2 }
  else if p.profile.kickTime = 0 then s.setPulse c { p with phase := .hold }
  else s.setPulse c { p with phase := .kick }

/-- The end of the second DEADTIME: BRAKE, which a brake time of 0 ends as it begins (R146), or COAST after a short
(R154). -/
def endSecondDeadtime (c : Fin 4) (p : Pulse) (s : State) : State :=
  if p.shorted then s.setPulse c { p with phase := .coast }
  else
    let p := { p with phase := .brake, brakeStart := s.ms }
    if p.profile.brakeTime = 0 then finishBrake c p (s.setPulse c p) else s.setPulse c p

/-- The end of COAST: an ABORT or the JAM of a short is reported (R154, R157, R159), then the channel becomes IDLE, or
DISABLED after a short (R143), and the arbiter looks for grants (R140). -/
def finishCoast (c : Fin 4) (p : Pulse) (s : State) : State :=
  let t := match p.result with
    | some .abort => complete p.bay p.kind .abort s
    | some r => if p.shorted then complete p.bay p.kind r s else s
    | none => s
  arbitrate (t.setChannel c { t.channels[c] with mode := if p.shorted then .disabled else .idle })

/-- A conversion of an input takes place where the scanner runs, RESET held or not (log 24), and has reached the slot of that
input, and the scanner goes on to the next slot of its fixed order, after the battery to a new scan (R162). In another slot
there is no such conversion (log 3). -/
def convert (slot : Fin 5) (take : State → State) (s : State) : State :=
  if s.mainPower && decide (s.scanSlot = slot) then take { s with scanSlot := s.scanSlot + 1 } else s

/-- Some channel is in KICK (R165). -/
def State.anyKick (s : State) : Bool := allChannels.any fun c => (s.pulse? c).any fun p => decide (p.phase = .kick)

/-- A scan of the channel's current counts for its stall: the inrush mask has passed since the start of KICK (R151,
log 12). -/
def pastMask (now : Nat) (p : Pulse) : Bool :=
  decide (p.profile.inrushMask < now - p.kickStart ∨ p.profile.inrushMask = 0)

/-- The channel's stall and short counts after one scan of its current (R151, R154). Where a count has already reached its
end the drive is ending and no further scan is counted (log 9). -/
def countCurrent (now mA : Nat) (p : Pulse) (x : Channel) : Channel :=
  if x.short = 2 ∨ p.profile.stallTime ≤ x.stall then x
  else
    { x with
      short := if 4000 ≤ mA then x.short + 1 else 0
      stall := if pastMask now p then (if p.profile.stallThreshold ≤ mA then x.stall + 1 else 0) else x.stall }

end Sys2Proof.Machine
end

