-- ==== Sys2Proof/Machine/Drive.lean ====
section
/-! DEFINITION. The latch drive: PROFILE_SET, PROFILE_GET, CHANNEL_ENABLE, GRANT and the events of a pulse. A pulse event
acts on a pulse in the phase it ends and leaves every other state as it stands (log 3). -/

namespace Sys2Proof.Machine

/-- The stored profiles by profile number less one: LATCH and UNLATCH (R149). -/
inductive ProfileName where
  | latch | unlatch
deriving DecidableEq, Repr

/-- The profile a byte names: 1 LATCH, 2 UNLATCH (R206). -/
def profileOf? (n : Byte) : Option ProfileName :=
  if n = 1 then some .latch else if n = 2 then some .unlatch else none

/-- The stored profile of a name (R147). -/
def State.storedProfile (s : State) : ProfileName → Profile
  | .latch => s.latchProfile
  | .unlatch => s.unlatchProfile

/-- A stored profile is replaced (R149). -/
def State.storeProfile (s : State) (p : Profile) : ProfileName → State
  | .latch => { s with latchProfile := p }
  | .unlatch => { s with unlatchProfile := p }

/-- The event of PROFILE_SET (R149). -/
def profileSet (n : Byte) (p : Profile) (s : State) : State × List Byte :=
  match profileOf? n with
  | some x => (s.storeProfile (clampProfile p) x, okWith ([n] ++ profileFields (clampProfile p)))
  | none => (s, statusOnly .range)

/-- PROFILE_SET (R149). -/
def execProfileSet (profile : Byte) (kickDuty : BitVec 16) (kickTime : Byte) (holdDuty travelLimit stallThreshold : BitVec 16)
    (stallTime inrushMask brakeTime : Byte) (s : State) : Host.Outcome State Fault Refusal :=
  .next (takeRequest 0x50 (profileSet profile ⟨kickDuty.toNat, kickTime.toNat, holdDuty.toNat, travelLimit.toNat,
    stallThreshold.toNat, stallTime.toNat, inrushMask.toNat, brakeTime.toNat⟩) s)

/-- PROFILE_GET (R150). -/
def execProfileGet (profile : Byte) (s : State) : Host.Outcome State Fault Refusal :=
  .next (takeRequest 0x51 (answer fun s => match profileOf? profile with
    | some x => okWith ([profile] ++ profileFields (s.storedProfile x))
    | none => statusOnly .range) s)

/-- A DISABLED channel becomes IDLE with its short count 0, and the arbiter looks for grants (R156, R140). -/
def enableChannel (c : Fin 4) (s : State) : State :=
  if (s.channels[c]).mode = .disabled then arbitrate (s.setChannel c { s.channels[c] with mode := .idle, short := 0 })
  else s

/-- The event of CHANNEL_ENABLE (R156, log 11). -/
def channelEnable (n : Byte) (s : State) : State × List Byte :=
  match channelOf? n with
  | some c =>
    let t := enableChannel c s
    (t, okWith (beFlag (decide ((s.channels[c]).mode = .disabled)) ++ be8 (t.channels[c]).mode.code))
  | none => (s, statusOnly .range)

/-- CHANNEL_ENABLE (R156). -/
def execChannelEnable (channel : Byte) (s : State) : Host.Outcome State Fault Refusal :=
  .next (takeRequest 0x52 (channelEnable channel) s)

/-- GRANT (R140, log 31). -/
def execGrant (s : State) : Host.Outcome State Fault Refusal := .next (whenRunning s arbitrate)

/-- An event of the pulse a channel drives; where the channel drives none the event changes nothing (log 3). -/
def pulseEvent (c : Fin 4) (act : Pulse → State → State) (s : State) : State :=
  whenRunning s fun s => match s.pulse? c with
    | some p => act p s
    | none => s

/-- A phase that a refresh of the select chain ends (R144, R146). -/
def Phase.awaitsRefresh : Phase → Bool
  | .connect | .coast => true
  | .deadtime1 | .kick | .hold | .deadtime2 | .brake => false

/-- A refresh comes for a pulse in CONNECT, which it joins to its bay, and for one in COAST, which it parts from it (R144,
R146). -/
def Pulse.refresh (p : Pulse) : Pulse := if p.phase.awaitsRefresh then { p with refreshed := true } else p

/-- A refresh at a channel. -/
def Channel.refresh (x : Channel) : Channel :=
  match x.mode with
  | .driving p => { x with mode := .driving p.refresh }
  | .idle | .disabled => x

/-- The channel that a refresh carries to a bay: the one that drives the bay and is not in COAST, from the first refresh after
the grant to the one that ends COAST (R144, R146), and none where no pulse is in flight for the bay (R160). -/
def State.carriedChannel (s : State) (b : BayIx) : Option (Fin 4) :=
  allChannels.find? fun c => (s.pulse? c).any fun p => decide (p.bay = b ∧ p.phase ≠ .coast)

/-- What a refresh puts on the select chain for a bay (R24, R144). -/
def State.chainSlot (s : State) (b : BayIx) : ChainSlot := ⟨s.carriedChannel b, (s.bay b).lampOn⟩

/-- The refresh of the select chain, where the count stands at one that no event has made: the chain takes its new values for
every bay, and the refresh comes for every channel in CONNECT or COAST at once, whose ends are separate events (R24, R144,
R146, R160, R178, log 38). -/
def refreshChain (s : State) : State :=
  if s.refreshDue then
    { s with refreshDue := false, chain := Vector.ofFn s.chainSlot, channels := s.channels.map Channel.refresh }
  else s

/-- A refresh ends the phase of a pulse: one that has come for its channel, or the one that the count stands at, which the
first such event of the count makes (log 38). -/
def State.refreshes (s : State) (p : Pulse) : Bool := s.refreshDue || p.refreshed

/-- The end of CONNECT at the refresh of the select chain, which joins the channel to the bay: the first DEADTIME (R144). -/
def endConnect (c : Fin 4) (p : Pulse) (s : State) : State :=
  if p.phase = .connect ∧ s.refreshes p then
    (refreshChain s).setPulse c { p with phase := .deadtime1, refreshed := false }
  else s

/-- CONNECT_END (R144). -/
def execConnectEnd (c : Fin 4) (s : State) : Host.Outcome State Fault Refusal := .next (pulseEvent c (endConnect c) s)

/-- The end of a DEADTIME: KICK after the first (R144), BRAKE or COAST after the second (R146, R154). -/
def endDeadtime (c : Fin 4) (p : Pulse) (s : State) : State :=
  match p.phase with
  | .deadtime1 => beginKick c p s
  | .deadtime2 => endSecondDeadtime c p s
  | .connect | .kick | .hold | .brake | .coast => s

/-- DEADTIME_END (R144, R146). -/
def execDeadtimeEnd (c : Fin 4) (s : State) : Host.Outcome State Fault Refusal := .next (pulseEvent c (endDeadtime c) s)

/-- The kick time has passed since KICK began (R145, R179). -/
def Pulse.kickOver (now : Nat) (p : Pulse) : Bool :=
  decide (p.phase = .kick) && decide (p.kickStart + p.profile.kickTime ≤ now)

/-- The end of KICK after the kick time: HOLD (R145). -/
def endKick (c : Fin 4) (p : Pulse) (s : State) : State :=
  if p.kickOver s.ms then s.setPulse c { p with phase := .hold } else s

/-- KICK_END (R145). -/
def execKickEnd (c : Fin 4) (s : State) : Host.Outcome State Fault Refusal := .next (pulseEvent c (endKick c) s)

/-- A channel in KICK or HOLD counts a conversion of its current (R151, R154, R164). -/
def countScan (c : Fin 4) (mA : Nat) (s : State) : State :=
  match s.pulse? c with
  | some p => if p.phase.drives then s.setChannel c (countCurrent s.ms mA p s.channels[c]) else s
  | none => s

/-- The conversion of a channel's current: the latest value is replaced (R162), and the running part counts it (R164). -/
def takeCurrent (c : Fin 4) (mA : Nat) : State → State :=
  convert c.castSucc fun s => whenRunning { s with currents := s.currents.set c.val mA c.isLt } (countScan c mA)

/-- CURRENT_CONVERSION (R164). -/
def execCurrentConversion (c : Fin 4) (count : BitVec 10) (s : State) : Host.Outcome State Fault Refusal :=
  .next (takeCurrent c (currentOf count) s)

/-- The stall count has reached the copied stall time in KICK or HOLD (R151). -/
def Pulse.stalled (x : Channel) (p : Pulse) : Bool := p.phase.drives && decide (p.profile.stallTime ≤ x.stall)

/-- A stall ends the drive (R151). -/
def stallEnds (c : Fin 4) (p : Pulse) (s : State) : State :=
  if p.stalled s.channels[c] then endDrive c p s else s

/-- STALL (R151). -/
def execStall (c : Fin 4) (s : State) : Host.Outcome State Fault Refusal := .next (pulseEvent c (stallEnds c) s)

/-- The time since KICK began has reached the copied travel limit in KICK or HOLD (R152, R153, R179). -/
def Pulse.atLimit (now : Nat) (p : Pulse) : Bool :=
  p.phase.drives && decide (p.kickStart + p.profile.travelLimit ≤ now)

/-- The travel limit ends the drive (R152, R153). -/
def limitEnds (c : Fin 4) (p : Pulse) (s : State) : State :=
  if p.atLimit s.ms then endDrive c p s else s

/-- TRAVEL_LIMIT (R152, R153). -/
def execTravelLimit (c : Fin 4) (s : State) : Host.Outcome State Fault Refusal := .next (pulseEvent c (limitEnds c) s)

/-- The short count has reached 2 in KICK or HOLD (R154). -/
def Pulse.shorts (x : Channel) (p : Pulse) : Bool := p.phase.drives && decide (x.short = 2)

/-- A short stops the pulse (R154). -/
def shortEnds (c : Fin 4) (p : Pulse) (s : State) : State :=
  if p.shorts s.channels[c] then takeShort c p s else s

/-- SHORT (R154). -/
def execShort (c : Fin 4) (s : State) : Host.Outcome State Fault Refusal := .next (pulseEvent c (shortEnds c) s)

/-- The brake time has passed since BRAKE began (R146, R179). -/
def Pulse.brakeOver (now : Nat) (p : Pulse) : Bool :=
  decide (p.phase = .brake) && decide (p.brakeStart + p.profile.brakeTime ≤ now)

/-- The end of BRAKE after the brake time (R146). -/
def endBrake (c : Fin 4) (p : Pulse) (s : State) : State :=
  if p.brakeOver s.ms then finishBrake c p s else s

/-- BRAKE_END (R146). -/
def execBrakeEnd (c : Fin 4) (s : State) : Host.Outcome State Fault Refusal := .next (pulseEvent c (endBrake c) s)

/-- The end of COAST at the refresh of the select chain (R146). -/
def endCoast (c : Fin 4) (p : Pulse) (s : State) : State :=
  if p.phase = .coast ∧ s.refreshes p then finishCoast c p (refreshChain s) else s

/-- COAST_END (R146). -/
def execCoastEnd (c : Fin 4) (s : State) : Host.Outcome State Fault Refusal := .next (pulseEvent c (endCoast c) s)

end Sys2Proof.Machine
end

