-- ==== Sys2Proof/Machine/Journal.lean ====
section
/-! DEFINITION. Reading and releasing the journal: JOURNAL_READ, JOURNAL_RELEASE. -/

namespace Sys2Proof.Machine

/-- The event of JOURNAL_READ (R132). -/
def journalRead (flag count : Nat) (s : State) : State × List Byte :=
  if 1 < flag ∨ count = 0 ∨ 4 < count then (s, statusOnly .range)
  else
    let first := if flag = 1 then 0 else s.cursor
    let records := (s.journal.drop first).take count
    ({ s with cursor := first + records.length },
      okWith (be16 first ++ be8 records.length ++ be16 (first + records.length) ++ be16 s.journal.length
        ++ records.flatMap recordBytes))

/-- JOURNAL_READ (R132). -/
def execJournalRead (flag count : Byte) (s : State) : Host.Outcome State Fault Refusal :=
  .next (takeRequest 0x48 (journalRead flag.toNat count.toNat) s)

/-- The n oldest records leave the journal, the cursor falls by n, and the high-water flag is re-armed where the record
count stands at 128 or below (R133, R135). -/
def dropRecords (n : Nat) (s : State) : State :=
  let l := s.journal.drop n
  { s with journal := l, cursor := s.cursor - n, highWaterArmed := s.highWaterArmed || decide (l.length ≤ 128) }

/-- The reply to JOURNAL_RELEASE (R133). -/
def releaseReply (n : Nat) (s : State) : List Byte :=
  okWith (be16 n ++ be16 s.journal.length ++ be16 s.cursor ++ be16 s.committed)

/-- The event of JOURNAL_RELEASE (R133). -/
def journalRelease (n : Nat) (s : State) : State × List Byte :=
  if s.cursor < n then (s, statusOnly .range)
  else if n = 0 then (s, releaseReply 0 s)
  else
    let t := flush (dropRecords n s)
    (t, releaseReply n t)

/-- JOURNAL_RELEASE (R133). -/
def execJournalRelease (n : BitVec 16) (s : State) : Host.Outcome State Fault Refusal :=
  .next (takeRequest 0x49 (journalRelease n.toNat) s)

end Sys2Proof.Machine
end

