-- ==== Sys2Proof/Machine/Supply.lean ====
section
/-! DEFINITION. The supply monitor: SUPPLY_SET, SUPPLY_GET, BATTERY_CONVERSION, BAND_EVALUATION. -/

namespace Sys2Proof.Machine

/-- The filtered value: the mean of the accepted samples, 0 while there is none (R166). -/
def State.filtered (s : State) : Nat := s.samples.sum / s.samples.length

/-- The event of SUPPLY_SET (R172). -/
def supplySet (t : Thresholds) (s : State) : State × List Byte :=
  if thresholdsOk t then ({ s with thresholds := t }, okWith (thresholdFields t)) else (s, statusOnly .range)

/-- SUPPLY_SET (R172). -/
def execSupplySet (lowEnter lowLeave critEnter critLeave brownEnter brownLeave : BitVec 16) (s : State) :
    Host.Outcome State Fault Refusal :=
  .next (takeRequest 0x58 (supplySet ⟨lowEnter.toNat, lowLeave.toNat, critEnter.toNat, critLeave.toNat,
    brownEnter.toNat, brownLeave.toNat⟩) s)

/-- SUPPLY_GET (R173, log 13). -/
def execSupplyGet (s : State) : Host.Outcome State Fault Refusal :=
  .next (takeRequest 0x59 (answer fun s => okWith (thresholdFields s.thresholds ++ be16 s.filtered
    ++ be8 s.samples.length ++ be16 s.battery ++ be8 s.band.code)) s)

/-- An accepted sample joins the list, which keeps the 16 most recent, and ends the rejection run (R165). -/
def acceptSample (mV : Nat) (s : State) : State :=
  let l := s.samples ++ [mV]
  { s with rejections := 0, samples := l.drop (l.length - 16) }

/-- The supply monitor decides on a battery sample (R165): while a channel is in KICK it is rejected unless the rejection
run stands at 200. -/
def judgeSample (mV : Nat) (s : State) : State :=
  if s.anyKick ∧ s.rejections < 200 then { s with rejections := s.rejections + 1 } else acceptSample mV s

/-- The conversion of the battery: the latest value is replaced (R162), and the running part judges the sample (R165). -/
def takeBattery (mV : Nat) : State → State :=
  convert 4 fun s => whenRunning { s with battery := mV } (judgeSample mV)

/-- BATTERY_CONVERSION (R165). -/
def execBatteryConversion (count : BitVec 10) (s : State) : Host.Outcome State Fault Refusal :=
  .next (takeBattery (batteryOf count) s)

/-- The place of a band from the lowest (section 9.3). -/
def Band.height : Band → Nat
  | .brownout => 0 | .critical => 1 | .low => 2 | .normal => 3

/-- The fall band of a filtered value (R168). -/
def fallBand (t : Thresholds) (v : Nat) : Option Band :=
  if v < t.brownEnter then some .brownout
  else if v < t.critEnter then some .critical
  else if v < t.lowEnter then some .low
  else none

/-- The rise of a band by one step where the value reaches its leave threshold (R168). -/
def riseBand (t : Thresholds) (v : Nat) : Band → Band
  | .normal => .normal
  | .low => if t.lowLeave ≤ v then .normal else .low
  | .critical => if t.critLeave ≤ v then .low else .critical
  | .brownout => if t.brownLeave ≤ v then .critical else .brownout

/-- The band an evaluation with 16 samples gives (R168). -/
def nextBand (t : Thresholds) (v : Nat) (b : Band) : Band :=
  match fallBand t v with
  | some f => if f.height < b.height then f else riseBand t v b
  | none => riseBand t v b

/-- The band changes: BAND is posted, BROWNOUT stops the pulses, and the arbiter looks for grants (R157, R169). -/
def changeBand (b : Band) (s : State) : State :=
  if b = s.band then s
  else
    let t := { s.postBand with band := b }
    arbitrate (if b = .brownout then brownoutAbort t else t)

/-- An evaluation of the band: with fewer than 16 samples it changes nothing (R167). -/
def evaluateBand (s : State) : State :=
  if s.samples.length < 16 then s else changeBand (nextBand s.thresholds s.filtered s.band) s

/-- The evaluation of a count that is a multiple of 100, taken once (R167, R178). -/
def takeEvaluation (s : State) : State := if s.evaluationDue then evaluateBand { s with evaluationDue := false } else s

/-- BAND_EVALUATION (R167, R168). -/
def execBandEvaluation (s : State) : Host.Outcome State Fault Refusal := .next (whenRunning s takeEvaluation)

end Sys2Proof.Machine
end

