-- ==== Sys2Proof/Machine/LinkRequests.lean ====
section
/-! DEFINITION. The requests the link port answers itself: HELLO, STATUS, RESTART, CHANGES_GET. -/

namespace Sys2Proof.Machine

/-- The payload of the reply to HELLO (R197). -/
def helloPayload (s : State) : List Byte :=
  okWith (be16 0x4E47 ++ be16 0x0D32 ++ be8 1 ++ be8 32 ++ be8 4 ++ be16 1024 ++ be16 384 ++ be8 64 ++ be16 256
    ++ be8 s.keyMap)

/-- HELLO (R197). -/
def execHello (s : State) : Host.Outcome State Fault Refusal := .next (takeRequest 0x01 (answer helloPayload) s)

/-- A channel in the reply to STATUS: its state, and the bay it serves while DRIVING, or 0 (R198). -/
def channelFields (x : Channel) : List Byte :=
  match x.mode with
  | .driving p => be8 x.mode.code ++ beBay p.bay
  | .idle | .disabled => be8 x.mode.code ++ be8 0

/-- The payload of the reply to STATUS (R198). -/
def statusPayload (s : State) : List Byte :=
  okWith (beFlag s.clock.isSet ++ be32 s.clock.minute ++ be8 s.band.code ++ be16 s.filtered ++ be16 s.journal.length
    ++ be16 s.committed ++ be8 (s.stageCount .pending) ++ be8 (s.stageCount .released) ++ be8 (s.stageCount .opened)
    ++ be16 s.spent.length ++ be16 s.deny.length ++ be8 s.queue.length
    ++ allChannels.flatMap (fun c => channelFields s.channels[c]) ++ beFlag s.changes.any)

/-- STATUS (R198). -/
def execStatus (s : State) : Host.Outcome State Fault Refusal := .next (takeRequest 0x02 (answer statusPayload) s)

/-- RESTART (R199): answered OK; the warm restart follows the reply (REPLY_COMPLETE). -/
def execRestart (s : State) : Host.Outcome State Fault Refusal :=
  .next (takeRequest 0x03 (answer fun _ => statusOnly .ok) s)

/-- The entries of the change set, the station's first and then the bays' in ascending order (R202). -/
def State.changeEntries (s : State) : List (List Byte) :=
  (if s.changes.station.any then [stationEntryBytes s.changes.station s.band] else [])
    ++ (allBays.filter fun b => (s.changes.bays[b]).any).map fun b => bayEntryBytes b s.changes.bays[b] (s.bay b)

/-- The event of CHANGES_GET (R202). -/
def changesGet (s : State) : State × List Byte :=
  ({ s with changes := emptyChanges }, okWith (be8 s.changeEntries.length ++ s.changeEntries.flatten))

/-- CHANGES_GET (R202). -/
def execChangesGet (s : State) : Host.Outcome State Fault Refusal := .next (takeRequest 0x04 changesGet s)

end Sys2Proof.Machine
end

