-- ==== Sys2Proof/Machine/Rentals.lean ====
section
/-! DEFINITION. Identities and the requests on the rental table: BIKE_TAG, RENTAL_QUERY, RENTAL_CLOSE. -/

namespace Sys2Proof.Machine

/-- The outcomes of BIKE_TAG (R206). -/
inductive TagOutcome where
  | pendingTag | assigned | same
deriving DecidableEq, Repr

/-- The code of a BIKE_TAG outcome (R206). -/
def TagOutcome.code : TagOutcome → Nat
  | .pendingTag => 1 | .assigned => 2 | .same => 3

/-- A bay's identity or live pending tag names a bike (R94). -/
def Bay.names (y : Bay) (bike : Nat) : Bool :=
  (y.identity.any fun i => decide (i.bike = bike)) || (y.pendingTag.any fun p => decide (p.identity.bike = bike))

/-- A bay other than `b` names the bike (R101, check 2). -/
def State.namedElsewhere (s : State) (b : BayIx) (bike : Nat) : Bool :=
  allBays.any fun o => decide (o ≠ b) && (s.bay o).names bike

/-- A bay that refuses every tag: SERVICE, UNLATCHING, RELEASED, or FAULT with presence ABSENT (R101, check 3). -/
def Bay.refusesTag (y : Bay) : Bool :=
  match y.state with
  | .service | .unlatching | .released => true
  | .fault => decide (y.presence = .absent)
  | .vacant | .latching | .docked => false

/-- An identity becomes a bay's pending tag with a life of 5 s (R20, R102). -/
def setPendingTag (b : BayIx) (i : Identity) (s : State) : State :=
  s.modBay b fun y => { y with pendingTag := some ⟨i, s.ms + 5000⟩ }

/-- UNIDENTIFIED is removed where it stands, and ALARM is posted (R19, R103). -/
def clearUnidentified (b : BayIx) (s : State) : State :=
  if (s.bay b).alarms.unidentified then
    (s.modBay b fun y => { y with alarms := { y.alarms with unidentified := false } }).postBay b .alarm
  else s

/-- A bay without an identity takes one: the tag window stops, UNIDENTIFIED goes and a due return is processed (R103). -/
def assignIdentity (b : BayIx) (i : Identity) (s : State) : State :=
  processReturn b (clearUnidentified b (s.modBay b fun y => { y with identity := some i, tagWindow := none }))

/-- The reply of a BIKE_TAG that acts. -/
def tagReply (o : TagOutcome) (i : Identity) : List Byte := okWith (be8 o.code ++ be8 i.battery)

/-- The event of BIKE_TAG at a bay for an identity in range (R101 to R104). -/
def tagBay (b : BayIx) (i : Identity) (s : State) : State × List Byte :=
  if s.namedElsewhere b i.bike then (raiseAlarm b .tagConflict s, statusOnly .conflict)
  else if (s.bay b).refusesTag then (s, statusOnly .state)
  else if (s.bay b).state = .vacant then (setPendingTag b i s, tagReply .pendingTag i)
  else match (s.bay b).identity with
    | none => (assignIdentity b i s, tagReply .assigned i)
    | some known =>
      if known.bike = i.bike then
        (s.modBay b fun y => { y with identity := some { known with battery := i.battery } }, tagReply .same i)
      else (raiseAlarm b .tagConflict s, statusOnly .conflict)

/-- The event of BIKE_TAG (R101). -/
def bikeTag (bay : Byte) (bike : Nat) (cls : Byte) (battery : Nat) (s : State) : State × List Byte :=
  match bayOf? bay, classOf? cls with
  | some b, some c => if bike = 0 then (s, statusOnly .range) else tagBay b ⟨bike, c, min battery 100⟩ s
  | _, _ => (s, statusOnly .range)

/-- BIKE_TAG (R101 to R104). -/
def execBikeTag (bay : Byte) (bike : BitVec 24) (cls battery : Byte) (s : State) : Host.Outcome State Fault Refusal :=
  .next (takeRequest 0x38 (bikeTag bay bike.toNat cls battery.toNat) s)

/-- The slots a RENTAL_QUERY finds, in ascending order: selector 1 by bike, 2 by rider (R93, R107). -/
def State.querySlots (s : State) (selector : Byte) (number : Nat) : List (Fin 64) :=
  if selector = 1 then s.slotsOfBike number else s.slotsOfRider number

/-- The fields of the records in a list of slots (R107). -/
def State.rentalsBytes (s : State) (l : List (Fin 64)) : List Byte :=
  l.flatMap fun k => match s.rentals[k] with
    | some r => rentalFields s.ms k r
    | none => []

/-- The payload of RENTAL_QUERY (R107). -/
def rentalQuery (selector : Byte) (number : Nat) (s : State) : List Byte :=
  if (selector ≠ 1 ∧ selector ≠ 2) ∨ number = 0 then statusOnly .range
  else
    let l := s.querySlots selector number
    if l.isEmpty then statusOnly .notFound else okWith (be8 l.length ++ s.rentalsBytes l)

/-- RENTAL_QUERY (R107). -/
def execRentalQuery (selector : Byte) (number : BitVec 32) (s : State) : Host.Outcome State Fault Refusal :=
  .next (takeRequest 0x39 (answer (rentalQuery selector number.toNat)) s)

/-- The event of RENTAL_CLOSE (R105). -/
def rentalClose (bike : Nat) (s : State) : State × List Byte :=
  if bike = 0 then (s, statusOnly .range)
  else match s.openRental? bike with
    | some (k, r) => (flush (s.setRental k none),
        okWith (be8 k.val ++ be32 r.rider ++ be8 r.plan.code ++ be32 (r.checkout.getD 0)))
    | none => (s, statusOnly (if (s.slotsOfBike bike).isEmpty then .notFound else .state))

/-- RENTAL_CLOSE (R105). -/
def execRentalClose (bike : BitVec 24) (s : State) : Host.Outcome State Fault Refusal :=
  .next (takeRequest 0x3A (rentalClose bike.toNat) s)

end Sys2Proof.Machine
end

