-- ==== Sys2Proof/Machine/ResetOps.lean ====
section
/-! DEFINITION. The seeding scan, the warm restart, the cold reset, and the losses of the two supplies. -/

namespace Sys2Proof.Machine

/-- Every bay record changed at once. -/
def State.mapBays (s : State) (f : BayIx → Bay → Bay) : State :=
  { s with bays := Vector.ofFn fun b => f b (s.bay b) }

/-- A bay's two points take a sample as their level at once, raw and debounced, with their counts 0 (R3). -/
def Bay.seed (w : SenseWord) (b : BayIx) (y : Bay) : Bay :=
  { y with
    presence := samplePresence w b, rawPresence := samplePresence w b, presenceAgree := 0, presenceDue := false
    latch := sampleLatch w b, rawLatch := sampleLatch w b, latchAgree := 0, latchDue := false }

/-- The seeding scan (R3). -/
def seedScan (w : SenseWord) (s : State) : State := s.mapBays (Bay.seed w)

/-- Every bay is re-derived in ascending order of number (R30, R31). -/
def rederiveAll (s : State) : State := allBays.foldl (fun t b => rederive b t) s

/-- The five latest conversions are lost with main power (R174) and stand for no conversion until the next one: they are
free values (R162, log 7). -/
def unconvertAll (s : State) : State :=
  { s with
    currents := Vector.ofFn fun c => currentOf (Config.unconverted (s.freeIndex + c.val))
    battery := batteryOf (Config.unconverted (s.freeIndex + 4))
    freeIndex := s.freeIndex + 5 }

/-- The link ends a release at a warm restart. -/
def Link.isRelease : Link → Bool
  | .rental _ | .staff => true
  | .unlinked | .readiness => false

/-- Steps 1 and 2 of R31 at one bay: request, pending tag, timers and mark dropped; the last outcome RESTART_DISCARD at a
bay whose release ends and NONE at every other; the link dropped. -/
def Bay.restarted (y : Bay) : Bay :=
  { y with
    driveStage := .noRequest, pendingTag := none, takeWindow := none, tagWindow := none, deadline := .stopped
    retryDelay := none, presenceChanged := false
    lastOutcome := if y.link.isRelease then .restartDiscard else .noOutcome
    link := .unlinked }

/-- The discards of a warm restart: every PENDING and RELEASED rental and every HELD spent entry goes, every release is
dropped (R31, R67, R86), the queue is emptied and every channel becomes IDLE with its counts 0 (R160). The select chain stands
until its next refresh, which finds no pulse in flight and carries none to every bay (R160). -/
def restartDiscards (s : State) : State :=
  { s.mapBays (fun _ y => y.restarted) with
    rentals := Vector.ofFn fun k => (s.rentals[k]).filter fun r => decide (r.stage = .opened)
    spent := s.spent.filter fun e => decide (e.state = .finalized)
    queue := []
    channels := Vector.replicate 4 idleChannel }

/-- A warm restart (R31, R86, R137, R160, R170, R196): the discards, one flush, the seeding scan, the re-derivation of
every bay, and the change set of the restart. -/
def warmRestart (k : RestartKind) (w : SenseWord) (s : State) : State :=
  let t := rederiveAll (seedScan w (flush (restartDiscards s)))
  { t with
    cursor := 0, samples := [], rejections := 0, band := .critical, rx := .hunt, reply := none
    changes := restartChanges k }

/-- A cold reset (R30, R66, R108, R110, R136, R161, R170, R187, R196): every item takes its cold-reset value, the seeding
scan is taken and every bay is re-derived; the causes of the re-derivation are not posted. The latest conversions and the slot
of the scan stand: the analog scanner loses them with main power only (R162, R174; log 7, log 24). -/
def coldReset (w : SenseWord) (s : State) : State :=
  let base := { State.reset with
    mainPower := s.mainPower, resetHeld := s.resetHeld, scanSlot := s.scanSlot, currents := s.currents
    battery := s.battery, freeIndex := s.freeIndex, pending := s.pending }
  { rederiveAll (seedScan w base) with changes := emptyChanges }

/-- What a loss of main power leaves of a bay record: the items of the backup domain (R174, log 14). -/
def Bay.backedUp (y : Bay) : Bay :=
  { blankBay with
    identity := y.identity, arrival := y.arrival, processed := y.processed, link := y.link, held := y.held
    alarms := y.alarms }

/-- The loss of main power: the main domain ends and the backup domain is kept (R174, R175). The select chain parts every
channel from its bay (R175), and the analog scanner stops, to start with a new scan at the return (R162). What the lost items
read as until the return is the model's choice (log 14). -/
def loseMainPower (s : State) : State :=
  { (unconvertAll s).mapBays (fun _ y => y.backedUp) with
    mainPower := false, ms := 0, msRemainder := 0, refreshDue := false, evaluationDue := false, cursor := 0, queue := []
    channels := Vector.replicate 4 idleChannel, chain := Vector.replicate 32 darkSlot, scanSlot := 0
    samples := [], rejections := 0, band := .critical, rx := .hunt, reply := none, changes := emptyChanges }

/-- The backup supply fails while main power is absent: the validity mark and the whole backup domain are lost (R176). The
lost items read as their cold-reset values at once, which is the model's choice (log 36): R176 gives these at the return. -/
def loseBackup (s : State) : State :=
  { State.reset with
    mainPower := false, resetHeld := s.resetHeld, backupValid := false, currents := s.currents, battery := s.battery
    freeIndex := s.freeIndex, pending := s.pending }

end Sys2Proof.Machine
end

