-- ==== Sys2Proof/WellFormed.lean ====
section
/-! DEFINITION. Which commands are well formed. The operands' types already hold their ranges; one check remains. -/

namespace Sys2Proof

/-- The body of a complete frame holds KIND and PAYLOAD, 1..240 bytes together (spec 11.1, LEN; R191 drops any other
length before the frame can complete). -/
def bodyLengthOk (body : List Byte) : Bool :=
  decide (1 ≤ body.length ∧ body.length ≤ 240)

/-- A command is well formed when the frame it carries, if it carries one, can complete. -/
def Instr.wellFormed : Instr → Bool
  | .reject body _ => bodyLengthOk body
  | .hello | .status | .restart | .changesGet | .setTime _ _ | .getTime | .settingsSet _ _ _ _ _ _ | .settingsGet
  | .keyLoad _ _ | .keyDrop _ | .tariffSet _ _ _ _ _ _ _ | .tariffGet _ | .denyAdd _ _ _ _ | .denyRemove _ | .denyClear
  | .denyLookup _ | .present _ _ | .bikeTag _ _ _ _ | .rentalQuery _ _ | .rentalClose _ | .bayQuery _ | .bayService _ _
  | .bayClear _ | .staffUnlatch _ | .journalRead _ _ | .journalRelease _ | .profileSet _ _ _ _ _ _ _ _ _ | .profileGet _
  | .channelEnable _ | .supplySet _ _ _ _ _ _ | .supplyGet | .busyFrameDrop | .interByteGapTimeout | .lineError
  | .replyComplete _ | .resetAssert | .resetRelease _ | .mainPowerLoss | .mainPowerReturn _ | .senseScan _ | .senseEvent _
  | .takeWindowExpiry _ | .tagWindowExpiry _ | .unlatchDeadlineExpiry _ | .retryDelayExpiry _ | .pendingTagExpiry _
  | .grant | .connectEnd _ | .deadtimeEnd _ | .kickEnd _ | .currentConversion _ _ | .stall _ | .travelLimit _ | .short _
  | .brakeEnd _ | .coastEnd _ | .batteryConversion _ | .bandEvaluation | .clockSecond | .minuteEvent | .lampPhase _
  | .byteReceived _ | .backupSupplyLoss => true

end Sys2Proof
end

