-- ==== Sys2Proof/Machine/LinkBytes.lean ====
section
/-! DEFINITION. Reception and the reply on the line: REJECT, BUSY_FRAME_DROP, INTER_BYTE_GAP_TIMEOUT, LINE_ERROR,
REPLY_COMPLETE, BYTE_RECEIVED. -/

namespace Sys2Proof.Machine

/-- A request read from a frame is handed to its owning block (R192); a command that is no request never stands in a
frame and changes nothing. -/
def handRequest (i : Instr) (s : State) : Host.Outcome State Fault Refusal :=
  match i with
  | .hello => execHello s
  | .status => execStatus s
  | .restart => execRestart s
  | .changesGet => execChangesGet s
  | .setTime m x => execSetTime m x s
  | .getTime => execGetTime s
  | .settingsSet a b c d e f => execSettingsSet a b c d e f s
  | .settingsGet => execSettingsGet s
  | .keyLoad k v => execKeyLoad k v s
  | .keyDrop k => execKeyDrop k s
  | .tariffSet p a b c d e f => execTariffSet p a b c d e f s
  | .tariffGet p => execTariffGet p s
  | .denyAdd r n f e => execDenyAdd r n f e s
  | .denyRemove r => execDenyRemove r s
  | .denyClear => execDenyClear s
  | .denyLookup r => execDenyLookup r s
  | .present b t => execPresent b t s
  | .bikeTag b n c p => execBikeTag b n c p s
  | .rentalQuery x n => execRentalQuery x n s
  | .rentalClose n => execRentalClose n s
  | .bayQuery b => execBayQuery b s
  | .bayService b f => execBayService b f s
  | .bayClear b => execBayClear b s
  | .staffUnlatch b => execStaffUnlatch b s
  | .journalRead f n => execJournalRead f n s
  | .journalRelease n => execJournalRelease n s
  | .profileSet p a b c d e f g h => execProfileSet p a b c d e f g h s
  | .profileGet p => execProfileGet p s
  | .channelEnable c => execChannelEnable c s
  | .supplySet a b c d e f => execSupplySet a b c d e f s
  | .supplyGet => execSupplyGet s
  | .reject _ _ | .busyFrameDrop | .interByteGapTimeout | .lineError | .replyComplete _ | .resetAssert | .resetRelease _
  | .mainPowerLoss | .mainPowerReturn _ | .senseScan _ | .senseEvent _ | .takeWindowExpiry _ | .tagWindowExpiry _
  | .unlatchDeadlineExpiry _ | .retryDelayExpiry _ | .pendingTagExpiry _ | .grant | .connectEnd _ | .deadtimeEnd _
  | .kickEnd _ | .currentConversion _ _ | .stall _ | .travelLimit _ | .short _ | .brakeEnd _ | .coastEnd _
  | .batteryConversion _ | .bandEvaluation | .clockSecond | .minuteEvent | .lampPhase _ | .byteReceived _
  | .backupSupplyLoss => .next s

/-- The reasons of a REJECT (R206). -/
inductive RejectReason where
  | check | kind | length
deriving DecidableEq, Repr

/-- The code of a REJECT reason (R206). -/
def RejectReason.code : RejectReason → Nat
  | .check => 1 | .kind => 2 | .length => 3

/-- What the link port makes of a complete frame (R192). -/
inductive Verdict where
  | rejected (reason : RejectReason) (kind : Byte)
  | request (i : Instr)
  | noFrame
deriving DecidableEq, Repr

/-- The three checks in order: CHECK, KIND, LENGTH (R192). -/
def verdict (body : List Byte) (check : Byte) : Verdict :=
  match body with
  | [] => .noFrame
  | kind :: payload =>
    if BitVec.ofNat 8 body.length + Frame.sum body + check ≠ 0 then .rejected .check kind
    else match Frame.rowOf kind with
      | none => .rejected .kind kind
      | some row => match row.parse payload with
        | some i => .request i
        | none => .rejected .length kind

/-- A REJECT reply: kind 0xFF with the reason and the kind as received (R192). -/
def rejectReply (reason : RejectReason) (kind : Byte) : Reply := ⟨0xFF, [BitVec.ofNat 8 reason.code, kind]⟩

/-- A complete frame is taken (R192), or dropped while a reply is in progress (R193). -/
def takeFrame (body : List Byte) (check : Byte) (s : State) : Host.Outcome State Fault Refusal :=
  if s.reply.isSome then .next { s with rx := .hunt }
  else match verdict body check with
    | .rejected reason kind => .next { s with rx := .hunt, reply := some (rejectReply reason kind) }
    | .request i => handRequest i s
    | .noFrame => .next { s with rx := .hunt }

/-- REJECT (R192): a complete frame is taken. A body that no LEN allows completes no frame, and reception is in HUNT
(R191). -/
def execReject (body : List Byte) (check : Byte) (s : State) : Host.Outcome State Fault Refusal :=
  if s.running then
    if bodyLengthOk body then takeFrame body check s else .next { s with rx := .hunt }
  else .next s

/-- BUSY_FRAME_DROP (R193): a frame that completes while a reply is in progress is dropped. -/
def execBusyFrameDrop (s : State) : Host.Outcome State Fault Refusal :=
  .next (whenRunning s fun s => if s.reply.isSome then { s with rx := .hunt } else s)

/-- The count at which the last byte of a partial frame ended. -/
def Rx.lastAt? : Rx → Option Nat
  | .hunt => none
  | .length t | .body _ _ t | .check _ t => some t

/-- The 10 ms of the inter-byte gap of a partial frame have passed (R179, R191). -/
def Rx.gapOver (now : Nat) (r : Rx) : Bool := r.lastAt?.any fun t => decide (t + 10 ≤ now)

/-- INTER_BYTE_GAP_TIMEOUT (R191, R179): the partial frame is dropped once the 10 ms of the gap have passed. -/
def execInterByteGapTimeout (s : State) : Host.Outcome State Fault Refusal :=
  .next (whenRunning s fun s => if s.rx.gapOver s.ms then { s with rx := .hunt } else s)

/-- LINE_ERROR (R191): a byte with a missing stop bit, or a break, drops the partial frame. -/
def execLineError (s : State) : Host.Outcome State Fault Refusal :=
  .next (whenRunning s fun s => { s with rx := .hunt })

/-- REPLY_COMPLETE (R193): the reply ends; the reply of RESTART is followed by the warm restart (R199). -/
def execReplyComplete (w : SenseWord) (s : State) : Host.Outcome State Fault Refusal :=
  .next (whenRunning s fun s => match s.reply with
    | some r =>
      let t := { s with reply := none }
      if r.kind = 0x83 then warmRestart .restart w t else t
    | none => s)

/-- The receive state a byte finds: a gap of more than 10 ms has dropped the partial frame (R191). -/
def Rx.atByte (now : Nat) (r : Rx) : Rx :=
  match r.lastAt? with
  | some t => if t + 10 < now then .hunt else r
  | none => r

/-- A byte in its receive state (R191). -/
def receiveByte (x : Byte) (s : State) : Host.Outcome State Fault Refusal :=
  match s.rx.atByte s.ms with
  | .hunt => .next { s with rx := if x = 0xC3 then .length s.ms else .hunt }
  | .length _ =>
    .next { s with rx := if 1 ≤ x.toNat ∧ x.toNat ≤ 240 then .body x.toNat [] s.ms else .hunt }
  | .body n l _ =>
    .next { s with rx := if l.length + 1 < n then .body n (l ++ [x]) s.ms else .check (l ++ [x]) s.ms }
  | .check l _ => takeFrame l x s

/-- BYTE_RECEIVED (R191). -/
def execByteReceived (x : Byte) (s : State) : Host.Outcome State Fault Refusal :=
  if s.running then receiveByte x s else .next s

end Sys2Proof.Machine
end

