-- ==== Sys2Proof/Machine/Outputs.lean ====
section
/-! DEFINITION. The outputs of the part, computed from its state (log 22): the attention line, the bridge gates, the bits of
the select chain and the bytes of a reply. -/

namespace Sys2Proof.Machine

/-- ATTN is asserted: the part runs and the change set holds an entry (R201, R175, R207). -/
def State.attn (s : State) : Bool := s.running && s.changes.any

/-- What a gate does: off, on, or pulse-width modulated at a duty in permille (R145). -/
inductive Gate where
  | off | on | pwm (permille : Nat)
deriving DecidableEq, Repr

/-- The four gates of a bridge: high and low side of leg A, then of leg B (section 11.7). -/
structure Gates where
  highA : Gate
  lowA  : Gate
  highB : Gate
  lowB  : Gate
deriving DecidableEq, Repr

/-- All four gates off. -/
def gatesOff : Gates := ⟨.off, .off, .off, .off⟩

/-- The gates that drive the motor: forward for the unlatch kinds, reverse for LATCH (R145). -/
def driveGates (k : DriveKind) (duty : Nat) : Gates :=
  match k with
  | .latch => ⟨.off, .on, .pwm duty, .off⟩
  | .unlatchRental | .unlatchStaff | .unlatchReady => ⟨.pwm duty, .off, .off, .on⟩

/-- The gates of a pulse in its phase (section 8.3). -/
def Pulse.gates (p : Pulse) : Gates :=
  match p.phase with
  | .kick => driveGates p.kind p.profile.kickDuty
  | .hold => driveGates p.kind p.profile.holdDuty
  | .brake => ⟨.off, .on, .off, .on⟩
  | .connect | .deadtime1 | .deadtime2 | .coast => gatesOff

/-- The gates of a channel: off unless it drives, and off while the part is stopped (R143, R175, R207). -/
def State.gates (s : State) (c : Fin 4) : Gates :=
  if s.running then (match s.pulse? c with | some p => p.gates | none => gatesOff) else gatesOff

/-- The number of the connected channel in a slot of the select chain, 0 for none (section 11.7). -/
def ChainSlot.number (x : ChainSlot) : Nat :=
  match x.channel with
  | some c => c.val + 1
  | none => 0

/-- The four bits of a bay on the select chain, as its last refresh left them: three for the channel and one for the lamp; none
and off while the part is stopped (section 11.7, R24, R144, R175, R207; log 21). -/
def State.selectBits (s : State) (b : BayIx) : List Bool :=
  if s.running then
    let x := s.chain[b]
    [x.number.testBit 2, x.number.testBit 1, x.number.testBit 0, x.lamp]
  else [false, false, false, false]

/-- The 128 bits of the select chain, from bay 32 down to bay 1 (section 11.7). -/
def State.selectChain (s : State) : List Bool := allBays.reverse.flatMap s.selectBits

/-- The bytes of a reply on the line (spec 11.1, R194). -/
def Reply.bytes (r : Reply) : List Byte := Frame.frame (r.kind :: r.payload)

end Sys2Proof.Machine
end

