-- ==== Sys2Proof/Machine/Power.lean ====
section
/-! DEFINITION. The RESET input and the two supplies: RESET_ASSERT, RESET_RELEASE, MAIN_POWER_LOSS, MAIN_POWER_RETURN,
BACKUP_SUPPLY_LOSS. -/

namespace Sys2Proof.Machine

/-- RESET_ASSERT: the part is held stopped, and a reply in progress is cut short (R207, log 25). -/
def execResetAssert (s : State) : Host.Outcome State Fault Refusal :=
  .next { s with resetHeld := true, reply := none }

/-- The rise of RESET makes a cold reset; while main power is absent RESET has no effect (R207). -/
def resetRelease (w : SenseWord) (s : State) : State :=
  if s.resetHeld then
    let t := { s with resetHeld := false }
    if s.mainPower then coldReset w t else t
  else s

/-- RESET_RELEASE (R207). -/
def execResetRelease (w : SenseWord) (s : State) : Host.Outcome State Fault Refusal := .next (resetRelease w s)

/-- MAIN_POWER_LOSS (R174, R175). -/
def execMainPowerLoss (s : State) : Host.Outcome State Fault Refusal :=
  .next (if s.mainPower then loseMainPower s else s)

/-- The return of main power: a warm restart with cause RESUME where the validity mark stands and RESET is not asserted,
otherwise a cold reset (R176). The millisecond count starts again from 0 (R178), a count at which the band is evaluated
(R167), and the analog scanner starts with a new scan (R162). -/
def powerReturn (w : SenseWord) (s : State) : State :=
  if s.mainPower then s
  else
    let t := { s with mainPower := true, ms := 0, msRemainder := 0, refreshDue := false, evaluationDue := true, scanSlot := 0 }
    if t.backupValid ∧ ¬ t.resetHeld then warmRestart .resume w t else coldReset w t

/-- MAIN_POWER_RETURN (R176). -/
def execMainPowerReturn (w : SenseWord) (s : State) : Host.Outcome State Fault Refusal := .next (powerReturn w s)

/-- BACKUP_SUPPLY_LOSS: with main power absent the backup domain is lost (R176); with main power present it has no effect
(log 15). -/
def execBackupSupplyLoss (s : State) : Host.Outcome State Fault Refusal :=
  .next (if s.mainPower then s else loseBackup s)

end Sys2Proof.Machine
end

