-- ==== Sys2Proof/Machine/Sense.lean ====
section
/-! DEFINITION. The sense scanner and what a bay does with a sense event: SENSE_SCAN, SENSE_EVENT. -/

namespace Sys2Proof.Machine

/-- One point's agreement count and due mark after a sample that differs from the accepted level or not (R2). A point
whose acceptance is due waits for its SENSE_EVENT (log 8). -/
def countSample (differs due : Bool) (n : Nat) : Nat × Bool :=
  if due then (n, true)
  else if !differs then (0, false)
  else if n < 4 then (n + 1, false)
  else (n, true)

/-- A bay's record after one scan (R1, R2). -/
def Bay.scanned (w : SenseWord) (b : BayIx) (y : Bay) : Bay :=
  let p := countSample (decide (samplePresence w b ≠ y.presence)) y.presenceDue y.presenceAgree
  let l := countSample (decide (sampleLatch w b ≠ y.latch)) y.latchDue y.latchAgree
  { y with
    rawPresence := samplePresence w b, rawLatch := sampleLatch w b
    presenceAgree := p.1, presenceDue := p.2, latchAgree := l.1, latchDue := l.2 }

/-- A scan of all 64 points (R1). -/
def scanAll (w : SenseWord) (s : State) : State := { s with bays := Vector.ofFn fun b => (s.bay b).scanned w b }

/-- SENSE_SCAN (R1, R2). R1 has the scanner run while main power is present, and R207 holds the part stopped under RESET; that
no scan is made under RESET is the model's choice (log 39). -/
def execSenseScan (w : SenseWord) (s : State) : Host.Outcome State Fault Refusal := .next (whenRunning s (scanAll w))

/-- The other level of a presence point. -/
def Presence.flip : Presence → Presence
  | .absent => .present
  | .present => .absent

/-- The other level of a latch point. -/
def Latch.flip : Latch → Latch
  | .opened => .closed
  | .closed => .opened

/-- The due points of a bay take their new levels, with their counts 0 (R2). -/
def Bay.accept (y : Bay) : Bay :=
  let y := if y.presenceDue then { y with presence := y.presence.flip, presenceAgree := 0, presenceDue := false } else y
  if y.latchDue then { y with latch := y.latch.flip, latchAgree := 0, latchDue := false } else y

/-- The bay records the station minute as its arrival minute (R5, R6, R8). -/
def recordArrival (b : BayIx) (s : State) : State := s.modBay b fun y => { y with arrival := some s.clock.minute }

/-- The bay clears its arrival minute (R8). -/
def clearArrival (b : BayIx) (s : State) : State := s.modBay b fun y => { y with arrival := none }

/-- The bay clears identity, arrival minute and return-processed mark. -/
def forgetBike (b : BayIx) (s : State) : State := s.modBay b Bay.clearBike

/-- The presence-changed mark is set (R6, R8). -/
def markChanged (b : BayIx) (s : State) : State := s.modBay b fun y => { y with presenceChanged := true }

/-- The bay's drive stage is driving. -/
def State.drivenBay (s : State) (b : BayIx) : Bool := decide ((s.bay b).driveStage = .driving)

/-- A presence change while the bay may hold a pulse: with one in flight the mark is set, otherwise the request is
withdrawn and the bay re-derived (R6, R8). -/
def presenceMoved (b : BayIx) (s : State) : State :=
  if s.drivenBay b then markChanged b s
  else rederive b (withdrawRequest b (s.modBay b fun y => { y with link := .unlinked }))

/-- Presence rises at a VACANT bay (R5). A pending tag that becomes the identity leaves an UNIDENTIFIED in the alarm set as it
stands: the model's choice (log 34). -/
def vacantRise (b : BayIx) (s : State) : State :=
  let t := (recordArrival b s).modBay b fun y =>
    match y.pendingTag with
    | some p => { y with identity := some p.identity, pendingTag := none }
    | none => y
  match (t.bay b).latch with
  | .opened => enterLatching b t
  | .closed => enterDocked b t

/-- Presence falls in DOCKED (R7). -/
def dockedFall (b : BayIx) (s : State) : State :=
  let t := if (s.bay b).identity.isSome then raiseAlarm b .unrentedRemoval s else s
  rederive b ((forgetBike b t).modBay b fun y => { y with tagWindow := none })

/-- Presence falls in FAULT (R10). -/
def faultFall (b : BayIx) (s : State) : State :=
  let y := s.bay b
  let t := if y.identity.isSome ∧ ¬ y.processed then raiseAlarm b .unrentedRemoval s else s
  (forgetBike b t).modBay b fun y => { y with tagWindow := none }

/-- Presence falls in UNLATCHING: the removal of a rental or staff bike, the end of a rise under the readiness mark, or
the end of a rise after a removal (R8). -/
def unlatchingFall (b : BayIx) (s : State) : State :=
  match (s.bay b).link with
  | .rental _ | .staff => presenceMoved b (removeBike b s)
  | .readiness | .unlinked => clearArrival b s

/-- Presence rises in UNLATCHING under the readiness mark, or after a removal during the pulse (R8). -/
def unlatchingRise (b : BayIx) (s : State) : State :=
  match (s.bay b).link with
  | .readiness => presenceMoved b (recordArrival b s)
  | .unlinked => recordArrival b s
  | .rental _ | .staff => s

/-- A bay handles a change of its debounced presence by the rule of its state (R5 to R11). -/
def handlePresence (b : BayIx) (s : State) : State :=
  let y := s.bay b
  match y.state, y.presence with
  | .vacant, .present => vacantRise b s
  | .vacant, .absent => s
  | .latching, .absent => presenceMoved b (forgetBike b s)
  | .latching, .present => if y.presenceChanged then recordArrival b s else s
  | .docked, .absent => dockedFall b s
  | .docked, .present => s
  | .unlatching, .absent => unlatchingFall b s
  | .unlatching, .present => unlatchingRise b s
  | .released, .absent => rederive b (removeBike b s)
  | .released, .present => s
  | .fault, .absent => faultFall b s
  | .fault, .present => s
  | .service, _ => s

/-- The latch slips open in DOCKED (R7). -/
def latchSlip (b : BayIx) (s : State) : State :=
  enterLatching b ((raiseAlarm b .latchSlip s).modBay b fun y => { y with tagWindow := none })

/-- The latch closes in LATCHING with no pulse in flight (R6). -/
def closedUndriven (b : BayIx) (s : State) : State :=
  enterDocked b ((withdrawRequest b s).modBay b fun y => { y with attempts := 0 })

/-- A bay handles a change of its debounced latch by the rule of its state (R5 to R11). -/
def handleLatch (b : BayIx) (s : State) : State :=
  let y := s.bay b
  match y.state, y.latch, y.presence with
  | .vacant, .closed, .absent => enterUnlatching b .readiness s
  | .latching, .closed, _ => if y.driveStage = .queued ∨ y.driveStage = .retryWait then closedUndriven b s else s
  | .docked, .opened, .present => latchSlip b s
  | .released, .closed, .present => enterDocked b (discardRelease b .latchReclosed s)
  | _, _, _ => s

/-- A sense event at a bay whose points are due (R2): the levels are written, a LATCH drive sees a latch that closes
(R152), the bay handles the presence change, and then the latch change if its state still stands. -/
def senseEvent (b : BayIx) (s : State) : State :=
  let y := s.bay b
  let t := s.modBay b Bay.accept
  let t := if y.latchDue ∧ (t.bay b).latch = .closed then latchClosedEndsDrive b t else t
  let u := if y.presenceDue then handlePresence b t else t
  if y.latchDue ∧ (u.bay b).state = y.state then handleLatch b u else u

/-- SENSE_EVENT (R2). -/
def execSenseEvent (b : BayIx) (s : State) : Host.Outcome State Fault Refusal := .next (whenRunning s (senseEvent b))

end Sys2Proof.Machine
end

