-- ==== Sys2Proof/Machine/Timers.lean ====
section
/-! DEFINITION. The expiries of a bay's timers and the phases of its lamp. An expiry acts on a timer whose expiry the
millisecond count has reached and changes nothing otherwise (R179, log 3, log 4). -/

namespace Sys2Proof.Machine

/-- A timer has expired: it runs and the millisecond count has reached its expiry (R179). -/
def timeUp (now : Nat) (expiry : Option Nat) : Bool := expiry.any fun e => decide (e ≤ now)

/-- The expiry of a timer of a bay, taken by its owner (R179): `running` gives the expiry count while the timer runs. -/
def expire (running : Bay → Option Nat) (b : BayIx) (act : State → State) (s : State) : State :=
  whenRunning s fun s => if timeUp s.ms (running (s.bay b)) then act s else s

/-- The expiry of a running take window (R21). -/
def Bay.takeEnd (y : Bay) : Option Nat := if y.state = .released then y.takeWindow else none

/-- The expiry count of a running unlatch deadline (R77). -/
def Deadline.expiry? : Deadline → Option Nat
  | .running e => some e
  | .stopped | .passed => none

/-- The expiry of a running unlatch deadline (R77). -/
def Bay.deadlineEnd (y : Bay) : Option Nat := y.deadline.expiry?

/-- The expiry of a running retry delay (R16). -/
def Bay.retryEnd (y : Bay) : Option Nat := if y.driveStage = .retryWait then y.retryDelay else none

/-- The end of the life of a pending tag (R20). -/
def Bay.tagEnd (y : Bay) : Option Nat := y.pendingTag.map (·.expiry)

/-- The expiry of the take window ends the release and the bike is latched again (R21). -/
def takeExpired (b : BayIx) (s : State) : State := enterLatching b (discardRelease b .takeExpired s)

/-- TAKE_WINDOW_EXPIRY (R21). -/
def execTakeWindowExpiry (b : BayIx) (s : State) : Host.Outcome State Fault Refusal :=
  .next (expire Bay.takeEnd b (takeExpired b) s)

/-- The expiry of the tag window raises UNIDENTIFIED (R19). -/
def tagExpired (b : BayIx) (s : State) : State :=
  raiseAlarm b .unidentified (s.modBay b fun y => { y with tagWindow := none })

/-- TAG_WINDOW_EXPIRY (R19). -/
def execTagWindowExpiry (b : BayIx) (s : State) : Host.Outcome State Fault Refusal :=
  .next (expire Bay.tagWindow b (tagExpired b) s)

/-- The expiry of the unlatch deadline: passed while a pulse is in flight (R79), otherwise the request or retry delay is
withdrawn, the release discarded with DEADLINE and the bay re-derived (R78). -/
def deadlineExpired (b : BayIx) (s : State) : State :=
  if (s.bay b).driveStage = .driving then s.modBay b fun y => { y with deadline := .passed }
  else
    rederive b (discardRelease b .deadline ((withdrawRequest b s).modBay b fun y =>
      { y with attempts := 0, deadline := .stopped }))

/-- UNLATCH_DEADLINE_EXPIRY (R78, R79). -/
def execUnlatchDeadlineExpiry (b : BayIx) (s : State) : Host.Outcome State Fault Refusal :=
  .next (expire Bay.deadlineEnd b (deadlineExpired b) s)

/-- The expiry of the retry delay posts the bay's request again (R16). -/
def retryExpired (b : BayIx) (s : State) : State := postRequest b (s.modBay b fun y => { y with retryDelay := none })

/-- RETRY_DELAY_EXPIRY (R16). -/
def execRetryDelayExpiry (b : BayIx) (s : State) : Host.Outcome State Fault Refusal :=
  .next (expire Bay.retryEnd b (retryExpired b) s)

/-- The life of a pending tag ends and the tag is dropped (R20). -/
def pendingExpired (b : BayIx) (s : State) : State := s.modBay b fun y => { y with pendingTag := none }

/-- PENDING_TAG_EXPIRY (R20). -/
def execPendingTagExpiry (b : BayIx) (s : State) : Host.Outcome State Fault Refusal :=
  .next (expire Bay.tagEnd b (pendingExpired b) s)

/-- The number of phases of a pattern; one that never changes has one (R24). -/
def LampPattern.phases : LampPattern → Nat
  | .off | .steady => 1
  | .slow | .fast => 2
  | .double => 4

/-- The length in milliseconds of the lamp's present phase; none where the pattern never changes (R24). -/
def Bay.lampPhaseLength (y : Bay) : Option Nat :=
  match y.lamp with
  | .off | .steady => none
  | .slow => some 500
  | .fast => some 125
  | .double => some (if y.lampPhase = 3 then 1700 else 100)

/-- The count at which the lamp's present phase ends (R24, R178). -/
def Bay.lampEnd (y : Bay) : Option Nat := y.lampPhaseLength.map fun n => y.lampSince + n

/-- The lamp's next phase begins (R24). -/
def nextLampPhase (b : BayIx) (s : State) : State :=
  s.modBay b fun y => { y with lampPhase := (y.lampPhase + 1) % y.lamp.phases, lampSince := s.ms }

/-- LAMP_PHASE: the end of the lamp's present phase (R24). -/
def execLampPhase (b : BayIx) (s : State) : Host.Outcome State Fault Refusal :=
  .next (expire Bay.lampEnd b (nextLampPhase b) s)

end Sys2Proof.Machine
end

