-- ==== Sys2Proof/Machine/Dispatch.lean ====
section
/-! DEFINITION. The dispatch: one arm for each command. -/

namespace Sys2Proof.Machine

/-- The effect of a command on everything but the queue. -/
def exec (i : Instr) (s : State) : Host.Outcome State Fault Refusal :=
  match i with
  | .hello => Sys2Proof.Machine.execHello s
  | .status => Sys2Proof.Machine.execStatus s
  | .restart => Sys2Proof.Machine.execRestart s
  | .changesGet => Sys2Proof.Machine.execChangesGet s
  | .setTime minute second => Sys2Proof.Machine.execSetTime minute second s
  | .getTime => Sys2Proof.Machine.execGetTime s
  | .settingsSet skew takeWindow tagWindow deadline minCharge deadTime => Sys2Proof.Machine.execSettingsSet skew takeWindow tagWindow deadline minCharge deadTime s
  | .settingsGet => Sys2Proof.Machine.execSettingsGet s
  | .keyLoad slot key => Sys2Proof.Machine.execKeyLoad slot key s
  | .keyDrop slot => Sys2Proof.Machine.execKeyDrop slot s
  | .tariffSet plan unlockFee freeMinutes period periodPrice supplement rideCap => Sys2Proof.Machine.execTariffSet plan unlockFee freeMinutes period periodPrice supplement rideCap s
  | .tariffGet plan => Sys2Proof.Machine.execTariffGet plan s
  | .denyAdd rider reason flag expiry => Sys2Proof.Machine.execDenyAdd rider reason flag expiry s
  | .denyRemove rider => Sys2Proof.Machine.execDenyRemove rider s
  | .denyClear => Sys2Proof.Machine.execDenyClear s
  | .denyLookup rider => Sys2Proof.Machine.execDenyLookup rider s
  | .present bay token => Sys2Proof.Machine.execPresent bay token s
  | .bikeTag bay bike cls battery => Sys2Proof.Machine.execBikeTag bay bike cls battery s
  | .rentalQuery selector number => Sys2Proof.Machine.execRentalQuery selector number s
  | .rentalClose bike => Sys2Proof.Machine.execRentalClose bike s
  | .bayQuery bay => Sys2Proof.Machine.execBayQuery bay s
  | .bayService bay flag => Sys2Proof.Machine.execBayService bay flag s
  | .bayClear bay => Sys2Proof.Machine.execBayClear bay s
  | .staffUnlatch bay => Sys2Proof.Machine.execStaffUnlatch bay s
  | .journalRead flag count => Sys2Proof.Machine.execJournalRead flag count s
  | .journalRelease n => Sys2Proof.Machine.execJournalRelease n s
  | .profileSet profile kickDuty kickTime holdDuty travelLimit stallThreshold stallTime inrushMask brakeTime => Sys2Proof.Machine.execProfileSet profile kickDuty kickTime holdDuty travelLimit stallThreshold stallTime inrushMask brakeTime s
  | .profileGet profile => Sys2Proof.Machine.execProfileGet profile s
  | .channelEnable channel => Sys2Proof.Machine.execChannelEnable channel s
  | .supplySet lowEnter lowLeave critEnter critLeave brownEnter brownLeave => Sys2Proof.Machine.execSupplySet lowEnter lowLeave critEnter critLeave brownEnter brownLeave s
  | .supplyGet => Sys2Proof.Machine.execSupplyGet s
  | .reject body check => Sys2Proof.Machine.execReject body check s
  | .busyFrameDrop => Sys2Proof.Machine.execBusyFrameDrop s
  | .interByteGapTimeout => Sys2Proof.Machine.execInterByteGapTimeout s
  | .lineError => Sys2Proof.Machine.execLineError s
  | .replyComplete samples => Sys2Proof.Machine.execReplyComplete samples s
  | .resetAssert => Sys2Proof.Machine.execResetAssert s
  | .resetRelease samples => Sys2Proof.Machine.execResetRelease samples s
  | .mainPowerLoss => Sys2Proof.Machine.execMainPowerLoss s
  | .mainPowerReturn samples => Sys2Proof.Machine.execMainPowerReturn samples s
  | .senseScan samples => Sys2Proof.Machine.execSenseScan samples s
  | .senseEvent bay => Sys2Proof.Machine.execSenseEvent bay s
  | .takeWindowExpiry bay => Sys2Proof.Machine.execTakeWindowExpiry bay s
  | .tagWindowExpiry bay => Sys2Proof.Machine.execTagWindowExpiry bay s
  | .unlatchDeadlineExpiry bay => Sys2Proof.Machine.execUnlatchDeadlineExpiry bay s
  | .retryDelayExpiry bay => Sys2Proof.Machine.execRetryDelayExpiry bay s
  | .pendingTagExpiry bay => Sys2Proof.Machine.execPendingTagExpiry bay s
  | .grant => Sys2Proof.Machine.execGrant s
  | .connectEnd channel => Sys2Proof.Machine.execConnectEnd channel s
  | .deadtimeEnd channel => Sys2Proof.Machine.execDeadtimeEnd channel s
  | .kickEnd channel => Sys2Proof.Machine.execKickEnd channel s
  | .currentConversion channel count => Sys2Proof.Machine.execCurrentConversion channel count s
  | .stall channel => Sys2Proof.Machine.execStall channel s
  | .travelLimit channel => Sys2Proof.Machine.execTravelLimit channel s
  | .short channel => Sys2Proof.Machine.execShort channel s
  | .brakeEnd channel => Sys2Proof.Machine.execBrakeEnd channel s
  | .coastEnd channel => Sys2Proof.Machine.execCoastEnd channel s
  | .batteryConversion count => Sys2Proof.Machine.execBatteryConversion count s
  | .bandEvaluation => Sys2Proof.Machine.execBandEvaluation s
  | .clockSecond => Sys2Proof.Machine.execClockSecond s
  | .minuteEvent => Sys2Proof.Machine.execMinuteEvent s
  | .lampPhase bay => Sys2Proof.Machine.execLampPhase bay s
  | .byteReceived byte => Sys2Proof.Machine.execByteReceived byte s
  | .backupSupplyLoss => Sys2Proof.Machine.execBackupSupplyLoss s

end Sys2Proof.Machine
end

