-- ==== Sys2Proof/Machine/Idle.lean ====
section
/-! DEFINITION. What the part does of itself where no command waits (log 2, log 37): the events that are due in its state,
and the passing of one crystal period where none is. -/

namespace Sys2Proof.Machine

/-- An event stands in a list where its condition holds. -/
def eventIf (cond : Bool) (i : Instr) : List Instr := if cond then [i] else []

/-- The events due at a bay: an acceptance of the scanner (R2), the timers that have expired (R16, R19, R20, R21, R77, R179)
and the end of a lamp phase (R24). -/
def State.bayDue (s : State) (b : BayIx) : List Instr :=
  let y := s.bay b
  eventIf (y.presenceDue || y.latchDue) (.senseEvent b)
    ++ eventIf (timeUp s.ms y.takeEnd) (.takeWindowExpiry b)
    ++ eventIf (timeUp s.ms y.tagWindow) (.tagWindowExpiry b)
    ++ eventIf (timeUp s.ms y.deadlineEnd) (.unlatchDeadlineExpiry b)
    ++ eventIf (timeUp s.ms y.retryEnd) (.retryDelayExpiry b)
    ++ eventIf (timeUp s.ms y.tagEnd) (.pendingTagExpiry b)
    ++ eventIf (timeUp s.ms y.lampEnd) (.lampPhase b)

/-- The events due on a channel that drives: the end of CONNECT or COAST at a refresh of the select chain (R144, R146), the end
of a dead time, which is shorter than a crystal period (R144, R146), of KICK and of BRAKE (R145, R146), and the three ends of a
drive (R151 to R154). -/
def State.channelDue (s : State) (c : Fin 4) : List Instr :=
  match s.pulse? c with
  | some p =>
    eventIf (decide (p.phase = .connect) && s.refreshes p) (.connectEnd c)
      ++ eventIf (decide (p.phase = .coast) && s.refreshes p) (.coastEnd c)
      ++ eventIf (decide (p.phase = .deadtime1 ∨ p.phase = .deadtime2)) (.deadtimeEnd c)
      ++ eventIf (p.kickOver s.ms) (.kickEnd c)
      ++ eventIf (p.stalled s.channels[c]) (.stall c)
      ++ eventIf (p.atLimit s.ms) (.travelLimit c)
      ++ eventIf (p.shorts s.channels[c]) (.short c)
      ++ eventIf (p.brakeOver s.ms) (.brakeEnd c)
  | none => []

/-- The second boundary that is due, as a minute event where it is one (R180). -/
def State.clockDue (s : State) : List Instr :=
  eventIf s.secondDue (if s.clock.minuteDue then .minuteEvent else .clockSecond)

/-- Every event that is due: the clock's in every state of the part, and the others while it runs. The evaluation of the band is
due at its count (R167), and the grant event that follows a posting where a grant is possible (R140). -/
def State.due (s : State) : List Instr :=
  s.clockDue ++
    if s.running then
      eventIf (s.rx.gapOver s.ms) .interByteGapTimeout ++ allBays.flatMap s.bayDue ++ allChannels.flatMap s.channelDue
        ++ eventIf s.evaluationDue .bandEvaluation ++ eventIf (grantOne s).isSome .grant
    else []

/-- What a count that the time base has just reached brings (R178): a refresh of the select chain every 4 ms, at counts of one
free class modulo 4 (R144, log 38), and an evaluation of the band at each multiple of 100 (R167). -/
def startCount (s : State) : State :=
  { s with
    refreshDue := decide (s.ms % 4 = Config.refreshPhase % 4)
    evaluationDue := decide (s.ms % 100 = 0) }

/-- One crystal period passes, and where the millisecond count has moved the new count begins. A refresh that the count stood
at and that no event has made is made first, so that the chain takes its new values also where no channel is in CONNECT or
COAST (R24, R144, R160); a stopped part makes none (R207). -/
def passPeriod (s : State) : State :=
  let t := crystalPeriod (whenRunning s refreshChain)
  if t.ms = s.ms then { t with refreshDue := false } else startCount t

/-- One of the events that are due is put into the queue; of several a free value says which (log 37). -/
def takeDue (i : Instr) (rest : List Instr) (s : State) : State :=
  match rest with
  | [] => { s with pending := [i] }
  | _ :: _ =>
    { s with
      pending := [(i :: rest).getD (Config.firstDue s.freeIndex % (rest.length + 1)) i], freeIndex := s.freeIndex + 1 }

/-- What a step does with no command waiting (log 2): an event that is due is put into the queue, and where none is due one
crystal period passes. So no period passes before every timer that has expired is taken (R179). -/
def tick (s : State) : State :=
  match s.due with
  | [] => passPeriod s
  | i :: rest => takeDue i rest s

end Sys2Proof.Machine
end

