-- ==== Sys2Proof/Safety.lean ====
section
/-! DEFINITION. The terms the statements use: when a request is answered, the shape of an answered state, and the invariants
that every step keeps. -/

namespace Sys2Proof.Machine

/-- The part takes requests: main power is present, RESET is not held and no reply is in progress (R175, R193, R207). -/
def State.accepting (s : State) : Prop := s.mainPower = true ∧ s.resetHeld = false ∧ s.reply = none

/-- The part runs: main power is present and RESET is not held (R175, R207). -/
def State.works (s : State) : Prop := s.mainPower = true ∧ s.resetHeld = false

/-- The commands that can still reach a part that is stopped, by RESET or for want of main power: the supplies and RESET
themselves (R175, R176, R207), the station clock (R180, R183) and the analog scan (R162, log 24). Every other one is ignored
there. -/
def reachesStoppedPart : Instr → Bool
  | .resetAssert | .resetRelease _ | .mainPowerLoss | .mainPowerReturn _ | .backupSupplyLoss => true
  | .clockSecond | .minuteEvent | .currentConversion _ _ | .batteryConversion _ => true
  | _ => false

/-- The state with a reply in progress and reception in HUNT. -/
def State.answered (s : State) (kind : Byte) (payload : List Byte) : State :=
  { s with rx := .hunt, reply := some ⟨kind, payload⟩ }

/-- A list of bytes received one after the other, from a state whose commands all succeed. -/
def feed : List Byte → State → Host.Outcome State Fault Refusal
  | [], s => .next s
  | x :: rest, s =>
    match exec (.byteReceived x) s with
    | .next t => feed rest t
    | .fault r => .fault r
    | .refused r => .refused r

/-- The weight of a rental slot in the committed count (R126). -/
def slotWeight : Option Rental → Nat
  | none => 0
  | some r => match r.stage with
    | .pending | .released => 2
    | .opened => 1

/-- The weight of a bay in the committed count (R126). -/
def bayWeight (y : Bay) : Nat := match y.link with
  | .staff => 1
  | .unlinked | .rental _ | .readiness => 0

/-- The committed count as R126 sums it, over the slots and the bays one by one. -/
def State.committedSum (s : State) : Nat :=
  s.journal.length + ((List.finRange 64).map fun k => slotWeight s.rentals[k]).sum
    + ((List.finRange 32).map fun b => bayWeight s.bays[b]).sum

/-- The journal holds its bounds: the committed count never exceeds 256 (R126), the cursor stands within the record count
(R134), the held order names exactly the bays with a held return, each once (R129), and at 128 records or fewer the
high-water flag is armed (R135). -/
structure JournalKept (s : State) : Prop where
  committed : s.committed ≤ 256
  cursor    : s.cursor ≤ s.journal.length
  heldOnce  : s.heldOrder.Nodup
  heldExact : ∀ b : BayIx, b ∈ s.heldOrder ↔ (s.bay b).held.isSome
  armed     : s.journal.length ≤ 128 → s.highWaterArmed = true

/-- A stored deny entry is in range (R55). -/
def DenyEntry.legal (e : DenyEntry) : Prop :=
  1 ≤ e.rider ∧ e.rider ≤ 4294967295 ∧ 1 ≤ e.reason ∧ e.reason ≤ 15 ∧ ∀ x, e.expiry = some x → x ≤ maxMinute

/-- The two lists hold their orders and bounds (R50, R59). -/
structure ListsKept (s : State) : Prop where
  denyAscending : s.deny.Pairwise fun x y => x.rider < y.rider
  denyRoom      : s.deny.length ≤ 1024
  denyLegal     : ∀ e ∈ s.deny, e.legal
  spentOnce     : s.spent.Pairwise fun x y => x.rider ≠ y.rider ∨ x.serial ≠ y.serial
  spentRoom     : s.spent.length ≤ 384

/-- A tariff lies in the ranges of spec 6.1. -/
def Tariff.inRange (t : Tariff) : Prop :=
  t.unlockFee ≤ 1000 ∧ t.freeMinutes ≤ 1440 ∧ 1 ≤ t.period ∧ t.period ≤ 240 ∧ t.periodPrice ≤ 2000
    ∧ t.supplement ≤ 2000 ∧ 100 ≤ t.rideCap ∧ t.rideCap ≤ 50000

/-- A profile lies in the ranges of spec 8.4, its travel limit at least its kick time plus 20 ms (R147). -/
def Profile.inRange (p : Profile) : Prop :=
  100 ≤ p.kickDuty ∧ p.kickDuty ≤ 1000 ∧ p.kickTime ≤ 200 ∧ 100 ≤ p.holdDuty ∧ p.holdDuty ≤ 1000
    ∧ 100 ≤ p.travelLimit ∧ p.travelLimit ≤ 2000 ∧ p.kickTime + 20 ≤ p.travelLimit
    ∧ 200 ≤ p.stallThreshold ∧ p.stallThreshold ≤ 4000 ∧ 4 ≤ p.stallTime ∧ p.stallTime ≤ 200
    ∧ p.inrushMask ≤ 100 ∧ p.brakeTime ≤ 100

/-- The settings lie in the ranges of spec 10.3 (R187). -/
def Settings.inRange (t : Settings) : Prop :=
  t.skew ≤ 30 ∧ 5 ≤ t.takeWindow ∧ t.takeWindow ≤ 120 ∧ 5 ≤ t.tagWindow ∧ t.tagWindow ≤ 60
    ∧ 2 ≤ t.deadline ∧ t.deadline ≤ 30 ∧ t.minCharge ≤ 100 ∧ 1 ≤ t.deadTime ∧ t.deadTime ≤ 20

/-- Thresholds in range and in the order of R171. -/
def Thresholds.inOrder (t : Thresholds) : Prop :=
  6000 ≤ t.brownEnter ∧ t.brownEnter < t.brownLeave ∧ t.brownLeave ≤ t.critEnter ∧ t.critEnter < t.critLeave
    ∧ t.critLeave ≤ t.lowEnter ∧ t.lowEnter < t.lowLeave ∧ t.lowLeave ≤ 18000

/-- The stored settings, tables, clock and filter lie in their ranges (R110, R147, R165, R171, R178, R180, R182, R187). -/
structure RangesKept (s : State) : Prop where
  settings   : s.settings.inRange
  latch      : s.latchProfile.inRange
  unlatch    : s.unlatchProfile.inRange
  thresholds : s.thresholds.inOrder
  tariffs    : ∀ (p : Fin 3) t, s.tariffs[p] = some t → t.inRange
  clock      : s.clock.second ≤ 59 ∧ s.clock.phase < 32768 ∧ s.clock.minute ≤ maxMinute
  unset      : s.clock.isSet = false → s.clock.minute = 0
  timeBase   : s.ms ≤ maxCount
  filter     : s.samples.length ≤ 16 ∧ s.rejections ≤ 200

/-- A rental record's hold is within its captured ride cap, its captured tariff is in range, and it has a checkout minute
exactly when it is OPEN (R90, R115). -/
def Rental.legal (r : Rental) : Prop :=
  r.hold ≤ r.tariff.rideCap ∧ r.tariff.inRange ∧ (r.checkout.isSome ↔ r.stage = .opened)

/-- Every stored tariff is in range and every rental record is legal (R90, R110, R115). -/
structure RentalsKept (s : State) : Prop where
  tariffs : ∀ (p : Fin 3) t, s.tariffs[p] = some t → t.inRange
  records : ∀ (k : Fin 64) r, s.rentals[k] = some r → r.legal

/-- The channel drives a pulse that the select chain has joined to its bay (R144): past CONNECT and short of COAST, or in
CONNECT with its refresh come. -/
def Pulse.carriedByChain (p : Pulse) : Bool :=
  decide (p.phase ≠ .connect ∧ p.phase ≠ .coast) || (decide (p.phase = .connect) && p.refreshed)

/-- The drive keeps its bounds: no bay is driven by two channels (R138, R144), every pulse runs on a profile in range
(R148), the counts stay in 0..200 and 0..2 (section 8.3), the queue stands in posting order below the next order (R139), the
select chain carries to its bay every channel that it has joined to it, and no channel to two bays (R144). -/
structure DriveKept (s : State) : Prop where
  latch    : s.latchProfile.inRange
  unlatch  : s.unlatchProfile.inRange
  oneBay   : ∀ (c d : Fin 4) p q, s.pulse? c = some p → s.pulse? d = some q → p.bay = q.bay → c = d
  profiles : ∀ (c : Fin 4) p, s.pulse? c = some p → p.profile.inRange
  counts   : ∀ c : Fin 4, (s.channels[c]).stall ≤ 200 ∧ (s.channels[c]).short ≤ 2
  ordered  : s.queue.Pairwise fun x y => x.order < y.order
  below    : ∀ q ∈ s.queue, q.order < s.nextOrder
  carried  : ∀ (c : Fin 4) p, s.pulse? c = some p → p.carriedByChain = true → (s.chain[p.bay]).channel = some c
  oneChain : ∀ (b o : BayIx) (c : Fin 4), (s.chain[b]).channel = some c → (s.chain[o]).channel = some c → b = o

/-- No bike number stands in the identities or live pending tags of two bays (R94). -/
structure NamesKept (s : State) : Prop where
  oneBay : ∀ (b o : BayIx) (bike : Nat), (s.bay b).names bike = true → (s.bay o).names bike = true → b = o

/-- A record of a CASUAL release, which holds a spent entry (R59): PENDING or RELEASED. -/
def Rental.holdsSpent (r : Rental) : Prop := r.stage ≠ .opened ∧ r.plan = .casual

/-- The HELD spent entries and the PENDING and RELEASED CASUAL rentals stand for one another, one to one (R59). -/
structure SpentKept (s : State) : Prop where
  once      : s.spent.Pairwise fun x y => x.rider ≠ y.rider ∨ x.serial ≠ y.serial
  hasEntry  : ∀ (k : Fin 64) r, s.rentals[k] = some r → r.holdsSpent →
    ∃ e ∈ s.spent, e.state = .held ∧ e.rider = r.rider ∧ e.serial = r.serial
  hasRental : ∀ e ∈ s.spent, e.state = .held →
    ∃ (k : Fin 64) (r : Rental), s.rentals[k] = some r ∧ r.holdsSpent ∧ r.rider = e.rider ∧ r.serial = e.serial
  oneRental : ∀ (j k : Fin 64) r x, s.rentals[j] = some r → s.rentals[k] = some x → r.holdsSpent → x.holdsSpent →
    r.rider = x.rider → r.serial = x.serial → j = k

/-- A pulse whose result its bay has not taken: until the end of BRAKE, and to the end of COAST after an abort or a short
(R159). -/
def Pulse.waiting (p : Pulse) : Bool :=
  decide (p.phase ≠ .coast) || p.shorted || decide (p.result = some .abort)

/-- A bay's state and link fit the kind of the pulse it waits for (R8, R12). -/
def Bay.fits (y : Bay) : DriveKind → Prop
  | .latch => y.state = .latching
  | .unlatchReady => y.state = .unlatching ∧ y.link = .readiness
  | .unlatchStaff => y.state = .unlatching ∧ (y.link = .staff ∨ y.link = .unlinked)
  | .unlatchRental => y.state = .unlatching ∧ ((∃ k, y.link = .rental k) ∨ y.link = .unlinked)

/-- A bay's link, drive stage and lamp agree with its state (R12, R24): a request in LATCHING and UNLATCHING only, a link in
UNLATCHING and RELEASED only, no readiness mark in RELEASED, a presence-changed mark only while driving, and the lamp in the
state's pattern. -/
structure Bay.Tied (y : Bay) : Prop where
  request  : y.driveStage ≠ .noRequest ↔ (y.state = .latching ∨ y.state = .unlatching)
  linked   : y.link ≠ .unlinked → y.state = .unlatching ∨ y.state = .released
  dropped  : y.state = .unlatching → y.link = .unlinked → y.driveStage = .driving ∧ y.presenceChanged = true
  released : y.state = .released → y.link = .staff ∨ ∃ k, y.link = .rental k
  changed  : y.presenceChanged = true → y.driveStage = .driving
  lamp     : y.lamp = y.state.lamp

/-- Bays, queue and channels agree on every drive request while main power is present (R12, R138, R159): a bay holds at most
one request, queued or in flight; it is queued exactly when it stands in the queue, with the kind of its state and link, and
driving exactly when a channel runs its pulse. -/
structure RequestsTied (s : State) : Prop where
  bays     : ∀ b, (s.bay b).Tied
  queued   : ∀ q ∈ s.queue, (s.bay q.bay).driveStage = .queued ∧ (s.bay q.bay).requestKind = some q.kind
  queueOne : s.queue.Pairwise fun x y => x.bay ≠ y.bay
  stands   : ∀ b, (s.bay b).driveStage = .queued → ∃ q ∈ s.queue, q.bay = b
  driving  : ∀ (c : Fin 4) p, s.pulse? c = some p → p.waiting = true →
    (s.bay p.bay).driveStage = .driving ∧ (s.bay p.bay).fits p.kind
  driven   : ∀ b, (s.bay b).driveStage = .driving → ∃ (c : Fin 4) (p : Pulse),
    s.pulse? c = some p ∧ p.waiting = true ∧ p.bay = b
  oneBay   : ∀ (c d : Fin 4) p q, s.pulse? c = some p → s.pulse? d = some q → p.bay = q.bay → c = d
  shorted  : ∀ (c : Fin 4) p, s.pulse? c = some p → p.shorted = true →
    p.result = some .jam ∧ (p.phase = .deadtime2 ∨ p.phase = .coast)

/-- The lamp of every bay stands in the pattern of its state (R24). -/
def LampsFollow (s : State) : Prop := ∀ b, (s.bay b).lamp = (s.bay b).state.lamp

/-- A lamp's value in the phase that its pattern stands in (the table of R24). -/
def Bay.lampValue (y : Bay) : Bool :=
  match y.lamp with
  | .off => false
  | .steady => true
  | .slow | .fast => decide (y.lampPhase = 0)
  | .double => decide (y.lampPhase = 0 ∨ y.lampPhase = 2)

/-- The state that a refresh of the select chain leaves, before any event that it brings: the chain carries to each bay the
channel that drives it and is not in COAST, or none, and the value of its lamp (R24, R144, R146, R160); each pulse in CONNECT or
COAST is marked (the marks are the model's own, log 38). -/
def State.afterRefresh (s : State) : State :=
  { s with
    refreshDue := false
    chain := Vector.ofFn fun b =>
      { channel := (List.finRange 4).find? fun c => match (s.channels[c]).mode with
          | .driving q => decide (q.bay = b) && decide (q.phase ≠ .coast)
          | .idle | .disabled => false
        lamp := (s.bay b).lampValue }
    channels := s.channels.map fun x => match x.mode with
      | .driving q =>
        if q.phase = .connect ∨ q.phase = .coast then { x with mode := .driving { q with refreshed := true } } else x
      | .idle | .disabled => x }

/-- A bay holds a release: the staff mark, or a link to a PENDING or RELEASED record (R12, R92). -/
def State.hasRelease (s : State) (b : BayIx) : Prop :=
  (s.bay b).link = .staff ∨ ∃ (k : Fin 64) (r : Rental), (s.bay b).link = .rental k ∧ s.rentals[k] = some r ∧ r.stage ≠ .opened

/-- The state in which the release of a bay is gone, before the flush that the fall of the committed count brings: the link is
dropped, and a rental has left the table with the HELD entry of a CASUAL one withdrawn (R84, steps 1 and 2; R87). -/
def State.withoutRelease (s : State) (b : BayIx) : State :=
  let t := { s with bays := s.bays.set b.val { s.bay b with link := .unlinked } b.isLt }
  match (s.bay b).link with
  | .rental k => match s.rentals[k] with
    | some r => { t with
        rentals := s.rentals.set k.val none k.isLt
        spent := if r.plan = .casual then s.spent.filter fun x =>
          !(decide (x.rider = r.rider) && decide (x.serial = r.serial) && decide (x.state = .held)) else s.spent }
    | none => t
  | .unlinked | .staff | .readiness => t

/-- The state in which the release of bay `b`, whose record is `y`, has been discarded with a last outcome: the rental and its
HELD entry are gone (R84), the deadline and the take window are stopped, the link is dropped and OUTCOME is posted (R23, R77,
R84, R87), and the fall of the committed count has flushed held returns (R130). -/
def State.discarded (s : State) (b : BayIx) (o : LastOutcome) (y : Bay) : State :=
  flush { s.withoutRelease b with
    bays := s.bays.set b.val { y with
      lastOutcome := o, deadline := .stopped, takeWindow := none, link := .unlinked } b.isLt
    changes := { s.changes with bays := s.changes.bays.set b.val { s.changes.bays[b] with outcome := true } b.isLt } }

/-- What a discard of the release of bay `b` leaves of the journal, the lists and the other bays: what the flush leaves of the
state without the release (R84, R87, R130, R131). -/
structure ReleaseFlushed (b : BayIx) (s t : State) : Prop where
  journal   : t.journal = (flush (s.withoutRelease b)).journal
  heldOrder : t.heldOrder = (flush (s.withoutRelease b)).heldOrder
  highWater : t.highWaterArmed = (flush (s.withoutRelease b)).highWaterArmed
  rentals   : t.rentals = (flush (s.withoutRelease b)).rentals
  spent     : t.spent = (flush (s.withoutRelease b)).spent
  station   : t.changes.station = (flush (s.withoutRelease b)).changes.station
  others    : ∀ o, o ≠ b → t.bay o = (flush (s.withoutRelease b)).bay o ∧
    t.changes.bays[o] = (flush (s.withoutRelease b)).changes.bays[o]
  held      : (t.bay b).held = ((flush (s.withoutRelease b)).bay b).held
  link      : (t.bay b).link = .unlinked
  outcome   : ((t.changes.bays)[b]).outcome = true

/-- The state re-derivation gives a bay (the table of R17). -/
def restState : Presence → Latch → BayState
  | .present, .closed => .docked
  | .present, .opened => .latching
  | .absent, .opened => .vacant
  | .absent, .closed => .unlatching

/-- The record `y` of a bay whose state becomes `new`, with lamp pattern `p`, at count `now` (R4): the timers of the state it
leaves are stopped (the timer table of 1.6, R5, R77), and the pattern begins with its first phase unless it already stands
(R24). In the state it already has nothing changes. -/
def Bay.changedTo (now : Nat) (new : BayState) (p : LampPattern) (y : Bay) : Bay :=
  if y.state = new then y else
    { y with
      state := new
      pendingTag := if y.state = .vacant then none else y.pendingTag
      tagWindow := if y.state = .docked ∨ y.state = .fault then none else y.tagWindow
      takeWindow := if y.state = .released then none else y.takeWindow
      retryDelay := if y.state = .latching ∨ y.state = .unlatching then none else y.retryDelay
      deadline := if new = .released ∨ new = .fault then .stopped else y.deadline
      lamp := p
      lampPhase := if y.lamp = p then y.lampPhase else 0
      lampSince := if y.lamp = p then y.lampSince else now }

/-- The state `s` with the record `y` of bay `b` taken to a bay state: a change posts STATE (R4). -/
def State.entered (s : State) (b : BayIx) (new : BayState) (p : LampPattern) (y : Bay) : State :=
  { s with
    bays := s.bays.set b.val (y.changedTo s.ms new p) b.isLt
    changes := if y.state = new then s.changes else
      { s.changes with bays := s.changes.bays.set b.val { s.changes.bays[b] with state := true } b.isLt } }

/-- The state `v` with a record appended for a return at bay `b`, which posts RETURN (R96, R98); the rise to 192 records with
the flag armed posts JOURNAL_HIGH and disarms it (R135). -/
def State.withReturn (v : State) (b : BayIx) (r : JournalRecord) : State :=
  let rises := decide (v.journal.length = 191) && v.highWaterArmed
  { v with
    journal := v.journal ++ [r], highWaterArmed := v.highWaterArmed && !rises
    changes := {
      station := { v.changes.station with journalHigh := v.changes.station.journalHigh || rises }
      bays := v.changes.bays.set b.val { v.changes.bays[b] with returned := true } b.isLt } }

/-- What an entry to DOCKED, or to FAULT with presence PRESENT, makes of the state `v` that the change of state has left (R4):
the tag window where no identity is known (R19), and return processing where it is due (R18): a local return (R95 to R97), a
foreign one that the journal admits (R98) or that is held (R99), or one that waits behind a held one (R100). -/
structure EntrySettled (b : BayIx) (v t : State) : Prop where
  unknown : (v.bay b).identity = none →
    t = { v with bays := v.bays.set b.val { v.bay b with tagWindow := some (v.ms + 1000 * v.settings.tagWindow) } b.isLt }
  dealt   : (v.bay b).identity ≠ none → (v.bay b).processed = true → t = v
  localOne : ∀ (i : Identity) (k : Fin 64) (r : Rental), (v.bay b).identity = some i → (v.bay b).processed = false →
    v.rentals[k] = some r → r.bike = i.bike → r.stage = .opened →
    (∀ (j : Fin 64) x, v.rentals[j] = some x → x.bike = i.bike → j = k) →
    let minute := (v.bay b).arrival.getD v.clock.minute
    let x := computeCharge r minute
    t = { v with
      bays := v.bays.set b.val { v.bay b with processed := true, arrival := some minute } b.isLt
      rentals := v.rentals.set k.val none k.isLt }.withReturn b (.returned ⟨minute, b, r.bay, r.bike, r.cls, r.rider, r.plan,
        r.checkout.getD 0, x.duration, x.charge, x.settled, x.due⟩)
  foreignOne : ∀ i : Identity, (v.bay b).identity = some i → (v.bay b).processed = false →
    (∀ (j : Fin 64) x, v.rentals[j] = some x → x.bike = i.bike → x.stage ≠ .opened) →
    let minute := (v.bay b).arrival.getD v.clock.minute
    let foreign : ForeignReturn := ⟨minute, b, i.bike, i.cls, i.battery⟩
    let fixed : Bay := { v.bay b with arrival := some minute }
    ((v.bay b).held = none → v.committedSum + 1 ≤ 256 →
      t = { v with bays := v.bays.set b.val { fixed with processed := true } b.isLt }.withReturn b (.foreignReturn foreign)) ∧
    ((v.bay b).held = none → 256 < v.committedSum + 1 →
      t = { v with
        bays := v.bays.set b.val { fixed with processed := true, held := some foreign } b.isLt
        heldOrder := v.heldOrder ++ [b]
        changes := { v.changes with bays := v.changes.bays.set b.val { v.changes.bays[b] with held := true } b.isLt } }) ∧
    ((v.bay b).held ≠ none → t = { v with bays := v.bays.set b.val fixed b.isLt })

/-- The record of a bay at its third failure, before it enters FAULT (R16): the fault cause set, no request, the attempt count
0 and every timer stopped. -/
def Bay.thirdFailure (y : Bay) (cause : FaultCause) : Bay :=
  { y with
    faultCause := some cause, driveStage := .noRequest, attempts := 0, takeWindow := none, tagWindow := none
    deadline := .stopped, retryDelay := none, pendingTag := none }

/-- What an entry to FAULT makes of the state `s` with the record `y` of bay `b` (R4, R16): the change of state, and with
presence PRESENT what the entry brings. -/
def FaultEntered (b : BayIx) (y : Bay) (s t : State) : Prop :=
  let v := s.entered b .fault .fast y
  (y.presence = .present → EntrySettled b v t) ∧ (y.presence = .absent → t = v)

/-- What re-derivation makes of the state `s` with the record `y` of bay `b` (R17): attempt count, presence-changed mark, fault
cause, link and request cleared; with presence PRESENT a missing arrival minute recorded, with ABSENT the bike forgotten; then
the state of the table, with the request it posts at the back of the queue, or with what an entry to DOCKED brings (R4). -/
def Rederived (b : BayIx) (y : Bay) (s t : State) : Prop :=
  let z : Bay := { y with
    attempts := 0, presenceChanged := false, faultCause := none, link := .unlinked, driveStage := .noRequest }
  let bike : Bay := { z with arrival := some (y.arrival.getD s.clock.minute) }
  let empty : Bay := { z with identity := none, arrival := none, processed := false }
  match y.presence, y.latch with
  | .present, .closed => EntrySettled b (s.entered b .docked .off bike) t
  | .present, .opened => t = { s.entered b .latching .slow { bike with driveStage := .queued } with
      queue := s.queue ++ [⟨b, .latch, s.nextOrder⟩], nextOrder := s.nextOrder + 1 }
  | .absent, .opened => t = s.entered b .vacant .off empty
  | .absent, .closed => t = { s.entered b .unlatching .slow { empty with link := .readiness, driveStage := .queued } with
      queue := s.queue ++ [⟨b, .unlatchReady, s.nextOrder⟩], nextOrder := s.nextOrder + 1 }

/-- The request that re-derivation posts for a bay (the table of R17). -/
def restKind (w : SenseWord) (b : BayIx) : Option DriveKind :=
  match samplePresence w b, sampleLatch w b with
  | .present, .opened => some .latch
  | .absent, .closed => some .unlatchReady
  | .present, .closed | .absent, .opened => none

/-- The queue that the re-derivation of every bay leaves: the requests in ascending order of bay number, with posting orders
from `first` on (R30, R160, R161). -/
def restQueue (w : SenseWord) (first : Nat) : List DriveRequest :=
  (((List.finRange 32).filterMap fun b => (restKind w b).map fun k => (b, k)).zipIdx first).map
    fun x => ⟨x.1.1, x.1.2, x.2⟩

/-- A bay after a seeding scan and its re-derivation (R3, R17): its four levels are the samples, its state, link and drive
stage follow from them, its counts and marks are clear and it has no fault. -/
structure SeededAndRederived (w : SenseWord) (b : BayIx) (y : Bay) : Prop where
  presence    : y.presence = samplePresence w b
  latch       : y.latch = sampleLatch w b
  rawPresence : y.rawPresence = samplePresence w b
  rawLatch    : y.rawLatch = sampleLatch w b
  counts      : y.presenceAgree = 0 ∧ y.latchAgree = 0 ∧ y.presenceDue = false ∧ y.latchDue = false
  state       : y.state = restState (samplePresence w b) (sampleLatch w b)
  link        : y.link = if restKind w b = some .unlatchReady then .readiness else .unlinked
  driveStage  : y.driveStage = if (restKind w b).isSome then .queued else .noRequest
  fault       : y.faultCause = none
  attempts    : y.attempts = 0
  mark        : y.presenceChanged = false
  emptied     : y.presence = .absent → y.identity = none ∧ y.arrival = none ∧ y.processed = false

/-- What a cold reset leaves, whatever stood before (R30, R38, R66, R108, R110, R136, R147, R161, R170, R171, R178, R187,
R196). The posting orders of the queue begin at 0 (log 19), and at count 0 an evaluation of the band is due (R167, log 38). -/
structure ColdlyReset (w : SenseWord) (t : State) : Prop where
  timeBase   : t.ms = 0
  marks      : t.refreshDue = false ∧ t.evaluationDue = true
  clock      : t.clock = ⟨0, 0, 0, false, false⟩
  settings   : t.settings = ⟨5, 30, 20, 8, 20, 4⟩
  keys       : ∀ k : Fin 4, t.keys[k] = none
  tariffs    : ∀ p : Fin 3, t.tariffs[p] = none
  lists      : t.deny = [] ∧ t.spent = []
  rentals    : ∀ k : Fin 64, t.rentals[k] = none
  journal    : t.journal = [] ∧ t.cursor = 0 ∧ t.heldOrder = [] ∧ t.highWaterArmed = true
  queue      : t.queue = restQueue w 0
  channels   : ∀ c : Fin 4, t.channels[c] = ⟨.idle, 0, 0⟩
  chain      : ∀ b : BayIx, t.chain[b] = ⟨none, false⟩
  profiles   : t.latchProfile = ⟨1000, 60, 600, 400, 1800, 20, 30, 20⟩
    ∧ t.unlatchProfile = ⟨1000, 80, 700, 500, 2000, 20, 30, 20⟩
  supply     : t.samples = [] ∧ t.rejections = 0 ∧ t.band = .critical
  thresholds : t.thresholds = ⟨11600, 12000, 11000, 11400, 9800, 10600⟩
  link       : t.rx = .hunt ∧ t.reply = none ∧ t.changes.any = false
  validity   : t.backupValid = true
  bays       : ∀ b, SeededAndRederived w b (t.bay b)
  baysClear  : ∀ b, (t.bay b).identity = none ∧ (t.bay b).processed = false ∧ (t.bay b).pendingTag = none
    ∧ (t.bay b).held = none ∧ (t.bay b).lastOutcome = .noOutcome ∧ (t.bay b).alarms = ⟨false, false, false, false⟩
    ∧ (t.bay b).takeWindow = none ∧ (t.bay b).deadline = .stopped ∧ (t.bay b).retryDelay = none
  arrivals   : ∀ b, (t.bay b).arrival = if samplePresence w b = .present then some 0 else none
  tagWindows : ∀ b, (t.bay b).tagWindow = if (t.bay b).state = .docked then some 20000 else none
  lamps      : ∀ b, (t.bay b).lamp = (t.bay b).state.lamp ∧ (t.bay b).lampPhase = 0 ∧ (t.bay b).lampSince = 0

/-- A link that a warm restart ends as a release: a rental slot or the staff mark (R31). -/
def endsRelease : Link → Bool
  | .rental _ | .staff => true
  | .unlinked | .readiness => false

/-- What a warm restart of a kind makes of a state (R31, R38, R50, R67, R86, R109, R110, R137, R147, R160, R170, R171,
R183, R187, R196). The clock, the keys, the tables and the settings stand. The FINAL entries are kept, and every OPEN rental
but one whose bike is returned in the restart. A known bike in DOCKED has its return processed (R18) unless it waits behind a
held one (R100). Every held return is kept or written, and the held order keeps its order. The drive queue is emptied and then
takes the requests of the re-derived bays. The select chain stands until its next refresh, which carries none to every bay. -/
structure WarmlyRestarted (kind : RestartKind) (w : SenseWord) (s t : State) : Prop where
  kept       : t.clock = s.clock ∧ t.settings = s.settings ∧ t.keys = s.keys ∧ t.tariffs = s.tariffs ∧ t.deny = s.deny
    ∧ t.latchProfile = s.latchProfile ∧ t.unlatchProfile = s.unlatchProfile ∧ t.thresholds = s.thresholds
    ∧ t.backupValid = s.backupValid
  spent      : t.spent = s.spent.filter fun e => decide (e.state = .finalized)
  rentals    : ∀ (k : Fin 64) r, t.rentals[k] = some r → s.rentals[k] = some r ∧ r.stage = .opened
  openKept   : ∀ (k : Fin 64) r, s.rentals[k] = some r → r.stage = .opened → t.rentals[k] = some r ∨
    ∃ (x : ReturnRecord) (i : Identity), .returned x ∈ t.journal.drop s.journal.length ∧ x.bike = r.bike ∧ x.rider = r.rider
      ∧ x.fromBay = r.bay ∧ (s.bay x.bay).identity = some i ∧ i.bike = r.bike ∧ (s.bay x.bay).processed = false
  journal    : s.journal <+: t.journal
  heldKept   : ∀ b h, (s.bay b).held = some h → (t.bay b).held = some h ∨
    .foreignReturn h ∈ t.journal.drop s.journal.length
  heldOrder  : ∃ n new, t.heldOrder = s.heldOrder.drop n ++ new ∧ (∀ b ∈ new, (t.bay b).held.isSome) ∧
    ∀ b ∈ s.heldOrder.take n, ∀ h, (s.bay b).held = some h → .foreignReturn h ∈ t.journal.drop s.journal.length
  highWater  : t.highWaterArmed = (s.highWaterArmed && !(decide (s.journal.length < 192) && decide (192 ≤ t.journal.length)))
  cursor     : t.cursor = 0
  queue      : t.queue = restQueue w s.nextOrder
  channels   : ∀ c : Fin 4, t.channels[c] = ⟨.idle, 0, 0⟩
  chain      : t.chain = s.chain
  parted     : ∀ b : BayIx, (t.afterRefresh.chain[b]).channel = none
  supply     : t.samples = [] ∧ t.rejections = 0 ∧ t.band = .critical
  link       : t.rx = .hunt ∧ t.reply = none
  station    : t.changes.station = ⟨false, false, false, some kind⟩
  causes     : ∀ b : BayIx, t.changes.bays[b] = ⟨true, false, false, false, false⟩
  bays       : ∀ b, SeededAndRederived w b (t.bay b)
  outcomes   : ∀ b, (t.bay b).lastOutcome = if endsRelease (s.bay b).link then .restartDiscard else .noOutcome
  alarms     : ∀ b, (t.bay b).alarms = (s.bay b).alarms
  identities : ∀ b, samplePresence w b = .present → (t.bay b).identity = (s.bay b).identity
    ∧ (t.bay b).arrival = some ((s.bay b).arrival.getD s.clock.minute)
    ∧ ((s.bay b).processed = true → (t.bay b).processed = true)
  returns    : ∀ b, (t.bay b).state = .docked → (t.bay b).identity ≠ none → (t.bay b).processed = true ∨ (t.bay b).held.isSome
  timers     : ∀ b, (t.bay b).pendingTag = none ∧ (t.bay b).takeWindow = none ∧ (t.bay b).deadline = .stopped
    ∧ (t.bay b).retryDelay = none
  tagWindows : ∀ b, (t.bay b).tagWindow =
    if (t.bay b).state = .docked ∧ (t.bay b).identity = none then some (t.ms + 1000 * s.settings.tagWindow) else none
  lamps      : ∀ b, (s.bay b).lamp = (s.bay b).state.lamp → (t.bay b).lamp = (t.bay b).state.lamp

/-- The items of the backup domain stand as they stood (the table of R174). -/
structure BackupKept (s t : State) : Prop where
  validity : t.backupValid = s.backupValid
  clock    : t.clock = s.clock
  stored   : t.settings = s.settings ∧ t.keys = s.keys ∧ t.tariffs = s.tariffs ∧ t.latchProfile = s.latchProfile
    ∧ t.unlatchProfile = s.unlatchProfile ∧ t.thresholds = s.thresholds
  lists    : t.deny = s.deny ∧ t.spent = s.spent ∧ t.rentals = s.rentals
  journal  : t.journal = s.journal ∧ t.heldOrder = s.heldOrder ∧ t.highWaterArmed = s.highWaterArmed
  bays     : ∀ b, (t.bay b).identity = (s.bay b).identity ∧ (t.bay b).arrival = (s.bay b).arrival
    ∧ (t.bay b).processed = (s.bay b).processed ∧ (t.bay b).link = (s.bay b).link
    ∧ (t.bay b).held = (s.bay b).held ∧ (t.bay b).alarms = (s.bay b).alarms

/-- An outcome with the condition that it answers. -/
def failsWhen (o : PresentOutcome) (cond : Bool) : List PresentOutcome := if cond then [o] else []

/-- The admission steps that a PRESENT fails, each judged by itself, in the order of the table of R68. -/
def admissionFailures (bay : Byte) (t : Token) (s : State) : List PresentOutcome :=
  let y := s.bay ((bayOf? bay).getD 0)
  let casual := decide (t.plan = 1)
  let tariff := if t.plan = 1 then s.tariffs[0] else if t.plan = 2 then s.tariffs[1] else if t.plan = 3 then s.tariffs[2] else none
  let records := (List.finRange 64).filterMap fun k => (s.rentals[k]).filter fun r => decide (r.rider = t.rider.toNat)
  let permitted := t.classKey.toNat / 16
  failsWhen .badBay (decide (bay.toNat = 0 ∨ 32 < bay.toNat))
    ++ failsWhen .clockUnset (!s.clock.isSet)
    ++ failsWhen .malformed (decide (t.rider = 0 ∨ t.span = 0 ∨ 240 < t.span.toNat ∨ t.plan = 0 ∨ 3 < t.plan.toNat
        ∨ permitted = 0 ∨ 3 < permitted ∨ t.classKey.toNat / 4 % 4 ≠ 0))
    ++ failsWhen .keyAbsent (s.keys[tokenSlot t]).isNone
    ++ failsWhen .codeMismatch ((s.keys[tokenSlot t]).all fun key => decide (checkCode key t ≠ t.code))
    ++ failsWhen .notYet (decide (s.clock.minute + s.settings.skew < t.issue.toNat))
    ++ failsWhen .expired (decide (min 4294967295 (t.issue.toNat + t.span.toNat) ≤ s.clock.minute))
    ++ failsWhen .denied (s.deny.any fun e => decide (e.rider = t.rider.toNat) &&
        (!s.clock.isSet || e.expiry.all fun x => decide (s.clock.minute < x)))
    ++ failsWhen .spent (casual && s.spent.any fun e => decide (e.rider = t.rider.toNat ∧ e.serial = t.serial.toNat))
    ++ failsWhen .tariffUnset tariff.isNone
    ++ failsWhen .bayNotReady (!decide (y.state = .docked ∧ y.identity.isSome ∧ y.processed = true ∧ y.held = none ∧ y.latch = .closed))
    ++ failsWhen .classNotAllowed (y.identity.any fun i =>
        decide (permitted ≠ 3 ∧ permitted ≠ match i.cls with | .standard => 1 | .electric => 2))
    ++ failsWhen .bikeLowCharge (y.identity.any fun i =>
        decide (i.cls = .electric ∧ i.battery < s.settings.minCharge))
    ++ failsWhen .alreadyRiding (decide ((if t.plan = 3 ∧ ∀ r ∈ records, r.plan = .member then 2 else 1) ≤ records.length))
    ++ failsWhen .tableFull ((List.finRange 64).all fun k => (s.rentals[k]).isSome)
    ++ failsWhen .spentFull (casual && decide (384 ≤ s.spent.length))
    ++ failsWhen .journalFull (decide (248 < s.committedSum + 2))
    ++ failsWhen .creditLow (casual && tariff.any fun f => y.identity.any fun i =>
        decide (t.credit.toNat <
          min (f.unlockFee + f.periodPrice + (if i.cls = .electric then f.supplement else 0)) f.rideCap))
    ++ failsWhen .powerLow (decide (s.band = .critical ∨ s.band = .brownout))

end Sys2Proof.Machine
end

