-- ==== Sys2Proof/Certificates/Slice0/Obligations.lean ====
section
/-! DEFINITION. The statements about the model, for the provers. -/

open Sys2Proof Sys2Proof.Machine

/-- A step runs the front command; with none waiting it takes a due event, or else passes one crystal period (logs 2, 18, 23, 37, 38) (95_what_each_step_holds, R167, R178, R179, R180). -/
def Obligations.StepRunsFrontOrPassesOnePeriod : Prop :=
  (∀ (c : Instr) (rest : List Instr) (s : State), step { s with pending := c :: rest } = exec c { s with pending := rest }) ∧
  (∀ s : State, s.pending = [] → s.due = [] → s.works → s.clock.phase + 1 < 32768 →
    let r := if s.refreshDue = true then s.afterRefresh else s
    (s.msRemainder + 1000 < 32768 →
      step s = .next { r with
        clock := { s.clock with phase := s.clock.phase + 1 }, msRemainder := s.msRemainder + 1000, refreshDue := false }) ∧
    (32768 ≤ s.msRemainder + 1000 → s.ms < maxCount →
      step s = .next { r with
        clock := { s.clock with phase := s.clock.phase + 1 }, msRemainder := s.msRemainder + 1000 - 32768, ms := s.ms + 1
        refreshDue := decide ((s.ms + 1) % 4 = Config.refreshPhase % 4)
        evaluationDue := decide ((s.ms + 1) % 100 = 0) })) ∧
  (∀ s : State, s.pending = [] → s.due = [] → (s.mainPower = true ∨ s.backupValid = true) → 32768 ≤ s.clock.phase + 1 →
    ∃ t, step s = .next t ∧ t.clock = { s.clock with phase := 0, boundary := true }) ∧
  (∀ s : State, s.pending = [] → s.due ≠ [] →
    ∃ i ∈ s.due, ∃ n, step s = .next { s with pending := [i], freeIndex := n })

/-- Every command answers a next state and leaves the queue of waiting commands as it stands (95_what_each_step_holds, R192, R193). -/
def Obligations.EveryCommandCompletesAndKeepsTheQueue : Prop :=
  ∀ (c : Instr) (s : State), ∃ t, exec c s = .next t ∧ t.pending = s.pending

/-- The state after reset meets every invariant that the steps keep (R12, R30, R59, R66, R94, R108, R110, R136, R138, R161, R187). -/
def Obligations.ResetMeetsTheInvariants : Prop :=
  JournalKept State.reset ∧ ListsKept State.reset ∧ RangesKept State.reset ∧ RentalsKept State.reset ∧ DriveKept State.reset ∧
    SpentKept State.reset ∧ NamesKept State.reset ∧ RequestsTied State.reset ∧ LampsFollow State.reset

/-- Every step keeps the committed count within 256, the cursor within the records and the held order exact (R126, R127, R129, R134, R135). -/
def Obligations.StepKeepsTheJournalBounds : Prop :=
  ∀ s t : State, JournalKept s → step s = .next t → JournalKept t

/-- Every step keeps the deny list in rider order, the spent list without repeats, and HELD entries one to one with CASUAL rentals not yet OPEN (R50, R55, R59, R60, R61, R62). -/
def Obligations.StepKeepsTheListBounds : Prop :=
  (∀ s t : State, ListsKept s → step s = .next t → ListsKept t) ∧
  (∀ s t : State, SpentKept s → step s = .next t → SpentKept t)

/-- Every step keeps settings, profiles, thresholds, tariffs, clock, filter and rental records in their ranges, and no bike in two bays (R90, R94, R110, R114, R115, R147, R165, R171, R178, R180, R182, R187). -/
def Obligations.StepKeepsTheStoredRanges : Prop :=
  (∀ s t : State, RangesKept s → RentalsKept s → step s = .next t → RangesKept t ∧ RentalsKept t) ∧
  (∀ s t : State, NamesKept s → step s = .next t → NamesKept t)

/-- Every step keeps each bay on one channel and the queue in order, and bays, queue and channels agreed on every request (R12, R24, R138, R139, R144, R147, R148, R151, R154, R159). -/
def Obligations.StepKeepsTheDriveBounds : Prop :=
  (∀ s t : State, DriveKept s → step s = .next t → DriveKept t) ∧
  (∀ s t : State, (s.mainPower = true → RequestsTied s) → LampsFollow s → step s = .next t →
    (t.mainPower = true → RequestsTied t) ∧ LampsFollow t)

/-- The catalogue reads back every request from the kind and payload it is sent as (11.3, R192, R195). -/
def Obligations.RequestFrameRoundTrip : Prop :=
  ∀ (i : Instr) (kind : Byte) (payload : List Byte), Frame.encodeRequest i = some (kind, payload) →
    ∃ row, Frame.rowOf kind = some row ∧ payload.length = row.length ∧ row.parse payload = some i

/-- The bytes of a request frame, received one by one from HUNT, have exactly the effect of the request (R191, R192, 11.1). -/
def Obligations.FrameBytesRunTheRequest : Prop :=
  ∀ (i : Instr) (kind : Byte) (payload : List Byte) (s : State), Frame.encodeRequest i = some (kind, payload) →
    s.accepting → s.rx = .hunt → feed (Frame.frame (kind :: payload)) s = exec i s

/-- A complete frame is rejected by CHECK, then KIND, then LENGTH, and otherwise handed to its owner (R192, R206). -/
def Obligations.CompleteFramesAreCheckedInOrder : Prop :=
  ∀ (s : State) (kind : Byte) (payload : List Byte) (check : Byte), s.accepting → payload.length ≤ 239 →
    let sum := BitVec.ofNat 8 (payload.length + 1) + Frame.sum (kind :: payload) + check
    (sum ≠ 0 → exec (.reject (kind :: payload) check) s = .next (s.answered 0xFF [1, kind])) ∧
    (sum = 0 → (∀ i p, Frame.encodeRequest i ≠ some (kind, p)) →
      exec (.reject (kind :: payload) check) s = .next (s.answered 0xFF [2, kind])) ∧
    (sum = 0 → ∀ row, Frame.rowOf kind = some row → payload.length ≠ row.length →
      exec (.reject (kind :: payload) check) s = .next (s.answered 0xFF [3, kind])) ∧
    (sum = 0 → ∀ i, Frame.encodeRequest i = some (kind, payload) → exec (.reject (kind :: payload) check) s = exec i s)

/-- Bytes, gaps and line errors move the receive state by the table of R191, and the byte in CHECK completes the frame (log 29) (R191, R192, R179). -/
def Obligations.BytesMoveTheReceiveState : Prop :=
  ∀ (s : State) (x : Byte), s.works →
    (s.rx = .hunt → exec (.byteReceived x) s = .next { s with rx := if x = 0xC3 then .length s.ms else .hunt }) ∧
    (∀ t, s.rx = .length t → s.ms ≤ t + 10 → exec (.byteReceived x) s =
      .next { s with rx := if 1 ≤ x.toNat ∧ x.toNat ≤ 240 then .body x.toNat [] s.ms else .hunt }) ∧
    (∀ n l t, s.rx = .body n l t → s.ms ≤ t + 10 → exec (.byteReceived x) s =
      .next { s with rx := if l.length + 1 < n then .body n (l ++ [x]) s.ms else .check (l ++ [x]) s.ms }) ∧
    (∀ l t, s.rx = .check l t → s.ms ≤ t + 10 → bodyLengthOk l = true →
      exec (.byteReceived x) s = exec (.reject l x) s) ∧
    (∀ t, s.rx.lastAt? = some t → t + 10 < s.ms →
      exec (.byteReceived x) s = .next { s with rx := if x = 0xC3 then .length s.ms else .hunt }) ∧
    exec .lineError s = .next { s with rx := .hunt } ∧
    (∀ t, s.rx.lastAt? = some t → t + 10 ≤ s.ms →
      exec .interByteGapTimeout s = .next { s with rx := .hunt } ∧ .interByteGapTimeout ∈ s.due) ∧
    (∀ t, s.rx.lastAt? = some t → s.ms < t + 10 → exec .interByteGapTimeout s = .next s) ∧
    (s.rx = .hunt → exec .interByteGapTimeout s = .next s)

/-- While a reply is in progress every frame is dropped, and its end leaves the part taking requests (R193). -/
def Obligations.FramesDuringAReplyAreDropped : Prop :=
  ∀ (s : State) (r : Reply), s.works → s.reply = some r →
    (∀ body check, bodyLengthOk body = true → exec (.reject body check) s = .next { s with rx := .hunt }) ∧
    exec .busyFrameDrop s = .next { s with rx := .hunt } ∧
    (∀ i k p, Frame.encodeRequest i = some (k, p) → exec i s = .next { s with rx := .hunt }) ∧
    (∀ w, r.kind ≠ 0x83 → exec (.replyComplete w) s = .next { s with reply := none })

/-- RESTART changes nothing but its reply, whose end makes a warm restart with cause RESTART (log 17) (R18, R31, R86, R100, R109, R137, R160, R162, R170, R196, R199). -/
def Obligations.RestartIsMadeAfterItsReply : Prop :=
  ∀ (s : State) (w : SenseWord),
    (s.accepting → exec .restart s = .next (s.answered 0x83 [0])) ∧
    (∀ r, s.works → s.reply = some r → r.kind = 0x83 →
      ∃ t, exec (.replyComplete w) s = .next t ∧ WarmlyRestarted .restart w s t ∧ t.ms = s.ms
        ∧ t.scanSlot = s.scanSlot ∧ t.currents = s.currents ∧ t.battery = s.battery)

/-- HELLO answers the fixed identity fields and key map (log 35), and STATUS the counts of the station in 30 bytes (R126, R166, R197, R198). -/
def Obligations.HelloAndStatusReplies : Prop :=
  (∀ s : State, s.accepting → ∃ m : Byte, m.toNat < 16 ∧ (∀ k : Fin 4, m.getLsbD k.val = (s.keys[k]).isSome) ∧
    exec .hello s = .next (s.answered 0x81
      [0, 0x4E, 0x47, 0x0D, 0x32, 1, 32, 4, 0x04, 0x00, 0x01, 0x80, 64, 0x01, 0x00, m])) ∧
  (∀ s : State, s.accepting →
    let channel := fun (x : Channel) => match x.mode with
      | .idle => [(0 : Byte), 0]
      | .driving p => [1, BitVec.ofNat 8 (p.bay.val + 1)]
      | .disabled => [2, 0]
    exec .status s = .next (s.answered 0x82 ([(0 : Byte)] ++ beFlag s.clock.isSet ++ be32 s.clock.minute ++ be8 s.band.code
      ++ be16 (s.samples.sum / s.samples.length) ++ be16 s.journal.length ++ be16 s.committedSum
      ++ be8 ((List.finRange 64).countP fun k => (s.rentals[k]).any fun r => decide (r.stage = .pending))
      ++ be8 ((List.finRange 64).countP fun k => (s.rentals[k]).any fun r => decide (r.stage = .released))
      ++ be8 ((List.finRange 64).countP fun k => (s.rentals[k]).any fun r => decide (r.stage = .opened))
      ++ be16 s.spent.length ++ be16 s.deny.length ++ be8 s.queue.length
      ++ channel s.channels[0] ++ channel s.channels[1] ++ channel s.channels[2] ++ channel s.channels[3] ++ beFlag s.changes.any)))

/-- GET_TIME, SETTINGS_GET, TARIFF_GET, PROFILE_GET and SUPPLY_GET answer the stored values in order (R113, R150, R173, R186, R190). -/
def Obligations.StoredValueQueries : Prop :=
  ∀ s : State, s.accepting →
    let tariff := fun (t : Tariff) => be16 t.unlockFee ++ be16 t.freeMinutes ++ be16 t.period ++ be16 t.periodPrice
      ++ be16 t.supplement ++ be16 t.rideCap
    let profile := fun (p : Profile) => be16 p.kickDuty ++ be8 p.kickTime ++ be16 p.holdDuty ++ be16 p.travelLimit
      ++ be16 p.stallThreshold ++ be8 p.stallTime ++ be8 p.inrushMask ++ be8 p.brakeTime
    exec .getTime s = .next (s.answered 0x91
      ([0] ++ be32 s.clock.minute ++ be8 s.clock.second ++ beFlag s.clock.isSet ++ be48 s.ms)) ∧
    exec .settingsGet s = .next (s.answered 0x93 ([0] ++ be8 s.settings.skew ++ be8 s.settings.takeWindow
      ++ be8 s.settings.tagWindow ++ be8 s.settings.deadline ++ be8 s.settings.minCharge ++ be8 s.settings.deadTime)) ∧
    (∀ n : Byte, (n = 0 ∨ 3 < n.toNat) → exec (.tariffGet n) s = .next (s.answered 0xA1 [1])) ∧
    (∀ (p : Fin 3) t, s.tariffs[p] = some t →
      exec (.tariffGet (BitVec.ofNat 8 (p.val + 1))) s =
        .next (s.answered 0xA1 ([0, BitVec.ofNat 8 (p.val + 1), 1] ++ tariff t))) ∧
    (∀ p : Fin 3, s.tariffs[p] = none →
      exec (.tariffGet (BitVec.ofNat 8 (p.val + 1))) s =
        .next (s.answered 0xA1 ([0, BitVec.ofNat 8 (p.val + 1), 0] ++ List.replicate 12 0))) ∧
    (∀ n : Byte, n ≠ 1 → n ≠ 2 → exec (.profileGet n) s = .next (s.answered 0xD1 [1])) ∧
    exec (.profileGet 1) s = .next (s.answered 0xD1 ([0, 1] ++ profile s.latchProfile)) ∧
    exec (.profileGet 2) s = .next (s.answered 0xD1 ([0, 2] ++ profile s.unlatchProfile)) ∧
    exec .supplyGet s = .next (s.answered 0xD9 ([0] ++ be16 s.thresholds.lowEnter ++ be16 s.thresholds.lowLeave
      ++ be16 s.thresholds.critEnter ++ be16 s.thresholds.critLeave ++ be16 s.thresholds.brownEnter ++ be16 s.thresholds.brownLeave
      ++ be16 (s.samples.sum / s.samples.length) ++ be8 s.samples.length ++ be16 s.battery ++ be8 s.band.code))

/-- DENY_LOOKUP answers the entry in force with its position, or NOT_FOUND with the count (R50, R51, R58). -/
def Obligations.DenyLookupReply : Prop :=
  ∀ (s : State) (rider : BitVec 32), s.accepting → ListsKept s →
    (rider = 0 → exec (.denyLookup rider) s = .next (s.answered 0xAB [1])) ∧
    (∀ (n : Nat) (e : DenyEntry), s.deny[n]? = some e → e.rider = rider.toNat →
      (s.clock.isSet = false ∨ ∀ x, e.expiry = some x → s.clock.minute < x) →
      exec (.denyLookup rider) s = .next (s.answered 0xAB
        ([0] ++ be8 e.reason ++ beOpt32 e.expiry ++ be16 n ++ be16 s.deny.length))) ∧
    (rider ≠ 0 → (∀ e ∈ s.deny, e.rider = rider.toNat →
        s.clock.isSet = true ∧ ∃ x, e.expiry = some x ∧ x ≤ s.clock.minute) →
      exec (.denyLookup rider) s = .next (s.answered 0xAB ([3] ++ be16 s.deny.length)))

/-- RENTAL_QUERY answers the records of a bike or a rider in ascending order of slot (R93, R107). -/
def Obligations.RentalQueryReply : Prop :=
  ∀ (s : State) (selector : Byte) (number : BitVec 32), s.accepting →
    let fields := fun (k : Fin 64) (r : Rental) => be8 k.val ++ be8 r.stage.code ++ be32 r.rider ++ be16 r.serial
      ++ be8 r.plan.code ++ be24 r.bike ++ be8 r.cls.code ++ be8 (r.bay.val + 1) ++ be16 r.hold
      ++ be16 r.tariff.unlockFee ++ be16 r.tariff.freeMinutes ++ be16 r.tariff.period ++ be16 r.tariff.periodPrice
      ++ be16 r.tariff.supplement ++ be16 r.tariff.rideCap
      ++ be16 (if r.stage = .opened then 0 else min 65535 ((s.ms - r.acceptedAt) / 1000))
      ++ be32 (if r.stage = .opened then r.checkout.getD 0 else 0)
    (((selector ≠ 1 ∧ selector ≠ 2) ∨ number = 0) →
      exec (.rentalQuery selector number) s = .next (s.answered 0xB9 [1])) ∧
    ((selector = 1 ∨ selector = 2) → number ≠ 0 →
      ∃ l : List (Fin 64 × Rental),
        (l.map Prod.fst).Pairwise (fun x y => x < y) ∧
        (∀ k r, (k, r) ∈ l ↔ s.rentals[k] = some r ∧ (if selector = 1 then r.bike else r.rider) = number.toNat) ∧
        exec (.rentalQuery selector number) s = .next (s.answered 0xB9
          (if l = [] then [3] else [(0 : Byte)] ++ be8 l.length ++ l.flatMap fun p => fields p.1 p.2)))

/-- BAY_QUERY answers 56 bytes with each field at the place of the table of R205 (R25, R77, R205, R206). -/
def Obligations.BayQueryReply : Prop :=
  ∀ (s : State) (n : Byte), s.accepting →
    ((n = 0 ∨ 32 < n.toNat) → exec (.bayQuery n) s = .next (s.answered 0xC0 [1])) ∧
    (∀ b : BayIx, n.toNat = b.val + 1 → ∃ p : List Byte, exec (.bayQuery n) s = .next (s.answered 0xC0 p) ∧
      p.length = 56 ∧
      let y := s.bay b
      let at' := fun k => p.getD k 0
      at' 0 = 0 ∧ at' 1 = BitVec.ofNat 8 y.state.code ∧ at' 2 = BitVec.ofNat 8 y.presence.code
        ∧ at' 3 = BitVec.ofNat 8 y.latch.code ∧ at' 4 = BitVec.ofNat 8 y.rawPresence.code
        ∧ at' 5 = BitVec.ofNat 8 y.rawLatch.code ∧ at' 6 = (if y.identity.isSome then 1 else 0)
        ∧ (∀ i, y.identity = some i → at' 10 = BitVec.ofNat 8 i.cls.code ∧ at' 11 = BitVec.ofNat 8 i.battery)
        ∧ at' 12 = (if y.arrival.isSome then 1 else 0) ∧ at' 17 = (if y.processed then 1 else 0)
        ∧ at' 18 = (if y.pendingTag.isSome then 1 else 0) ∧ at' 22 = BitVec.ofNat 8 y.link.code
        ∧ (∀ k, y.link = .rental k → at' 23 = BitVec.ofNat 8 k.val) ∧ at' 24 = BitVec.ofNat 8 y.driveStage.code
        ∧ at' 25 = BitVec.ofNat 8 y.attempts ∧ at' 26 = (if y.takeWindow.isSome then 1 else 0)
        ∧ at' 31 = (if y.tagWindow.isSome then 1 else 0) ∧ at' 36 = (if y.deadline = .stopped then 0 else 1)
        ∧ at' 41 = (if y.retryDelay.isSome then 1 else 0) ∧ at' 46 = (if y.pendingTag.isSome then 1 else 0)
        ∧ at' 51 = BitVec.ofNat 8 y.lastOutcome.code ∧ at' 52 = BitVec.ofNat 8 (faultCode y.faultCause)
        ∧ at' 53 = BitVec.ofNat 8 y.alarms.code ∧ at' 54 = (if y.held.isSome then 1 else 0)
        ∧ at' 55 = BitVec.ofNat 8 y.lamp.code
        ∧ (p.drop 7).take 3 = (match y.identity with | some i => be24 i.bike | none => [0, 0, 0])
        ∧ (y.identity = none → at' 10 = 0 ∧ at' 11 = 0)
        ∧ (p.drop 13).take 4 = be32 (y.arrival.getD 0)
        ∧ (p.drop 19).take 3 = (match y.pendingTag with | some g => be24 g.identity.bike | none => [0, 0, 0])
        ∧ ((∀ k, y.link ≠ .rental k) → at' 23 = 0)
        ∧ (p.drop 27).take 4 = (match y.takeWindow with | some e => be32 (e - s.ms) | none => [0, 0, 0, 0])
        ∧ (p.drop 32).take 4 = (match y.tagWindow with | some e => be32 (e - s.ms) | none => [0, 0, 0, 0])
        ∧ (p.drop 37).take 4 = (match y.deadline with | .running e => be32 (e - s.ms) | _ => [0, 0, 0, 0])
        ∧ (p.drop 42).take 4 = (match y.retryDelay with | some e => be32 (e - s.ms) | none => [0, 0, 0, 0])
        ∧ (p.drop 47).take 4 = (match y.pendingTag with | some g => be32 (g.expiry - s.ms) | none => [0, 0, 0, 0]))

/-- CHANGES_GET returns every entry, station first and bays ascending, and empties the set (R200, R201, R202, R204). -/
def Obligations.ChangesGetTakesEveryEntry : Prop :=
  ∀ s : State, s.accepting → ∃ l : List BayIx,
    l.Pairwise (fun x y => x < y) ∧ (∀ b, b ∈ l ↔ (s.changes.bays[b]).any = true) ∧
    let entries := (if s.changes.station.any then
        [[0, BitVec.ofNat 8 s.changes.station.code, BitVec.ofNat 8 (restartCode s.changes.station.restart),
          BitVec.ofNat 8 s.band.code]] else [])
      ++ l.map fun b => [BitVec.ofNat 8 (b.val + 1), BitVec.ofNat 8 (s.changes.bays[b]).code,
          BitVec.ofNat 8 (s.bay b).state.code, BitVec.ofNat 8 (s.bay b).lastOutcome.code]
    exec .changesGet s = .next ({ s with changes := emptyChanges }.answered 0x84
        ([0, BitVec.ofNat 8 entries.length] ++ entries.flatten)) ∧
      (State.attn { s with changes := emptyChanges }) = false

/-- SET_TIME refuses a second above 59 and otherwise sets the clock and runs both sweeps (R52, R63, R184, R185). -/
def Obligations.SetTimeSetsTheClock : Prop :=
  ∀ (s : State) (m : BitVec 32) (x : Byte), s.accepting →
    (59 < x.toNat → exec (.setTime m x) s = .next (s.answered 0x90 [1])) ∧
    (x.toNat ≤ 59 →
      let d := s.deny.filter fun e => e.expiry.all fun y => decide (m.toNat < y)
      let p := s.spent.filter fun e => decide (e.state = .held ∨ m.toNat < e.endMinute)
      exec (.setTime m x) s = .next ({ s with clock := ⟨m.toNat, x.toNat, 0, true, false⟩, deny := d, spent := p }.answered 0x90
        ([0] ++ be32 s.clock.minute ++ be8 s.clock.second ++ beFlag s.clock.isSet ++ be32 m.toNat ++ [x]
          ++ be16 (s.deny.length - d.length) ++ be16 (s.spent.length - p.length))))

/-- A due second boundary advances the clock; a minute event of a set clock raises the minute and sweeps both lists (logs 18, 24) (R52, R63, R180, R181, R182, R183, R185). -/
def Obligations.SecondsAndMinuteEvents : Prop :=
  ∀ s : State, s.mainPower = true ∨ s.backupValid = true →
    let m := min 4294967295 (s.clock.minute + 1)
    let t := { s with clock := ⟨m, 0, 0, true, false⟩ }
    (s.clock.boundary = false → exec .clockSecond s = .next s ∧ exec .minuteEvent s = .next s) ∧
    (s.clock.boundary = true →
      (s.clock.second < 59 →
        exec .clockSecond s =
          .next { s with clock := { s.clock with second := s.clock.second + 1, phase := 0, boundary := false } } ∧
        exec .minuteEvent s = .next s ∧ .clockSecond ∈ s.due) ∧
      (59 ≤ s.clock.second → s.clock.isSet = false →
        exec .clockSecond s = .next { s with clock := { s.clock with second := 0, phase := 0, boundary := false } } ∧
        exec .minuteEvent s = .next s ∧ .clockSecond ∈ s.due) ∧
      (59 ≤ s.clock.second → s.clock.isSet = true →
        exec .clockSecond s = exec .minuteEvent s ∧ .minuteEvent ∈ s.due) ∧
      (59 ≤ s.clock.second → s.clock.isSet = true → (s.mainPower = false ∨ s.resetHeld = true) → exec .minuteEvent s = .next t) ∧
      (59 ≤ s.clock.second → s.clock.isSet = true → s.works →
        exec .minuteEvent s = .next { t with
          deny := s.deny.filter fun e => e.expiry.all fun y => decide (m < y)
          spent := s.spent.filter fun e => decide (e.state = .held ∨ m < e.endMinute) }))

/-- SETTINGS_SET stores each of the six settings at the nearest value of its range (R189). -/
def Obligations.SettingsSetClamps : Prop :=
  ∀ (s : State) (a b c d e f : Byte), s.accepting →
    let v : Settings := ⟨min 30 a.toNat, min 120 (max 5 b.toNat), min 60 (max 5 c.toNat), min 30 (max 2 d.toNat),
      min 100 e.toNat, min 20 (max 1 f.toNat)⟩
    exec (.settingsSet a b c d e f) s = .next ({ s with settings := v }.answered 0x92
      ([0] ++ be8 v.skew ++ be8 v.takeWindow ++ be8 v.tagWindow ++ be8 v.deadline ++ be8 v.minCharge ++ be8 v.deadTime))

/-- KEY_LOAD and KEY_DROP change one slot and answer only the map of present slots (log 35) (R38, R39, R40). -/
def Obligations.KeyLoadAndDrop : Prop :=
  ∀ (s : State) (slot : Byte) (key : BitVec 128), s.accepting →
    (3 < slot.toNat → exec (.keyLoad slot key) s = .next (s.answered 0x98 [1]) ∧
      exec (.keyDrop slot) s = .next (s.answered 0x99 [1])) ∧
    (∀ k : Fin 4, slot.toNat = k.val →
      (∃ m : Byte, m.toNat < 16 ∧ (∀ j : Fin 4, m.getLsbD j.val = (decide (j = k) || (s.keys[j]).isSome)) ∧
        exec (.keyLoad slot key) s =
          .next ({ s with keys := s.keys.set k.val (some key) k.isLt }.answered 0x98 [0, m])) ∧
      (∃ m : Byte, m.toNat < 16 ∧ (∀ j : Fin 4, m.getLsbD j.val = (decide (j ≠ k) && (s.keys[j]).isSome)) ∧
        exec (.keyDrop slot) s = .next ({ s with keys := s.keys.set k.val none k.isLt }.answered 0x99
          [0, if (s.keys[k]).isSome then 1 else 0, m])))

/-- TARIFF_SET refuses an unknown plan and otherwise stores each field at the nearest value of its range (R110, R111). -/
def Obligations.TariffSetClamps : Prop :=
  ∀ (s : State) (n : Byte) (a b c d e f : BitVec 16), s.accepting →
    ((n = 0 ∨ 3 < n.toNat) → exec (.tariffSet n a b c d e f) s = .next (s.answered 0xA0 [1])) ∧
    (∀ p : Fin 3, n.toNat = p.val + 1 →
      let v : Tariff := ⟨min 1000 a.toNat, min 1440 b.toNat, min 240 (max 1 c.toNat), min 2000 d.toNat, min 2000 e.toNat,
        min 50000 (max 100 f.toNat)⟩
      exec (.tariffSet n a b c d e f) s = .next ({ s with tariffs := s.tariffs.set p.val (some v) p.isLt }.answered 0xA0
        ([0, n, if (s.tariffs[p]).isSome then 1 else 0] ++ be16 v.unlockFee ++ be16 v.freeMinutes
          ++ be16 v.period ++ be16 v.periodPrice ++ be16 v.supplement ++ be16 v.rideCap)))

/-- The check code is the rounds of R42 from K0 closed with K3, and changes when one bound byte changes (R41, R42, R43). -/
def Obligations.CheckCodeComputation : Prop :=
  (∀ (k0 k1 k2 k3 : BitVec 32) (t : Token),
    let word := fun i : Nat => if i % 4 = 0 then k0 else if i % 4 = 1 then k1 else if i % 4 = 2 then k2 else k3
    let round := fun (acc : BitVec 32) (p : Byte × Nat) =>
      let a := acc * 31 + BitVec.ofNat 32 p.1.toNat + word p.2
      a ^^^ BitVec.ofNat 32 (a.toNat / 8192)
    checkCode (k0 ++ k1 ++ k2 ++ k3) t = (Frame.boundBytes t).zipIdx.foldl round k0 ^^^ k3) ∧
  (∀ (key : BitVec 128) (t u : Token) (i : Nat), Frame.boundBytes t ≠ Frame.boundBytes u →
    (∀ j, j ≠ i → (Frame.boundBytes t)[j]? = (Frame.boundBytes u)[j]?) → checkCode key t ≠ checkCode key u)

/-- The charge is the unlock fee and the fewest periods that cover the chargeable minutes, held at the cap (R97, R117, R118, R119, R120). -/
def Obligations.ChargeComputation : Prop :=
  ∀ (r : Rental) (checkout minute : Nat), r.checkout = some checkout → 1 ≤ r.tariff.period →
    let c := computeCharge r minute
    let rate := r.tariff.periodPrice + if r.cls = .electric then r.tariff.supplement else 0
    ∃ n : Nat, min (minute - checkout) 20160 ≤ r.tariff.freeMinutes + n * r.tariff.period
      ∧ (∀ k, min (minute - checkout) 20160 ≤ r.tariff.freeMinutes + k * r.tariff.period → n ≤ k)
      ∧ c.duration = min (minute - checkout) 65535
      ∧ c.charge = min (r.tariff.unlockFee + n * rate) r.tariff.rideCap
      ∧ c.settled = min c.charge r.hold ∧ c.due = c.charge - c.settled

/-- Every charge lies within the captured cap, splits into settled and due, and settles no more than the hold (R121). -/
def Obligations.ChargeBounds : Prop :=
  ∀ (r : Rental) (minute : Nat), r.legal →
    let c := computeCharge r minute
    c.charge ≤ r.tariff.rideCap ∧ c.settled + c.due = c.charge ∧ c.settled ≤ r.hold
      ∧ r.hold ≤ 50000 ∧ c.charge ≤ 50000 ∧ c.settled ≤ 50000 ∧ c.due ≤ 50000

/-- DENY_ADD refuses bad values, replaces a stored entry in place, inserts in order, or answers FULL (R50, R55, R206). -/
def Obligations.DenyAddOutcomes : Prop :=
  ∀ (s : State) (rider : BitVec 32) (reason flag : Byte) (expiry : BitVec 32), s.accepting → ListsKept s →
    let e : DenyEntry := ⟨rider.toNat, reason.toNat, if flag = 0 then none else some expiry.toNat⟩
    let bad := rider = 0 ∨ reason = 0 ∨ 15 < reason.toNat
    let i : Instr := .denyAdd rider reason flag expiry
    (bad → exec i s = .next (s.answered 0xA8 [1])) ∧
    (¬ bad → (∃ x : DenyEntry, x ∈ s.deny ∧ x.rider = e.rider) →
      exec i s = .next ({ s with deny := s.deny.map fun x : DenyEntry => if x.rider = e.rider then e else x }.answered 0xA8
        ([0, 2] ++ be16 s.deny.length))) ∧
    (¬ bad → (∀ x ∈ s.deny, x.rider ≠ e.rider) → s.deny.length < 1024 →
      ∃ l : List DenyEntry, l.Pairwise (fun x y : DenyEntry => x.rider < y.rider) ∧ List.Perm l (e :: s.deny) ∧
        exec i s = .next ({ s with deny := l }.answered 0xA8 ([0, 1] ++ be16 (s.deny.length + 1)))) ∧
    (¬ bad → (∀ x ∈ s.deny, x.rider ≠ e.rider) → s.deny.length = 1024 → exec i s = .next (s.answered 0xA8 [2]))

/-- DENY_REMOVE takes one entry out of the list or answers NOT_FOUND, and DENY_CLEAR empties it (R50, R51, R56, R57). -/
def Obligations.DenyRemoveAndClear : Prop :=
  (∀ (s : State) (rider : BitVec 32), s.accepting → ListsKept s →
    (rider = 0 → exec (.denyRemove rider) s = .next (s.answered 0xA9 [1])) ∧
    (∀ (l r : List DenyEntry) (e : DenyEntry), s.deny = l ++ e :: r → e.rider = rider.toNat →
      exec (.denyRemove rider) s = .next ({ s with deny := l ++ r }.answered 0xA9 ([0] ++ be8 e.reason ++ beOpt32 e.expiry
        ++ beFlag (e.inForce s.clock) ++ be16 (l ++ r).length))) ∧
    (rider ≠ 0 → (∀ e ∈ s.deny, e.rider ≠ rider.toNat) →
      exec (.denyRemove rider) s = .next (s.answered 0xA9 ([3] ++ be16 s.deny.length)))) ∧
  (∀ s : State, s.accepting →
    exec .denyClear s = .next ({ s with deny := [] }.answered 0xAA ([0] ++ be16 s.deny.length)))

/-- PRESENT answers the earliest failing step of the table, and is accepted exactly when none fails (R18, R33, R37, R45, R64, R65, R68, R69, R70, R71, R73, R116). -/
def Obligations.PresentAnswersTheFirstFailingStep : Prop :=
  ∀ (s : State) (bay : Byte) (t : Token), s.accepting → ListsKept s →
    match (admissionFailures bay t s).head? with
    | some o => ∃ reason : Byte, (o ≠ .denied → reason = 0) ∧
        (o = .denied → ∃ e ∈ s.deny, e.rider = t.rider.toNat ∧ BitVec.ofNat 8 e.reason = reason) ∧
        exec (.present bay t) s = .next (s.answered 0xB0 [0, BitVec.ofNat 8 o.code, 0, 0, 0, reason])
    | none => ∃ (slot : Fin 64) (hold : Nat) (u : State), exec (.present bay t) s = .next u ∧
        u.reply = some ⟨0xB0, [0, 0, BitVec.ofNat 8 slot.val] ++ be16 hold ++ [0]⟩

/-- An accepted PRESENT makes the rental record, the spent entry, the deadline and the unlatch request (R60, R75, R76, R77, R91, R115, R126, R139). -/
def Obligations.PresentAcceptance : Prop :=
  ∀ (s : State) (bay : Byte) (t : Token), s.accepting → ListsKept s → admissionFailures bay t s = [] →
    ∃ (b : BayIx) (k : Fin 64) (p : Plan) (i : Identity) (f : Tariff) (u : State),
      bay.toNat = b.val + 1 ∧ planOf? t.plan = some p ∧ (s.bay b).identity = some i ∧ s.tariffs[planIndex p] = some f ∧
      s.rentals[k] = none ∧ (∀ j : Fin 64, j < k → s.rentals[j] ≠ none) ∧
      let hold := if p = .member then 0 else min t.credit.toNat f.rideCap
      let r : Rental := ⟨.pending, t.rider.toNat, t.serial.toNat, p, i.bike, i.cls, b, s.ms, none, hold, f⟩
      exec (.present bay t) s = .next u ∧
      u = { s with
        rentals := s.rentals.set k.val (some r) k.isLt
        spent := if p = .casual then s.spent ++ [⟨t.rider.toNat, t.serial.toNat,
          min 4294967295 (t.issue.toNat + t.span.toNat), .held⟩] else s.spent
        queue := s.queue ++ [⟨b, .unlatchRental, s.nextOrder⟩], nextOrder := s.nextOrder + 1
        bays := s.bays.set b.val { s.bay b with
          state := .unlatching, link := .rental k, driveStage := .queued, attempts := 0, lastOutcome := .noOutcome
          tagWindow := none, deadline := .running (s.ms + 1000 * s.settings.deadline), lamp := .slow
          lampPhase := if (s.bay b).lamp = .slow then (s.bay b).lampPhase else 0
          lampSince := if (s.bay b).lamp = .slow then (s.bay b).lampSince else s.ms } b.isLt
        changes := { s.changes with bays := s.changes.bays.set b.val { s.changes.bays[b] with state := true } b.isLt }
        rx := .hunt, reply := some ⟨0xB0, [0, 0, BitVec.ofNat 8 k.val] ++ be16 hold ++ [0]⟩ } ∧
      ((s.bay b).link = .unlinked → u.committedSum = s.committedSum + 2)

/-- BIKE_TAG is refused, raises a conflict, or stores a pending tag, an identity or a battery percent (R20, R101, R102, R103, R104). -/
def Obligations.BikeTagOutcomes : Prop :=
  ∀ (s : State) (n : Byte) (bike : BitVec 24) (cls battery : Byte), s.accepting →
    let i : Instr := .bikeTag n bike cls battery
    let pct := min battery.toNat 100
    ((n = 0 ∨ 32 < n.toNat ∨ bike = 0 ∨ (cls ≠ 1 ∧ cls ≠ 2)) → exec i s = .next (s.answered 0xB8 [1])) ∧
    (∀ (b : BayIx) (c : BikeClass), n.toNat = b.val + 1 → bike ≠ 0 → cls = BitVec.ofNat 8 c.code →
      let y := s.bay b
      let tag : Identity := ⟨bike.toNat, c, pct⟩
      let conflict : State := { s with
        bays := s.bays.set b.val { y with alarms := { y.alarms with tagConflict := true } } b.isLt
        changes := { s.changes with bays := s.changes.bays.set b.val { s.changes.bays[b] with alarm := true } b.isLt } }
      let elsewhere := ∃ o : BayIx, o ≠ b ∧ ((∃ x, (s.bay o).identity = some x ∧ x.bike = bike.toNat) ∨
        ∃ x, (s.bay o).pendingTag = some x ∧ x.identity.bike = bike.toNat)
      let refused := y.state = .service ∨ y.state = .unlatching ∨ y.state = .released ∨
        (y.state = .fault ∧ y.presence = .absent)
      (elsewhere → exec i s = .next (conflict.answered 0xB8 [5])) ∧
      (¬ elsewhere → refused → exec i s = .next (s.answered 0xB8 [4])) ∧
      (¬ elsewhere → y.state = .vacant → exec i s = .next ({ s with
        bays := s.bays.set b.val { y with pendingTag := some ⟨tag, s.ms + 5000⟩ } b.isLt }.answered 0xB8
          [0, 1, BitVec.ofNat 8 pct])) ∧
      (∀ x, ¬ elsewhere → ¬ refused → y.state ≠ .vacant → y.identity = some x → x.bike = bike.toNat →
        exec i s = .next ({ s with
          bays := s.bays.set b.val { y with identity := some { x with battery := pct } } b.isLt }.answered 0xB8
            [0, 3, BitVec.ofNat 8 pct])) ∧
      (∀ x, ¬ elsewhere → ¬ refused → y.state ≠ .vacant → y.identity = some x → x.bike ≠ bike.toNat →
        exec i s = .next (conflict.answered 0xB8 [5])) ∧
      (¬ elsewhere → y.state = .latching → y.identity = none →
        exec i s = .next ({ s with
          bays := s.bays.set b.val { y with
            identity := some tag, tagWindow := none, alarms := { y.alarms with unidentified := false } } b.isLt
          changes := if y.alarms.unidentified = true then conflict.changes else s.changes }.answered 0xB8
            [0, 2, BitVec.ofNat 8 pct])))

/-- An identity assigned in DOCKED, or in FAULT with the bike present, is processed as a local, foreign or held return, or waits (R95, R96, R97, R98, R99, R100, R103, R135). -/
def Obligations.TagAssignmentProcessesTheReturn : Prop :=
  ∀ (s : State) (n : Byte) (b : BayIx) (bike : BitVec 24) (c : BikeClass) (battery : Byte), s.accepting →
    n.toNat = b.val + 1 → bike ≠ 0 →
    ((s.bay b).state = .docked ∨ (s.bay b).state = .fault ∧ (s.bay b).presence = .present) →
    (s.bay b).identity = none → (s.bay b).processed = false →
    (∀ o : BayIx, o ≠ b → (s.bay o).names bike.toNat = false) →
    ∃ u, exec (.bikeTag n bike (BitVec.ofNat 8 c.code) battery) s = .next u ∧
      u.reply = some ⟨0xB8, [0, 2, BitVec.ofNat 8 (min battery.toNat 100)]⟩ ∧
      (∀ o, o ≠ b → u.bay o = s.bay o) ∧
      (u.bay b).identity = some ⟨bike.toNat, c, min battery.toNat 100⟩ ∧ (u.bay b).tagWindow = none ∧
      (u.bay b).alarms.unidentified = false ∧ (u.bay b).state = (s.bay b).state ∧
      u = { s with
        bays := u.bays, rentals := u.rentals, journal := u.journal, heldOrder := u.heldOrder
        highWaterArmed := u.highWaterArmed, changes := u.changes, rx := u.rx, reply := u.reply } ∧
      let minute := ((s.bay b).arrival).getD s.clock.minute
      (u.bay b).arrival = some minute ∧
      let foreign : ForeignReturn := ⟨minute, b, bike.toNat, c, min battery.toNat 100⟩
      let old := s.changes.bays[b]
      let posts := fun (returned held : Bool) => u.changes.bays = s.changes.bays.set b.val { old with
        alarm := old.alarm || (s.bay b).alarms.unidentified, returned := old.returned || returned
        held := old.held || held } b.isLt
      let rises := decide (s.journal.length = 191) && s.highWaterArmed
      let appends := fun (r : JournalRecord) => u.journal = s.journal ++ [r] ∧ u.highWaterArmed = (s.highWaterArmed && !rises) ∧
        u.changes.station = { s.changes.station with journalHigh := s.changes.station.journalHigh || rises } ∧ posts true false
      let appendsNone := u.journal = s.journal ∧ u.highWaterArmed = s.highWaterArmed ∧ u.changes.station = s.changes.station
      (∀ (k : Fin 64) r, s.rentals[k] = some r → r.bike = bike.toNat → r.stage = .opened →
        (∀ (j : Fin 64) x, s.rentals[j] = some x → x.bike = bike.toNat → j = k) →
        let x := computeCharge r minute
        appends (.returned ⟨minute, b, r.bay, r.bike, r.cls, r.rider, r.plan, r.checkout.getD 0,
          x.duration, x.charge, x.settled, x.due⟩) ∧ u.rentals = s.rentals.set k.val none k.isLt ∧
        (u.bay b).processed = true ∧ u.heldOrder = s.heldOrder) ∧
      ((∀ (j : Fin 64) x, s.rentals[j] = some x → x.bike = bike.toNat → x.stage ≠ .opened) →
        u.rentals = s.rentals ∧
        ((s.bay b).held = none → s.committedSum + 1 ≤ 256 → (u.bay b).processed = true ∧
          appends (.foreignReturn foreign) ∧ u.heldOrder = s.heldOrder ∧ (u.bay b).held = none) ∧
        ((s.bay b).held = none → 256 < s.committedSum + 1 → (u.bay b).processed = true ∧ appendsNone ∧ posts false true ∧
          u.heldOrder = s.heldOrder ++ [b] ∧ (u.bay b).held = some foreign) ∧
        ((s.bay b).held ≠ none → (u.bay b).processed = false ∧ appendsNone ∧ posts false false ∧
          u.heldOrder = s.heldOrder ∧ (u.bay b).held = (s.bay b).held))

/-- RENTAL_CLOSE frees the slot of an OPEN record and flushes held returns, and refuses bike 0, a record not OPEN, or no record (R105, R130). -/
def Obligations.RentalCloseOutcomes : Prop :=
  ∀ (s : State) (bike : BitVec 24), s.accepting →
    (bike = 0 → exec (.rentalClose bike) s = .next (s.answered 0xBA [1])) ∧
    (bike ≠ 0 → (∀ (k : Fin 64) r, s.rentals[k] = some r → r.bike ≠ bike.toNat) →
      exec (.rentalClose bike) s = .next (s.answered 0xBA [3])) ∧
    (bike ≠ 0 → (∃ (k : Fin 64) (r : Rental), s.rentals[k] = some r ∧ r.bike = bike.toNat) →
      (∀ (k : Fin 64) r, s.rentals[k] = some r → r.bike = bike.toNat → r.stage ≠ .opened) →
      exec (.rentalClose bike) s = .next (s.answered 0xBA [4])) ∧
    (∀ (k : Fin 64) (r : Rental), bike ≠ 0 → s.rentals[k] = some r → r.bike = bike.toNat → r.stage = .opened →
      (∀ (j : Fin 64) x, s.rentals[j] = some x → x.bike = bike.toNat → j = k) →
      let reply := [0, BitVec.ofNat 8 k.val] ++ be32 r.rider ++ be8 r.plan.code ++ be32 (r.checkout.getD 0)
      (s.heldOrder = [] → exec (.rentalClose bike) s =
        .next ({ s with rentals := s.rentals.set k.val none k.isLt }.answered 0xBA reply)) ∧
      exec (.rentalClose bike) s = .next ((flush { s with rentals := s.rentals.set k.val none k.isLt }).answered 0xBA reply) ∧
      ∃ u, exec (.rentalClose bike) s = .next u ∧ u.reply = some ⟨0xBA, reply⟩ ∧ u.rentals[k] = none ∧
        s.journal <+: u.journal)

/-- BAY_SERVICE takes a bay into and out of service, and BAY_CLEAR removes alarms and ends a fault, with the whole re-derivation of the bay (R4, R17, R18, R19, R26, R27, R28, R95, R96, R98, R99, R139). -/
def Obligations.BayServiceAndClear : Prop :=
  ∀ (s : State) (n : Byte), s.accepting →
    ((n = 0 ∨ 32 < n.toNat) → ∀ flag, exec (.bayService n flag) s = .next (s.answered 0xC1 [1]) ∧
      exec (.bayClear n) s = .next (s.answered 0xC2 [1])) ∧
    (∀ b : BayIx, n.toNat = b.val + 1 →
      let y := s.bay b
      let state := restState y.presence y.latch
      (∀ flag : Byte, flag ≠ 0 → (y.state = .vacant ∨ y.state = .docked ∨ y.state = .fault) →
        ∃ u, exec (.bayService n flag) s = .next u ∧ u = { s with
          bays := s.bays.set b.val { y with
            state := .service, pendingTag := none, takeWindow := none, tagWindow := none, deadline := .stopped
            retryDelay := none, faultCause := none, lamp := .double
            lampPhase := if y.lamp = .double then y.lampPhase else 0
            lampSince := if y.lamp = .double then y.lampSince else s.ms } b.isLt
          changes := { s.changes with bays := s.changes.bays.set b.val { s.changes.bays[b] with state := true } b.isLt }
          rx := .hunt, reply := some ⟨0xC1, [0, 7]⟩ }) ∧
      (∀ flag : Byte, flag ≠ 0 → ¬ (y.state = .vacant ∨ y.state = .docked ∨ y.state = .fault) →
        exec (.bayService n flag) s = .next (s.answered 0xC1 [4])) ∧
      (y.state ≠ .service → exec (.bayService n 0) s = .next (s.answered 0xC1 [4])) ∧
      (y.state = .service → ∃ u v, exec (.bayService n 0) s = .next u ∧ Rederived b y { s with rx := .hunt } v ∧
        u = { v with reply := some ⟨0xC1, [0, BitVec.ofNat 8 state.code]⟩ } ∧ (u.bay b).state = state ∧
        u.reply = some ⟨0xC1, [0, BitVec.ofNat 8 state.code]⟩ ∧ (∀ o, o ≠ b → u.bay o = s.bay o) ∧
        (u.bay b).alarms = y.alarms ∧ (u.bay b).lastOutcome = y.lastOutcome ∧ (u.bay b).faultCause = none ∧
        (u.bay b).identity = (if y.presence = .present then y.identity else none)) ∧
      (y.state ≠ .fault → exec (.bayClear n) s = .next ({ s with
        bays := s.bays.set b.val { y with alarms := ⟨false, false, false, false⟩ } b.isLt }.answered 0xC2
          [0, BitVec.ofNat 8 y.state.code, BitVec.ofNat 8 y.alarms.code])) ∧
      (y.state = .fault → ∃ u v, exec (.bayClear n) s = .next u ∧
        Rederived b { y with alarms := ⟨false, false, false, false⟩ } { s with rx := .hunt } v ∧
        u = { v with reply := some ⟨0xC2, [0, BitVec.ofNat 8 state.code, BitVec.ofNat 8 y.alarms.code]⟩ } ∧
        (u.bay b).state = state ∧
        u.reply = some ⟨0xC2, [0, BitVec.ofNat 8 state.code, BitVec.ofNat 8 y.alarms.code]⟩ ∧
        (∀ o, o ≠ b → u.bay o = s.bay o) ∧ (u.bay b).alarms = ⟨false, false, false, false⟩ ∧
        (u.bay b).faultCause = none))

/-- STAFF_UNLATCH needs a bay number, a DOCKED bay and a journal slot, and then releases the bike (R29, R77, R127, R139). -/
def Obligations.StaffUnlatchOutcomes : Prop :=
  ∀ (s : State) (n : Byte), s.accepting →
    ((n = 0 ∨ 32 < n.toNat) → exec (.staffUnlatch n) s = .next (s.answered 0xC3 [1])) ∧
    (∀ b : BayIx, n.toNat = b.val + 1 →
      ((s.bay b).state ≠ .docked → exec (.staffUnlatch n) s = .next (s.answered 0xC3 [4])) ∧
      ((s.bay b).state = .docked → 248 ≤ s.committedSum → exec (.staffUnlatch n) s = .next (s.answered 0xC3 [2])) ∧
      ((s.bay b).state = .docked → s.committedSum < 248 → ∃ u, exec (.staffUnlatch n) s = .next u ∧
        u = { s with
          queue := s.queue ++ [⟨b, .unlatchStaff, s.nextOrder⟩], nextOrder := s.nextOrder + 1
          bays := s.bays.set b.val { s.bay b with
            state := .unlatching, link := .staff, driveStage := .queued, attempts := 0, lastOutcome := .noOutcome
            tagWindow := none, deadline := .running (s.ms + 1000 * s.settings.deadline), lamp := .slow
            lampPhase := if (s.bay b).lamp = .slow then (s.bay b).lampPhase else 0
            lampSince := if (s.bay b).lamp = .slow then (s.bay b).lampSince else s.ms } b.isLt
          changes := { s.changes with bays := s.changes.bays.set b.val { s.changes.bays[b] with state := true } b.isLt }
          rx := .hunt, reply := some ⟨0xC3, [0]⟩ }))

/-- JOURNAL_READ returns the records from the cursor on and moves the cursor past them (R132, R203). -/
def Obligations.JournalReadReply : Prop :=
  ∀ (s : State) (flag count : Byte), s.accepting → s.cursor ≤ s.journal.length →
    let layout := fun (r : JournalRecord) => match r with
      | .checkout r => be8 1 ++ be32 r.minute ++ be8 (r.bay.val + 1) ++ be24 r.bike ++ be8 r.cls.code ++ be32 r.rider
        ++ be16 r.serial ++ be8 r.plan.code ++ be16 r.hold ++ List.replicate 9 0
      | .returned r => be8 2 ++ be32 r.minute ++ be8 (r.bay.val + 1) ++ be8 (r.fromBay.val + 1) ++ be24 r.bike
        ++ be8 r.cls.code ++ be32 r.rider ++ be8 r.plan.code ++ be32 r.checkout ++ be16 r.duration ++ be16 r.charge
        ++ be16 r.settled ++ be16 r.due
      | .foreignReturn r => be8 3 ++ be32 r.minute ++ be8 (r.bay.val + 1) ++ be24 r.bike ++ be8 r.cls.code ++ be8 r.battery
        ++ List.replicate 17 0
      | .staffRemoval r => be8 4 ++ be32 r.minute ++ be8 (r.bay.val + 1) ++ be24 r.bike
        ++ be8 (match r.cls with | some c => c.code | none => 0) ++ List.replicate 18 0
    ((1 < flag.toNat ∨ count = 0 ∨ 4 < count.toNat) →
      exec (.journalRead flag count) s = .next (s.answered 0xC8 [1])) ∧
    (flag.toNat ≤ 1 → 1 ≤ count.toNat → count.toNat ≤ 4 →
      let first := if flag = 1 then 0 else s.cursor
      let n := min count.toNat (s.journal.length - first)
      ∃ p : List Byte, p.length = 28 * n ∧
        (∀ k, k < n → ∃ r, s.journal[first + k]? = some r ∧ (p.drop (28 * k)).take 28 = layout r) ∧
        exec (.journalRead flag count) s = .next ({ s with cursor := first + n }.answered 0xC8
          ([0] ++ be16 first ++ be8 n ++ be16 (first + n) ++ be16 s.journal.length ++ p)))

/-- JOURNAL_RELEASE drops the oldest records up to the cursor and flushes held returns, and drops none that was not read (R130, R133, R135). -/
def Obligations.JournalReleaseDropsReadRecords : Prop :=
  ∀ (s : State) (n : BitVec 16), s.accepting → s.cursor ≤ s.journal.length →
    let rest := s.journal.drop n.toNat
    (s.cursor < n.toNat → exec (.journalRelease n) s = .next (s.answered 0xC9 [1])) ∧
    (n = 0 → exec (.journalRelease n) s = .next (s.answered 0xC9
      ([0] ++ be16 0 ++ be16 s.journal.length ++ be16 s.cursor ++ be16 s.committedSum))) ∧
    (n ≠ 0 → n.toNat ≤ s.cursor → s.heldOrder = [] →
      exec (.journalRelease n) s = .next ({ s with
          journal := rest, cursor := s.cursor - n.toNat
          highWaterArmed := s.highWaterArmed || decide (rest.length ≤ 128) }.answered 0xC9
        ([0] ++ be16 n.toNat ++ be16 rest.length ++ be16 (s.cursor - n.toNat)
          ++ be16 (s.committedSum - n.toNat)))) ∧
    (n ≠ 0 → n.toNat ≤ s.cursor →
      let v := flush { s with
        journal := rest, cursor := s.cursor - n.toNat
        highWaterArmed := s.highWaterArmed || decide (rest.length ≤ 128) }
      exec (.journalRelease n) s = .next (v.answered 0xC9
        ([0] ++ be16 n.toNat ++ be16 v.journal.length ++ be16 v.cursor ++ be16 v.committedSum))) ∧
    (n ≠ 0 → n.toNat ≤ s.cursor → ∃ u, exec (.journalRelease n) s = .next u ∧ rest <+: u.journal ∧
      u.cursor = s.cursor - n.toNat)

/-- The flush writes held returns in order while the journal has room, posts JOURNAL_HIGH at 192, and then processes waiting returns (R98, R99, R100, R129, R130, R131, R135). -/
def Obligations.FlushWritesHeldReturnsInOrder : Prop :=
  (∀ s : State, JournalKept s → (∀ b : BayIx, (s.bay b).held.isSome → (s.bay b).returnDue = false) →
    let n := min s.heldOrder.length (256 - s.committedSum)
    (flush s).heldOrder = s.heldOrder.drop n ∧
    (flush s).journal = s.journal ++ (s.heldOrder.take n).filterMap (fun b => (s.bay b).held.map JournalRecord.foreignReturn) ∧
    (∀ b, b ∈ s.heldOrder.take n → ((flush s).bay b).held = none ∧ (((flush s).changes.bays)[b]).returned = true) ∧
    (∀ b, b ∉ s.heldOrder.take n → (flush s).bay b = s.bay b) ∧
    (flush s).rentals = s.rentals ∧ (flush s).cursor = s.cursor ∧
    (let rises := s.journal.length < 192 ∧ 192 ≤ s.journal.length + n ∧ s.highWaterArmed = true;
      (rises → (flush s).changes.station.journalHigh = true ∧ (flush s).highWaterArmed = false) ∧
      (¬ rises → (flush s).changes.station = s.changes.station ∧ (flush s).highWaterArmed = s.highWaterArmed))) ∧
  (∀ (s : State) (b : BayIx) (h : ForeignReturn) (i : Identity), JournalKept s → s.heldOrder = [b] →
    (s.bay b).held = some h → (s.bay b).returnDue = true → (s.bay b).identity = some i →
    (∀ (k : Fin 64) r, s.rentals[k] = some r → r.bike = i.bike → r.stage ≠ .opened) →
    let r : ForeignReturn := ⟨(s.bay b).arrival.getD s.clock.minute, b, i.bike, i.cls, i.battery⟩
    let z := (flush s).bay b
    (s.committedSum + 2 ≤ 256 → (flush s).journal = s.journal ++ [.foreignReturn h, .foreignReturn r] ∧
      (flush s).heldOrder = [] ∧ z.held = none ∧ z.processed = true) ∧
    (s.committedSum = 255 → (flush s).journal = s.journal ++ [.foreignReturn h] ∧ (flush s).heldOrder = [b] ∧
      z.held = some r ∧ z.processed = true ∧ (((flush s).changes.bays)[b]).held = true) ∧
    (256 ≤ s.committedSum → flush s = s)) ∧
  (∀ (s : State) (a b : BayIx) (g h : ForeignReturn) (i j : Identity), JournalKept s → s.heldOrder = [a, b] →
    (s.bay a).held = some g → (s.bay a).returnDue = true → (s.bay a).identity = some i →
    (s.bay b).held = some h → (s.bay b).returnDue = true → (s.bay b).identity = some j →
    (∀ (k : Fin 64) r, s.rentals[k] = some r → r.bike = i.bike ∨ r.bike = j.bike → r.stage ≠ .opened) →
    s.committedSum + 4 ≤ 256 →
    (flush s).journal = s.journal ++ [.foreignReturn g, .foreignReturn h,
      .foreignReturn ⟨(s.bay a).arrival.getD s.clock.minute, a, i.bike, i.cls, i.battery⟩,
      .foreignReturn ⟨(s.bay b).arrival.getD s.clock.minute, b, j.bike, j.cls, j.battery⟩])

/-- PROFILE_SET refuses an unknown profile and otherwise stores each field at the nearest value of its range (R147, R148, R149). -/
def Obligations.ProfileSetClamps : Prop :=
  ∀ (s : State) (n : Byte) (kd : BitVec 16) (kt : Byte) (hd tl st : BitVec 16) (stt im bt : Byte), s.accepting →
    let kick := min 200 kt.toNat
    let v : Profile := ⟨min 1000 (max 100 kd.toNat), kick, min 1000 (max 100 hd.toNat),
      max (min 2000 (max 100 tl.toNat)) (kick + 20), min 4000 (max 200 st.toNat), min 200 (max 4 stt.toNat),
      min 100 im.toNat, min 100 bt.toNat⟩
    let fields := be16 v.kickDuty ++ be8 v.kickTime ++ be16 v.holdDuty ++ be16 v.travelLimit ++ be16 v.stallThreshold
      ++ be8 v.stallTime ++ be8 v.inrushMask ++ be8 v.brakeTime
    (n ≠ 1 → n ≠ 2 → exec (.profileSet n kd kt hd tl st stt im bt) s = .next (s.answered 0xD0 [1])) ∧
    exec (.profileSet 1 kd kt hd tl st stt im bt) s =
      .next ({ s with latchProfile := v }.answered 0xD0 ([0, 1] ++ fields)) ∧
    exec (.profileSet 2 kd kt hd tl st stt im bt) s =
      .next ({ s with unlatchProfile := v }.answered 0xD0 ([0, 2] ++ fields))

/-- CHANNEL_ENABLE returns a DISABLED channel to IDLE and lets the arbiter grant, and changes no other channel by itself (log 11) (R140, R155, R156). -/
def Obligations.ChannelEnableOutcomes : Prop :=
  ∀ (s : State) (n : Byte), s.accepting →
    ((n = 0 ∨ 4 < n.toNat) → exec (.channelEnable n) s = .next (s.answered 0xD2 [1])) ∧
    (∀ c : Fin 4, n.toNat = c.val + 1 →
      let x := s.channels[c]
      let enabled := { s with channels := s.channels.set c.val { x with mode := .idle, short := 0 } c.isLt }
      (x.mode ≠ .disabled →
        exec (.channelEnable n) s = .next (s.answered 0xD2 [0, 0, BitVec.ofNat 8 x.mode.code])) ∧
      (x.mode = .disabled → s.queue = [] → exec (.channelEnable n) s = .next (enabled.answered 0xD2 [0, 1, 0])) ∧
      (x.mode = .disabled → ∃ t, exec .grant enabled = .next t ∧
        exec (.channelEnable n) s = .next (t.answered 0xD2 [0, 1, BitVec.ofNat 8 (t.channels[c]).mode.code])))

/-- GRANT turns requests into pulses on idle channels up to the allowance of the band, and stops only when no grant is possible (log 31) (R138, R140, R142). -/
def Obligations.GrantKeepsTheAllowance : Prop :=
  ∀ s : State, s.works → ∃ t, exec .grant s = .next t ∧
    t = { s with queue := t.queue, channels := t.channels, bays := t.bays } ∧
    t.drivingCount ≤ max s.drivingCount s.band.allowance ∧ t.queue.Sublist s.queue ∧
    t.queue.length + t.drivingCount = s.queue.length + s.drivingCount ∧
    (∀ q ∈ s.queue, q ∈ t.queue ∨ ∃ (c : Fin 4) (p : Pulse), (s.channels[c]).mode = .idle ∧ t.pulse? c = some p ∧
      p.bay = q.bay ∧ p.kind = q.kind ∧ p.phase = .connect) ∧
    (∀ c : Fin 4, t.channels[c] = s.channels[c] ∨ ((s.channels[c]).mode = .idle ∧ ∃ p : Pulse, t.pulse? c = some p ∧
      p.phase = .connect ∧ (t.bay p.bay).driveStage = .driving ∧ ∃ q ∈ s.queue, q.bay = p.bay ∧ q.kind = p.kind)) ∧
    (∀ b, t.bay b = s.bay b ∨ (t.bay b = { s.bay b with driveStage := .driving } ∧
      ∃ (c : Fin 4) (p : Pulse), (s.channels[c]).mode = .idle ∧ t.pulse? c = some p ∧ p.bay = b)) ∧
    (s.band.allowance ≤ t.drivingCount ∨ (∀ c : Fin 4, (t.channels[c]).mode ≠ .idle) ∨
      ∀ q ∈ t.queue, s.band.admits q.kind = false ∨ t.bayHeld q.bay = true)

/-- The request a grant takes is of the first class waiting, earliest posted, on the lowest IDLE channel (R140, R141, R144, R148). -/
def Obligations.GrantChoosesByClassThenOrder : Prop :=
  ∀ s : State, s.works → DriveKept s → s.drivingCount < s.band.allowance →
    ∀ c : Fin 4, (s.channels[c]).mode = .idle → (∀ d : Fin 4, d < c → (s.channels[d]).mode ≠ .idle) →
    (∃ q ∈ s.queue, s.band.admits q.kind = true ∧ s.bayHeld q.bay = false) →
    ∃ t q, exec .grant s = .next t ∧ q ∈ s.queue ∧ s.band.admits q.kind = true ∧ s.bayHeld q.bay = false ∧
      (∀ x ∈ s.queue, s.band.admits x.kind = true → s.bayHeld x.bay = false →
        q.kind.rank < x.kind.rank ∨ (q.kind.rank = x.kind.rank ∧ q.order ≤ x.order)) ∧
      t.channels[c] = ⟨.driving ⟨q.bay, q.kind, .connect,
          if q.kind = .latch then s.latchProfile else s.unlatchProfile, s.settings.deadTime, s.ms, s.ms, none, false, false⟩, 0, 0⟩ ∧
      (t.bay q.bay).driveStage = .driving

/-- The phases of a pulse follow in order, each with its gates, and a refresh joins the channel to its bay after CONNECT (logs 21, 38) (R24, R143, R144, R145, R146, R152, R154, R178, R179). -/
def Obligations.PulsePhasesFollowInOrder : Prop :=
  ∀ (s : State) (c : Fin 4) (p : Pulse), s.works → s.pulse? c = some p →
    let put := fun (q : Pulse) => { s with channels := s.channels.set c.val { s.channels[c] with mode := .driving q } c.isLt }
    (p.phase = .connect → s.refreshDue = false → p.refreshed = true → .connectEnd c ∈ s.due ∧
      exec (.connectEnd c) s = .next (put { p with phase := .deadtime1, refreshed := false })) ∧
    (p.phase = .connect → s.refreshDue = true → .connectEnd c ∈ s.due ∧
      exec (.connectEnd c) s = exec (.connectEnd c) s.afterRefresh) ∧
    (p.phase = .connect → s.refreshDue = false → p.refreshed = false → exec (.connectEnd c) s = .next s) ∧
    (p.phase = .deadtime1 → exec (.deadtimeEnd c) s = .next (put { p with
      kickStart := s.ms
      phase := if p.kind = .latch ∧ (s.bay p.bay).latch = .closed then .deadtime2
        else if p.profile.kickTime = 0 then .hold else .kick })) ∧
    (p.phase = .kick → p.kickStart + p.profile.kickTime ≤ s.ms →
      exec (.kickEnd c) s = .next (put { p with phase := .hold }) ∧ .kickEnd c ∈ s.due) ∧
    (p.phase = .kick → s.ms < p.kickStart + p.profile.kickTime → exec (.kickEnd c) s = .next s) ∧
    (p.phase = .deadtime2 → p.shorted = true → exec (.deadtimeEnd c) s = .next (put { p with phase := .coast })) ∧
    (p.phase = .deadtime2 → p.shorted = false → 0 < p.profile.brakeTime →
      exec (.deadtimeEnd c) s = .next (put { p with phase := .brake, brakeStart := s.ms })) ∧
    (p.phase = .deadtime2 → p.shorted = false → p.profile.brakeTime = 0 →
      exec (.deadtimeEnd c) s = exec (.brakeEnd c) (put { p with phase := .brake, brakeStart := s.ms })) ∧
    (let driven := fun (duty : Nat) => if p.kind = .latch then (⟨.off, .on, .pwm duty, .off⟩ : Gates)
        else ⟨.pwm duty, .off, .off, .on⟩;
      s.gates c = if p.phase = .kick then driven p.profile.kickDuty else if p.phase = .hold then driven p.profile.holdDuty
        else if p.phase = .brake then ⟨.off, .on, .off, .on⟩ else ⟨.off, .off, .off, .off⟩) ∧
    (p.phase = .connect → s.refreshDue = true → (∀ (d : Fin 4) q, s.pulse? d = some q → q.bay = p.bay → d = c) →
      ∃ t, exec (.connectEnd c) s = .next t ∧ t.chain[p.bay] = ⟨some c, (s.bay p.bay).lampValue⟩ ∧
        ∀ b, (∀ (d : Fin 4) q, s.pulse? d = some q → q.bay = b → q.phase = .coast) →
          t.chain[b] = ⟨none, (s.bay b).lampValue⟩) ∧
    (∀ b : BayIx, let x : Option (Fin 4) := (s.chain[b]).channel
      s.selectBits b = [decide (x = some 3), decide (x = some 1 ∨ x = some 2), decide (x = some 0 ∨ x = some 2), (s.chain[b]).lamp])

/-- A stall, the travel limit or a LATCH closing ends the drive; a completed short stops the pulse instead and posts CHANNEL (R151, R152, R153, R154, R179). -/
def Obligations.DrivesEndOnStallLimitOrShort : Prop :=
  ∀ (s : State) (c : Fin 4) (p : Pulse), s.works → s.pulse? c = some p →
    let x := s.channels[c]
    let drives := p.phase = .kick ∨ p.phase = .hold
    let ended := { s with channels := s.channels.set c.val { x with mode := .driving { p with phase := .deadtime2 } } c.isLt }
    let shorted := { s with
      channels := s.channels.set c.val { x with
        mode := .driving { p with phase := .deadtime2, result := some .jam, shorted := true } } c.isLt
      changes := { s.changes with station := { s.changes.station with channel := true } } }
    let limit := p.kickStart + p.profile.travelLimit
    (drives → x.short ≠ 2 → p.profile.stallTime ≤ x.stall → exec (.stall c) s = .next ended) ∧
    (drives → x.short = 2 → p.profile.stallTime ≤ x.stall → exec (.stall c) s = .next shorted) ∧
    (drives → x.stall < p.profile.stallTime → exec (.stall c) s = .next s) ∧
    (drives → x.short ≠ 2 → limit ≤ s.ms → exec (.travelLimit c) s = .next ended) ∧
    (drives → x.short = 2 → limit ≤ s.ms → exec (.travelLimit c) s = .next shorted) ∧
    (drives → s.ms < limit → exec (.travelLimit c) s = .next s) ∧
    (drives → x.short = 2 → exec (.short c) s = .next shorted) ∧
    (drives → x.short ≠ 2 → exec (.short c) s = .next s) ∧
    (drives → limit ≤ s.ms → .travelLimit c ∈ s.due) ∧
    (¬ drives → exec (.stall c) s = .next s ∧ exec (.travelLimit c) s = .next s ∧ exec (.short c) s = .next s) ∧
    (let y := s.bay p.bay;
      drives → p.kind = .latch → x.short ≠ 2 → y.state = .latching → y.driveStage = .driving → y.latch = .opened →
      y.latchDue = true → y.presenceDue = false → (∀ (d : Fin 4) q, s.pulse? d = some q → q.bay = p.bay → d = c) →
      exec (.senseEvent p.bay) s = .next { ended with
        bays := s.bays.set p.bay.val { y with latch := .closed, latchAgree := 0, latchDue := false } p.bay.isLt })

/-- A current conversion in its slot is kept as the latest value and counted once by its own channel in KICK or HOLD (logs 3, 7, 9, 12, 24) (R151, R154, R162, R163, R164, R207). -/
def Obligations.CurrentConversionCounts : Prop :=
  ∀ (s : State) (c : Fin 4) (count : BitVec 10), s.mainPower = true →
    let mA := 4 * count.toNat
    let x := s.channels[c]
    let t := { s with currents := s.currents.set c.val mA c.isLt, scanSlot := c.succ }
    (s.scanSlot ≠ c.castSucc → exec (.currentConversion c count) s = .next s) ∧
    (s.scanSlot = c.castSucc →
      (∀ p, s.resetHeld = false → s.pulse? c = some p → (p.phase = .kick ∨ p.phase = .hold) → x.short < 2 →
        x.stall < p.profile.stallTime →
        let counting := p.profile.inrushMask = 0 ∨ p.kickStart + p.profile.inrushMask < s.ms
        exec (.currentConversion c count) s = .next { t with
          channels := s.channels.set c.val { x with
            short := if 4000 ≤ mA then x.short + 1 else 0
            stall := if counting then (if p.profile.stallThreshold ≤ mA then x.stall + 1 else 0) else x.stall } c.isLt }) ∧
      (∀ p, s.pulse? c = some p → (x.short = 2 ∨ p.profile.stallTime ≤ x.stall) →
        exec (.currentConversion c count) s = .next t) ∧
      ((∀ p, s.pulse? c = some p → p.phase ≠ .kick ∧ p.phase ≠ .hold) →
        exec (.currentConversion c count) s = .next t) ∧
      (s.resetHeld = true → exec (.currentConversion c count) s = .next t))

/-- The end of BRAKE fixes the result from the latch, and the bay docks, releases, retries, faults or is re-derived by it (log 20) (R4, 1.4, R17, 1.6, 5.3, R79, R80, R84, R87, R146, 8.5, R179). -/
def Obligations.BrakeEndReportsTheResult : Prop :=
  ∀ (s : State) (c : Fin 4) (p : Pulse), s.works → s.pulse? c = some p → p.phase = .brake →
    let y := s.bay p.bay
    let b := p.bay
    let coast := fun r => s.channels.set c.val { s.channels[c] with
      mode := .driving { p with phase := .coast, result := some r } } c.isLt
    let left := fun r => { s with channels := coast r }
    let posts := fun (z : BayCauses) => { s.changes with bays := s.changes.bays.set b.val z b.isLt }
    let released := { y with
      state := .released, driveStage := .noRequest, deadline := .stopped, retryDelay := none
      takeWindow := some (s.ms + 1000 * s.settings.takeWindow), lamp := .steady
      lampPhase := if y.lamp = .steady then y.lampPhase else 0
      lampSince := if y.lamp = .steady then y.lampSince else s.ms }
    (s.ms < p.brakeStart + p.profile.brakeTime → exec (.brakeEnd c) s = .next s) ∧
    (p.brakeStart + p.profile.brakeTime ≤ s.ms → y.driveStage = .driving → y.presenceChanged = false →
      (p.kind = .latch → y.latch = .closed → y.state = .latching →
        ∃ t, exec (.brakeEnd c) s = .next t ∧
          EntrySettled b ((left .done).entered b .docked .off { y with driveStage := .noRequest }) t ∧
          (t.bay b).state = .docked ∧ (t.bay b).driveStage = .noRequest ∧
          t.channels = coast .done ∧ t.queue = s.queue ∧ t.ms = s.ms ∧ (∀ o, o ≠ b → t.bay o = s.bay o)) ∧
      ((if p.kind = .latch then y.latch = .opened
          else y.latch = .closed ∧ (p.kind = .unlatchReady ∨ y.deadline ≠ .passed)) → y.attempts < 2 →
        exec (.brakeEnd c) s = .next { s with
          channels := coast .jam
          bays := s.bays.set b.val { y with
            attempts := y.attempts + 1, driveStage := .retryWait, retryDelay := some (s.ms + 2000) } b.isLt }) ∧
      (p.kind = .unlatchStaff → y.latch = .opened → y.state = .unlatching → y.link = .staff →
        exec (.brakeEnd c) s = .next { s with
          channels := coast .done, bays := s.bays.set b.val released b.isLt
          changes := posts { s.changes.bays[b] with state := true } }) ∧
      (∀ (k : Fin 64) (r : Rental), p.kind = .unlatchRental → y.latch = .opened → y.state = .unlatching →
        y.link = .rental k → s.rentals[k] = some r → r.stage = .pending →
        exec (.brakeEnd c) s = .next { s with
          rentals := s.rentals.set k.val (some { r with stage := .released }) k.isLt
          channels := coast .done, bays := s.bays.set b.val released b.isLt
          changes := posts { s.changes.bays[b] with state := true } }) ∧
      (p.kind = .unlatchReady → y.latch = .opened → y.presence = .absent → y.state = .unlatching →
        ∃ t, exec (.brakeEnd c) s = .next t ∧ (t.bay b).state = .vacant ∧ (t.bay b).link = .unlinked ∧
          (t.bay b).driveStage = .noRequest ∧ (t.bay b).attempts = 0 ∧ (t.bay b).identity = none ∧
          t.channels = coast .done ∧ t.queue = s.queue ∧ t.rentals = s.rentals ∧ t.journal = s.journal ∧
          (∀ o, o ≠ b → t.bay o = s.bay o)) ∧
      (∀ (k : Fin 64) (r : Rental), p.kind = .unlatchRental → y.latch = .closed → y.deadline = .passed →
        y.presence = .present → y.processed = true → y.link = .rental k → s.rentals[k] = some r → r.stage ≠ .opened →
        s.heldOrder = [] →
        ∃ t, exec (.brakeEnd c) s = .next t ∧ t.rentals = s.rentals.set k.val none k.isLt ∧ (t.bay b).state = .docked ∧
          (t.bay b).lastOutcome = .jammed ∧ (t.bay b).link = .unlinked ∧ (t.bay b).driveStage = .noRequest ∧
          (t.bay b).deadline = .stopped ∧ (t.bay b).attempts = 0 ∧ t.channels = coast .jam ∧ t.queue = s.queue ∧
          ((t.changes.bays)[b]).outcome = true ∧ (∀ o, o ≠ b → t.bay o = s.bay o)) ∧
      (∀ (k : Fin 64) (r : Rental), p.kind = .unlatchRental → y.latch = .closed → y.deadline ≠ .passed →
        y.attempts = 2 → y.state = .unlatching → y.processed = true → y.link = .rental k → s.rentals[k] = some r →
        r.stage ≠ .opened → s.heldOrder = [] →
        ∃ t, exec (.brakeEnd c) s = .next t ∧ t.rentals = s.rentals.set k.val none k.isLt ∧ (t.bay b).state = .fault ∧
          (t.bay b).faultCause = some .unlatchJam ∧ (t.bay b).lastOutcome = .jammed ∧ (t.bay b).link = .unlinked ∧
          (t.bay b).driveStage = .noRequest ∧ (t.bay b).attempts = 0 ∧ (t.bay b).deadline = .stopped ∧
          t.channels = coast .jam ∧ ((t.changes.bays)[b]).outcome = true ∧ ((t.changes.bays)[b]).state = true ∧
          (∀ o, o ≠ b → t.bay o = s.bay o)) ∧
      ((p.kind = .unlatchRental ∨ p.kind = .unlatchStaff) → y.latch = .closed → y.state = .unlatching → s.hasRelease b →
        y.presence = .present → (y.processed = true ∨ y.identity = none) → (y.deadline = .passed ∨ 2 ≤ y.attempts) →
        ∃ t, exec (.brakeEnd c) s = .next t ∧ ReleaseFlushed b s t ∧ (t.bay b).lastOutcome = .jammed ∧
          (t.bay b).state = (if y.deadline = .passed then restState .present .closed else .fault) ∧ t.channels = coast .jam) ∧
      (p.kind = .unlatchReady → y.latch = .opened → y.state = .unlatching →
        ∃ t, exec (.brakeEnd c) s = .next t ∧ Rederived b y (left .done) t) ∧
      ((p.kind = .unlatchRental ∨ p.kind = .unlatchStaff) → y.latch = .closed → y.state = .unlatching → s.hasRelease b →
        ∃ t, exec (.brakeEnd c) s = .next t ∧
          (y.deadline = .passed →
            let w := (left .jam).discarded b .jammed { y with driveStage := .noRequest }
            Rederived b (w.bay b) w t) ∧
          (y.deadline ≠ .passed → 2 ≤ y.attempts →
            let w := (left .jam).discarded b .jammed (y.thirdFailure .unlatchJam)
            FaultEntered b { w.bay b with link := .unlinked } w t)) ∧
      (2 ≤ y.attempts → (p.kind = .latch ∧ y.state = .latching ∧ y.latch = .opened ∧ y.link = .unlinked ∨
          p.kind = .unlatchReady ∧ y.state = .unlatching ∧ y.latch = .closed ∧ y.link = .readiness) →
        ∃ t, exec (.brakeEnd c) s = .next t ∧
          FaultEntered b { y.thirdFailure (if p.kind = .latch then .latchJam else .unlatchJam) with link := .unlinked }
            (left .jam) t) ∧
      (p.kind = .unlatchReady → y.latch = .closed → y.presence = .absent → y.attempts = 2 → y.state = .unlatching →
        y.link = .readiness →
        ∃ t, exec (.brakeEnd c) s = .next t ∧ (t.bay b).state = .fault ∧ (t.bay b).faultCause = some .unlatchJam ∧
          (t.bay b).link = .unlinked ∧ (t.bay b).lastOutcome = y.lastOutcome ∧ (t.bay b).driveStage = .noRequest ∧
          (t.bay b).attempts = 0 ∧ (t.bay b).retryDelay = none ∧ (t.bay b).lamp = .fast ∧ t.channels = coast .jam ∧
          t.queue = s.queue ∧ t.rentals = s.rentals ∧ t.journal = s.journal ∧
          t.changes = posts { s.changes.bays[b] with state := true } ∧ (∀ o, o ≠ b → t.bay o = s.bay o)) ∧
      (p.kind = .latch → y.state = .latching → y.latch = .opened → y.attempts = 2 → y.link = .unlinked →
        ∃ t, exec (.brakeEnd c) s = .next t ∧ (t.bay b).state = .fault ∧ (t.bay b).faultCause = some .latchJam ∧
          (t.bay b).driveStage = .noRequest ∧ (t.bay b).attempts = 0 ∧ (t.bay b).retryDelay = none ∧
          (t.bay b).identity = y.identity ∧ ((t.changes.bays)[b]).state = true ∧
          (t.bay b).lamp = .fast ∧ (∀ o, o ≠ b → t.bay o = s.bay o))) ∧
    (p.brakeStart + p.profile.brakeTime ≤ s.ms → y.driveStage = .driving → y.presenceChanged = true →
      ∃ t, exec (.brakeEnd c) s = .next t ∧
        Rederived b y (left (if p.kind = .latch ↔ y.latch = .closed then .done else .jam)) t ∧
        (t.bay b).presenceChanged = false ∧ (t.bay b).attempts = 0 ∧
        (t.bay b).state = restState y.presence y.latch ∧
        t.channels = coast (if p.kind = .latch ↔ y.latch = .closed then .done else .jam) ∧
        (∀ o, o ≠ b → t.bay o = s.bay o) ∧
        ((t.bay b).driveStage = .noRequest ∧ t.queue = s.queue ∨ (t.bay b).driveStage = .queued ∧
          ∃ k, t.queue = s.queue ++ [⟨b, k, s.nextOrder⟩] ∧
            k = if y.presence = .present then .latch else .unlatchReady) ∧
        (y.presence = .absent → t.rentals = s.rentals ∧ t.journal = s.journal ∧ (t.bay b).identity = none))

/-- The end of COAST at a refresh frees the channel, disables it after a short, and reports an ABORT or a short's JAM (logs 10, 38) (R4, 1.4, R17, R18, 5.3, R84, R140, R143, R146, R154, 8.7, R159). -/
def Obligations.CoastEndFreesTheChannel : Prop :=
  ∀ (s : State) (c : Fin 4) (p : Pulse), s.works → s.pulse? c = some p → p.phase = .coast →
    let x := s.channels[c]
    let y := s.bay p.bay
    let idle := s.channels.set c.val { x with mode := .idle } c.isLt
    let disabled := s.channels.set c.val { x with mode := .disabled } c.isLt
    let freed := if p.shorted = true then disabled else idle
    let b := p.bay
    let waits := y.driveStage = .driving ∧ y.presenceChanged = false
    (s.refreshDue = true → .coastEnd c ∈ s.due ∧ exec (.coastEnd c) s = exec (.coastEnd c) s.afterRefresh ∧
      ((∀ (d : Fin 4) q, s.pulse? d = some q → q.bay = p.bay → d = c) →
        ∃ t, exec (.coastEnd c) s = .next t ∧ t.chain[p.bay] = ⟨none, y.lampValue⟩)) ∧
    (s.refreshDue = false → p.refreshed = false → exec (.coastEnd c) s = .next s) ∧
    (s.refreshDue = false → p.refreshed = true → .coastEnd c ∈ s.due ∧
    (p.shorted = false → (p.result = some .done ∨ p.result = some .jam) → s.queue = [] →
      exec (.coastEnd c) s = .next { s with channels := idle }) ∧
    (p.shorted = false → (p.result = some .done ∨ p.result = some .jam) →
      exec (.coastEnd c) s = exec .grant { s with channels := idle }) ∧
    (p.shorted = true → ∃ t, exec (.coastEnd c) s = .next t ∧ (t.channels[c]).mode = .disabled) ∧
    (p.shorted = true → p.result = some .jam → waits → 2 ≤ y.attempts → (y.presence = .absent ∨ y.processed = true) →
      (p.kind = .latch ∧ y.state = .latching ∧ y.link = .unlinked ∨
        p.kind = .unlatchReady ∧ y.state = .unlatching ∧ y.link = .readiness) →
      ∃ u, exec (.coastEnd c) s = exec .grant u ∧ u.channels = disabled ∧ u.queue = s.queue ∧ u.rentals = s.rentals ∧
        u.journal = s.journal ∧ (u.bay p.bay).state = .fault ∧
        (u.bay p.bay).faultCause = some (if p.kind = .latch then .latchJam else .unlatchJam) ∧
        (u.bay p.bay).link = .unlinked ∧ (u.bay p.bay).lastOutcome = y.lastOutcome ∧
        (u.bay p.bay).driveStage = .noRequest ∧ (u.bay p.bay).attempts = 0 ∧ (u.bay p.bay).retryDelay = none ∧
        ((u.changes.bays)[p.bay]).state = true ∧ (∀ o, o ≠ p.bay → u.bay o = s.bay o)) ∧
    (p.shorted = true → p.result = some .jam → waits → (p.kind = .unlatchRental ∨ p.kind = .unlatchStaff) →
      y.state = .unlatching → s.hasRelease p.bay → y.presence = .present → (y.processed = true ∨ y.identity = none) →
      (y.deadline = .passed ∨ 2 ≤ y.attempts) →
      ∃ u, exec (.coastEnd c) s = exec .grant u ∧ ReleaseFlushed p.bay s u ∧ u.channels = disabled ∧
        (u.bay p.bay).lastOutcome = .jammed ∧
        (u.bay p.bay).state = (if y.deadline = .passed then restState .present y.latch else .fault) ∧
        (y.deadline ≠ .passed → (u.bay p.bay).faultCause = some .unlatchJam ∧ u.queue = s.queue)) ∧
    (∃ t, exec (.coastEnd c) s = .next t ∧ t.chain = s.chain) ∧
    ((p.shorted = true ∧ p.result = some .jam ∨ p.shorted = false ∧ p.result = some .abort) → y.driveStage = .driving →
      (y.presenceChanged = true →
        ∃ u, exec (.coastEnd c) s = exec .grant { u with channels := freed } ∧ Rederived b y s u) ∧
      (y.presenceChanged = false → (p.kind = .unlatchRental ∨ p.kind = .unlatchStaff) → y.state = .unlatching →
        s.hasRelease b →
        ∃ u, exec (.coastEnd c) s = exec .grant { u with channels := freed } ∧
          (p.shorted = false ∨ y.deadline = .passed →
            let w := s.discarded b (if p.shorted = true then .jammed else .powerAbort) { y with driveStage := .noRequest }
            Rederived b (w.bay b) w u) ∧
          (p.shorted = true → y.deadline ≠ .passed → 2 ≤ y.attempts →
            let w := s.discarded b .jammed (y.thirdFailure .unlatchJam)
            FaultEntered b { w.bay b with link := .unlinked } w u))) ∧
    (p.shorted = true → p.result = some .jam → waits → 2 ≤ y.attempts →
      (p.kind = .latch ∧ y.state = .latching ∧ y.link = .unlinked ∨
        p.kind = .unlatchReady ∧ y.state = .unlatching ∧ y.link = .readiness) →
      ∃ u, exec (.coastEnd c) s = exec .grant { u with channels := disabled } ∧
        FaultEntered b { y.thirdFailure (if p.kind = .latch then .latchJam else .unlatchJam) with link := .unlinked } s u) ∧
    (p.shorted = true → p.result = some .jam → s.queue = [] → waits → y.attempts < 2 →
      (p.kind = .latch ∨ p.kind = .unlatchReady ∨ y.deadline ≠ .passed) →
      exec (.coastEnd c) s = .next { s with
        channels := s.channels.set c.val { x with mode := .disabled } c.isLt
        bays := s.bays.set p.bay.val { y with
          attempts := y.attempts + 1, driveStage := .retryWait, retryDelay := some (s.ms + 2000) } p.bay.isLt }) ∧
    (∀ k : DriveKind, p.shorted = false → p.result = some .abort → s.band = .brownout → waits → p.kind = k →
      (k = .latch ∧ y.state = .latching ∨ k = .unlatchReady ∧ y.state = .unlatching ∧ y.link = .readiness) →
      exec (.coastEnd c) s = .next { s with
        channels := idle, queue := s.queue ++ [⟨p.bay, k, s.nextOrder⟩], nextOrder := s.nextOrder + 1
        bays := s.bays.set p.bay.val { y with driveStage := .queued } p.bay.isLt }) ∧
    (∀ (k : Fin 64) (r : Rental), p.shorted = false → p.result = some .abort → s.band = .brownout → waits →
      p.kind = .unlatchRental → y.link = .rental k → s.rentals[k] = some r → r.stage ≠ .opened → s.heldOrder = [] →
      y.presence = .present → y.processed = true →
      ∃ t, exec (.coastEnd c) s = .next t ∧ t.rentals = s.rentals.set k.val none k.isLt ∧ t.channels = idle ∧
        (t.bay p.bay).state = restState .present y.latch ∧ (t.bay p.bay).lastOutcome = .powerAbort ∧
        (t.bay p.bay).link = .unlinked ∧ (t.bay p.bay).deadline = .stopped ∧ (t.bay p.bay).identity = y.identity ∧
        ((t.changes.bays)[p.bay]).outcome = true ∧ t.journal = s.journal ∧ (∀ o, o ≠ p.bay → t.bay o = s.bay o)) ∧
    (p.shorted = false → p.result = some .abort → s.band = .brownout → waits →
      (p.kind = .unlatchRental ∨ p.kind = .unlatchStaff) → y.state = .unlatching → s.hasRelease p.bay →
      y.presence = .present → (y.processed = true ∨ y.identity = none) →
      ∃ t, exec (.coastEnd c) s = .next t ∧ ReleaseFlushed p.bay s t ∧ t.channels = idle ∧
        (t.bay p.bay).state = restState .present y.latch ∧ (t.bay p.bay).lastOutcome = .powerAbort))

/-- SUPPLY_SET stores six thresholds that are in range and in order, and refuses any others whole (R172). -/
def Obligations.SupplySetStoresOrRefuses : Prop :=
  ∀ (s : State) (le ll ce cl be bl : BitVec 16), s.accepting →
    let v : Thresholds := ⟨le.toNat, ll.toNat, ce.toNat, cl.toNat, be.toNat, bl.toNat⟩
    let ok := (∀ x ∈ [le, ll, ce, cl, be, bl], 6000 ≤ x.toNat ∧ x.toNat ≤ 18000) ∧
      be < bl ∧ bl ≤ ce ∧ ce < cl ∧ cl ≤ le ∧ le < ll
    (ok → exec (.supplySet le ll ce cl be bl) s = .next ({ s with thresholds := v }.answered 0xD8
      ([0] ++ be16 le.toNat ++ be16 ll.toNat ++ be16 ce.toNat ++ be16 cl.toNat ++ be16 be.toNat ++ be16 bl.toNat))) ∧
    (¬ ok → exec (.supplySet le ll ce cl be bl) s = .next (s.answered 0xD8 [1]))

/-- A battery conversion in its slot is accepted while no channel kicks, or as the 201st, and the filter keeps sixteen (logs 3, 7, 24) (R162, R163, R165, R207). -/
def Obligations.BatterySamplesAreFiltered : Prop :=
  ∀ (s : State) (count : BitVec 10), s.mainPower = true → s.samples.length ≤ 16 →
    let mV := 20 * count.toNat
    let kicks := ∃ (c : Fin 4) (p : Pulse), s.pulse? c = some p ∧ p.phase = .kick
    (s.scanSlot ≠ 4 → exec (.batteryConversion count) s = .next s) ∧
    (s.scanSlot = 4 →
      (s.resetHeld = false → kicks → s.rejections < 200 → exec (.batteryConversion count) s =
        .next { s with battery := mV, scanSlot := 0, rejections := s.rejections + 1 }) ∧
      (s.resetHeld = false → (¬ kicks ∨ 200 ≤ s.rejections) → exec (.batteryConversion count) s = .next { s with
        battery := mV, scanSlot := 0, rejections := 0
        samples := (if s.samples.length = 16 then s.samples.tail else s.samples) ++ [mV] }) ∧
      (s.resetHeld = true → exec (.batteryConversion count) s = .next { s with battery := mV, scanSlot := 0 }))

/-- An evaluation at its count falls to the fall band at once or rises one step, and a change posts BAND and lets the arbiter grant (logs 9, 38) (R142, R154, R157, R166, R167, R168, R169, R178). -/
def Obligations.BandEvaluationMovesTheBand : Prop :=
  ∀ s : State, s.works →
    let v := s.samples.sum / s.samples.length
    let h := s.thresholds
    let fall := if v < h.brownEnter then some Band.brownout else if v < h.critEnter then some .critical
      else if v < h.lowEnter then some .low else none
    let falls := ∃ f, fall = some f ∧ f.height < s.band.height
    let leave := match s.band with
      | .normal => none
      | .low => some (h.lowLeave, Band.normal)
      | .critical => some (h.critLeave, .low)
      | .brownout => some (h.brownLeave, .critical)
    let u := { s with evaluationDue := false }
    let moved := fun (b : Band) => { u with
      band := b, changes := { s.changes with station := { s.changes.station with band := true } } }
    (s.evaluationDue = false → exec .bandEvaluation s = .next s) ∧
    (s.evaluationDue = true → .bandEvaluation ∈ s.due) ∧
    (s.evaluationDue = true → s.samples.length < 16 → exec .bandEvaluation s = .next u) ∧
    (s.evaluationDue = true → 16 ≤ s.samples.length →
      (∀ f, fall = some f → f.height < s.band.height → f ≠ .brownout →
        ∃ t, exec .grant (moved f) = .next t ∧ exec .bandEvaluation s = .next t ∧ t.band = f) ∧
      (¬ falls → ∀ l b, leave = some (l, b) → l ≤ v →
        ∃ t, exec .grant (moved b) = .next t ∧ exec .bandEvaluation s = .next t ∧ t.band = b) ∧
      (¬ falls → (∀ l b, leave = some (l, b) → v < l) → exec .bandEvaluation s = .next u) ∧
      (fall = some .brownout → s.band ≠ .brownout → ∃ t, exec .bandEvaluation s = .next t ∧
        t = { moved .brownout with
          channels := t.channels
          changes := { (moved .brownout).changes with station := { (moved .brownout).changes.station with
            channel := t.changes.station.channel } } } ∧
        (t.changes.station.channel = true ↔ s.changes.station.channel = true ∨ ∃ (c : Fin 4) (p : Pulse), s.pulse? c = some p ∧
          p.shorted = false ∧ (p.phase = .kick ∨ p.phase = .hold) ∧ (s.channels[c]).short = 2) ∧
        ∀ c : Fin 4, let x := s.channels[c]
          (s.pulse? c = none → t.channels[c] = x) ∧
          ∀ p, s.pulse? c = some p →
            let aborted := t.channels[c] = { x with
              mode := .driving { p with phase := .coast, result := some .abort, refreshed := false } } ∧ t.gates c = gatesOff
            (p.shorted = false → (p.phase = .connect ∨ p.phase = .deadtime1 ∨ p.phase = .deadtime2 ∨ p.phase = .brake) → aborted) ∧
            (p.shorted = false → (p.phase = .kick ∨ p.phase = .hold) → x.short < 2 → aborted) ∧
            (p.shorted = false → (p.phase = .kick ∨ p.phase = .hold) → x.short = 2 → t.changes.station.channel = true ∧
              t.channels[c] = { x with
                mode := .driving { p with phase := .deadtime2, result := some .jam, shorted := true } }) ∧
            (p.shorted = true ∨ p.phase = .coast → t.channels[c] = x)))

/-- A scan writes the raw values, and only the fifth differing sample in a row makes a level due (R1, R2). -/
def Obligations.FifthDifferingSampleIsDue : Prop :=
  ∀ (s : State) (w : SenseWord), s.works → ∃ t, exec (.senseScan w) s = .next t ∧ t = { s with bays := t.bays } ∧
    ∀ b : BayIx, let y := s.bay b
      let z := t.bay b
      z.rawPresence = samplePresence w b ∧ z.rawLatch = sampleLatch w b ∧
      (y.presenceDue = false → samplePresence w b = y.presence → z.presenceAgree = 0 ∧ z.presenceDue = false) ∧
      (y.presenceDue = false → samplePresence w b ≠ y.presence → y.presenceAgree < 4 →
        z.presenceAgree = y.presenceAgree + 1 ∧ z.presenceDue = false) ∧
      (y.presenceDue = false → samplePresence w b ≠ y.presence → y.presenceAgree = 4 → z.presenceDue = true) ∧
      (y.latchDue = false → sampleLatch w b = y.latch → z.latchAgree = 0 ∧ z.latchDue = false) ∧
      (y.latchDue = false → sampleLatch w b ≠ y.latch → y.latchAgree < 4 →
        z.latchAgree = y.latchAgree + 1 ∧ z.latchDue = false) ∧
      (y.latchDue = false → sampleLatch w b ≠ y.latch → y.latchAgree = 4 → z.latchDue = true) ∧
      z = { y with rawPresence := z.rawPresence, rawLatch := z.rawLatch, presenceAgree := z.presenceAgree
                   latchAgree := z.latchAgree, presenceDue := z.presenceDue, latchDue := z.latchDue }

/-- A VACANT bay takes an arriving bike with LATCH posted, or DOCKED where its latch is CLOSED, and opens a latch shut on it (log 8, log 34) (R2, R4, R5, R12, R18, R19, R20, 5.3, R139). -/
def Obligations.ArrivalAtAVacantBay : Prop :=
  ∀ (s : State) (b : BayIx), s.works →
    let y := s.bay b
    let posted := { s.changes with bays := s.changes.bays.set b.val { s.changes.bays[b] with state := true } b.isLt }
    (y.presenceDue = false → y.latchDue = false → exec (.senseEvent b) s = .next s) ∧
    (y.state = .vacant → y.presence = .absent → y.presenceDue = true → y.latchDue = false → y.latch = .opened →
      exec (.senseEvent b) s = .next { s with
        queue := s.queue ++ [⟨b, .latch, s.nextOrder⟩], nextOrder := s.nextOrder + 1
        bays := s.bays.set b.val { y with
          state := .latching, presence := .present, presenceAgree := 0, presenceDue := false
          arrival := some s.clock.minute, identity := (y.pendingTag.map (·.identity)).or y.identity, pendingTag := none
          link := .unlinked, driveStage := .queued, attempts := 0, lamp := .slow
          lampPhase := if y.lamp = .slow then y.lampPhase else 0
          lampSince := if y.lamp = .slow then y.lampSince else s.ms } b.isLt
        changes := posted }) ∧
    (y.state = .vacant → y.presence = .absent → y.presenceDue = true →
      (y.latch = .closed ∧ y.latchDue = false ∨ y.latch = .opened ∧ y.latchDue = true) →
      ∃ t, exec (.senseEvent b) s = .next t ∧ t.queue = s.queue ∧ t.nextOrder = s.nextOrder ∧
        (∀ o, o ≠ b → t.bay o = s.bay o) ∧ ((t.changes.bays)[b]).state = true ∧
        let z := t.bay b
        z.state = .docked ∧ z.presence = .present ∧ z.latch = .closed ∧ z.arrival = some s.clock.minute ∧
          z.identity = (y.pendingTag.map (·.identity)).or y.identity ∧ z.pendingTag = none ∧ z.alarms = y.alarms ∧
          z.driveStage = y.driveStage ∧
          ((y.latchDue = true → ∀ (c : Fin 4) p, s.pulse? c = some p → p.bay ≠ b) →
            EntrySettled b (s.entered b .docked .off { y with
              presence := .present, presenceAgree := 0, presenceDue := false, latch := .closed
              latchAgree := if y.latchDue = true then 0 else y.latchAgree, latchDue := false
              arrival := some s.clock.minute, identity := (y.pendingTag.map (·.identity)).or y.identity
              pendingTag := none }) t) ∧
          (z.identity = none → z.tagWindow = some (s.ms + 1000 * s.settings.tagWindow))) ∧
    (y.state = .vacant → y.presence = .absent → y.presenceDue = false → y.latch = .opened → y.latchDue = true →
      (∀ (c : Fin 4) p, s.pulse? c = some p → p.bay ≠ b) →
      exec (.senseEvent b) s = .next { s with
        queue := s.queue ++ [⟨b, .unlatchReady, s.nextOrder⟩], nextOrder := s.nextOrder + 1
        bays := s.bays.set b.val { y with
          state := .unlatching, latch := .closed, latchAgree := 0, latchDue := false, pendingTag := none
          link := .readiness, driveStage := .queued, attempts := 0, lamp := .slow
          lampPhase := if y.lamp = .slow then y.lampPhase else 0
          lampSince := if y.lamp = .slow then y.lampSince else s.ms } b.isLt
        changes := posted })

/-- A bike taken from a released bay ends its release with its record, and a latch shut on a bike not taken discards it (logs 8, 33) (R2, R4, R8, R9, 4.5, 4.7, 5.3, R61, R62, R84, R126, R130). -/
def Obligations.RemovalOfAReleasedRental : Prop :=
  ∀ (s : State) (b : BayIx), s.works →
    let y := s.bay b
    let m := s.clock.minute
    let set := fun (z : Bay) => s.bays.set b.val z b.isLt
    let gone := fun (t : State) =>
      (t.bay b).identity = none ∧ (t.bay b).arrival = none ∧ (t.bay b).processed = false ∧ (t.bay b).takeWindow = none ∧
        (t.bay b).deadline = .stopped ∧ (t.bay b).lastOutcome = .checkedOut ∧ ((t.changes.bays)[b]).outcome = true ∧
        t.channels = s.channels ∧ (∀ o, o ≠ b → t.bay o = s.bay o)
    let opens := fun (k : Fin 64) (r : Rental) (t : State) =>
      t.rentals = s.rentals.set k.val (some { r with stage := .opened, checkout := some m }) k.isLt ∧
        t.spent = (if r.plan = .casual then s.spent.map fun e =>
          if e.rider = r.rider ∧ e.serial = r.serial ∧ e.state = .held then { e with state := .finalized } else e
          else s.spent) ∧
        t.journal = s.journal ++ [.checkout ⟨m, r.bay, r.bike, r.cls, r.rider, r.serial, r.plan, r.hold⟩] ∧
        (s.journal.length = 191 → s.highWaterArmed = true →
          t.changes.station.journalHigh = true ∧ t.highWaterArmed = false)
    let staffed := fun (t : State) => t.rentals = s.rentals ∧ t.spent = s.spent ∧
      t.journal = s.journal ++ [.staffRemoval ⟨m, b, (y.identity.map (·.bike)).getD 0, y.identity.map (·.cls)⟩]
    let vacant := fun (t : State) => (t.bay b).state = .vacant ∧ (t.bay b).link = .unlinked ∧ (t.bay b).lamp = .off ∧
      ((t.changes.bays)[b]).state = true
    let reopens := fun (t : State) => (t.bay b).state = .unlatching ∧ (t.bay b).link = .readiness ∧
      (t.bay b).driveStage = .queued ∧ (t.bay b).retryDelay = none ∧
      t.queue = (s.queue.filter fun q => decide (q.bay ≠ b)) ++ [⟨b, .unlatchReady, s.nextOrder⟩]
    let falls := y.presence = .present ∧ y.presenceDue = true ∧ y.latchDue = false
    (∀ (k : Fin 64) (r : Rental), y.link = .rental k → s.rentals[k] = some r → r.stage ≠ .opened →
      (falls → y.latch = .opened → y.state = .released → r.stage = .released →
        ∃ t, exec (.senseEvent b) s = .next t ∧ gone t ∧ opens k r t ∧ vacant t ∧ t.committedSum = s.committedSum ∧
          t.queue = s.queue) ∧
      (y.state = .released → y.presence = .present → y.presenceDue = true → y.latch = .opened → y.latchDue = true →
        (∀ (c : Fin 4) p, s.pulse? c = some p → p.bay ≠ b) →
        ∃ t, exec (.senseEvent b) s = .next t ∧ gone t ∧ opens k r t ∧ (t.bay b).state = .unlatching ∧
          (t.bay b).link = .readiness ∧ (t.bay b).driveStage = .queued ∧
          t.queue = s.queue ++ [⟨b, .unlatchReady, s.nextOrder⟩]) ∧
      (falls → y.state = .unlatching → y.driveStage = .driving →
        ∃ t, exec (.senseEvent b) s = .next t ∧ gone t ∧ opens k r t ∧ (t.bay b).state = .unlatching ∧
          (t.bay b).link = .unlinked ∧ (t.bay b).driveStage = .driving ∧ (t.bay b).presenceChanged = true ∧
          t.queue = s.queue) ∧
      (y.state = .released → y.presence = .present → y.presenceDue = false → y.latch = .opened → y.latchDue = true →
        s.heldOrder = [] → y.processed = true → (∀ (c : Fin 4) p, s.pulse? c = some p → p.bay ≠ b) →
        ∃ t, exec (.senseEvent b) s = .next t ∧ t.rentals = s.rentals.set k.val none k.isLt ∧
          t.spent = (if r.plan = .casual then s.spent.filter fun x =>
            !(decide (x.rider = r.rider) && decide (x.serial = r.serial) && decide (x.state = .held)) else s.spent) ∧
          (t.bay b).state = .docked ∧ (t.bay b).lastOutcome = .latchReclosed ∧ (t.bay b).link = .unlinked ∧
          (t.bay b).takeWindow = none ∧ (t.bay b).identity = y.identity ∧ (t.bay b).arrival = y.arrival ∧
          ((t.changes.bays)[b]).outcome = true ∧ t.journal = s.journal ∧ t.queue = s.queue ∧
          (∀ o, o ≠ b → t.bay o = s.bay o))) ∧
    (∀ (k : Fin 64) (r : Rental), y.link = .rental k → s.rentals[k] = some r → r.stage ≠ .opened → falls →
      y.state = .unlatching → (y.driveStage = .queued ∨ y.driveStage = .retryWait) →
      (y.latch = .opened → ∃ t, exec (.senseEvent b) s = .next t ∧ gone t ∧ opens k r t ∧ vacant t ∧
        (t.bay b).driveStage = .noRequest ∧ (t.bay b).retryDelay = none ∧
        t.queue = s.queue.filter fun q => decide (q.bay ≠ b)) ∧
      (y.latch = .closed → ∃ t, exec (.senseEvent b) s = .next t ∧ gone t ∧ opens k r t ∧ reopens t)) ∧
    (s.hasRelease b → y.state = .released → y.presence = .present → y.presenceDue = false → y.latch = .opened →
      y.latchDue = true → (y.processed = true ∨ y.identity = none) → (∀ (c : Fin 4) p, s.pulse? c = some p → p.bay ≠ b) →
      ∃ t, exec (.senseEvent b) s = .next t ∧ ReleaseFlushed b s t ∧ (t.bay b).state = .docked ∧
        (t.bay b).lastOutcome = .latchReclosed ∧ (t.bay b).takeWindow = none ∧ (t.bay b).identity = y.identity ∧
        (t.bay b).arrival = y.arrival ∧ (t.bay b).processed = y.processed ∧ t.queue = s.queue) ∧
    (s.hasRelease b → y.state = .released → y.presence = .present → y.presenceDue = false → y.latch = .opened →
      y.latchDue = true → (∀ (c : Fin 4) p, s.pulse? c = some p → p.bay ≠ b) →
      let w := s.discarded b .latchReclosed { y with latch := .closed, latchAgree := 0, latchDue := false }
      ∃ t, exec (.senseEvent b) s = .next t ∧ EntrySettled b (w.entered b .docked .off (w.bay b)) t) ∧
    (y.link = .staff → falls →
      (y.state = .unlatching → (y.driveStage = .queued ∨ y.driveStage = .retryWait) → y.latch = .closed →
        ∃ t, exec (.senseEvent b) s = .next t ∧ gone t ∧ staffed t ∧ reopens t) ∧
      (y.state = .released → y.latch = .opened →
        ∃ t, exec (.senseEvent b) s = .next t ∧ gone t ∧ staffed t ∧ vacant t ∧ t.queue = s.queue) ∧
      (y.state = .unlatching → y.driveStage = .driving →
        ∃ t, exec (.senseEvent b) s = .next t ∧ gone t ∧ staffed t ∧ (t.bay b).state = .unlatching ∧
          (t.bay b).link = .unlinked ∧ (t.bay b).presenceChanged = true) ∧
      (y.state = .unlatching → (y.driveStage = .queued ∨ y.driveStage = .retryWait) → y.latch = .opened →
        ∃ t, exec (.senseEvent b) s = .next t ∧ gone t ∧ staffed t ∧ vacant t ∧ (t.bay b).driveStage = .noRequest ∧
          (t.bay b).retryDelay = none ∧ t.queue = s.queue.filter fun q => decide (q.bay ≠ b))) ∧
    (y.state = .unlatching → y.link = .readiness → y.presence = .absent → y.presenceDue = true → y.latchDue = false →
      (y.driveStage = .driving → exec (.senseEvent b) s = .next { s with bays := set { y with
        presence := .present, presenceAgree := 0, presenceDue := false, arrival := some m, presenceChanged := true } }) ∧
      ((y.driveStage = .queued ∨ y.driveStage = .retryWait) →
        ∃ t, exec (.senseEvent b) s = .next t ∧ Rederived b
          { y with presence := .present, presenceAgree := 0, presenceDue := false, arrival := some m, retryDelay := none }
          { s with queue := s.queue.filter fun q => decide (q.bay ≠ b) } t) ∧
      ((y.driveStage = .queued ∨ y.driveStage = .retryWait) → y.latch = .opened →
        ∃ t, exec (.senseEvent b) s = .next t ∧ (t.bay b).state = .latching ∧ (t.bay b).link = .unlinked ∧
          (t.bay b).arrival = some m ∧ (t.bay b).driveStage = .queued ∧ (t.bay b).retryDelay = none ∧
          t.queue = (s.queue.filter fun q => decide (q.bay ≠ b)) ++ [⟨b, .latch, s.nextOrder⟩] ∧
          (∀ o, o ≠ b → t.bay o = s.bay o)) ∧
      ((y.driveStage = .queued ∨ y.driveStage = .retryWait) → y.latch = .closed → y.identity = none →
        ∃ t, exec (.senseEvent b) s = .next t ∧ (t.bay b).state = .docked ∧ (t.bay b).link = .unlinked ∧
          (t.bay b).presence = .present ∧ (t.bay b).arrival = some m ∧ (t.bay b).driveStage = .noRequest ∧
          (t.bay b).retryDelay = none ∧ (t.bay b).attempts = 0 ∧ (t.bay b).identity = none ∧
          (t.bay b).tagWindow = some (s.ms + 1000 * s.settings.tagWindow) ∧
          (t.queue = s.queue.filter fun q => decide (q.bay ≠ b)) ∧ t.nextOrder = s.nextOrder ∧ t.rentals = s.rentals ∧
          t.journal = s.journal ∧ ((t.changes.bays)[b]).state = true ∧ (∀ o, o ≠ b → t.bay o = s.bay o))) ∧
    (y.state = .unlatching → y.link = .unlinked → y.presenceDue = true → y.latchDue = false →
      exec (.senseEvent b) s = .next { s with bays := set (if y.presence = .absent
        then { y with presence := .present, presenceAgree := 0, presenceDue := false, arrival := some m }
        else { y with presence := .absent, presenceAgree := 0, presenceDue := false, arrival := none }) }) ∧
    (y.state = .unlatching → y.link = .readiness → falls → exec (.senseEvent b) s = .next { s with bays := set { y with
      presence := .absent, presenceAgree := 0, presenceDue := false, arrival := none } })

/-- A bike that leaves with no release, a latch that slips or shuts, and sense events in FAULT and SERVICE act by the state's rule (log 8) (R2, R4, R6, R7, R10, R11, R17, R18, R22, 5.3, R139). -/
def Obligations.UnrentedRemovalFromDocked : Prop :=
  ∀ (s : State) (b : BayIx), s.works →
    let y := s.bay b
    let set := fun (z : Bay) => s.bays.set b.val z b.isLt
    let falls := y.presence = .present ∧ y.presenceDue = true ∧ y.latchDue = false
    let rises := y.presence = .absent ∧ y.presenceDue = true ∧ y.latchDue = false
    let alone := ∀ (c : Fin 4) p, s.pulse? c = some p → p.bay ≠ b
    let left := { y with
      presence := .absent, presenceAgree := 0, presenceDue := false, identity := none, arrival := none, processed := false }
    let latch := if y.latchDue = true then (if y.latch = .opened then .closed else .opened) else y.latch
    let gone := { left with
      latch := latch, latchAgree := if y.latchDue = true then 0 else y.latchAgree, latchDue := false }
    let alarmed := fun (raised : Bool) => { s.changes with
      bays := s.changes.bays.set b.val { s.changes.bays[b] with alarm := raised || (s.changes.bays[b]).alarm } b.isLt }
    let alarms := { y.alarms with unrentedRemoval := y.identity.isSome || y.alarms.unrentedRemoval }
    let filtered := { s with queue := s.queue.filter fun q => decide (q.bay ≠ b) }
    (y.state = .docked → y.presence = .present → y.presenceDue = true → y.latch = .closed → y.latchDue = true →
      exec (.senseEvent b) s = .next { s with
        bays := set { y with
          state := .vacant, presence := .absent, presenceAgree := 0, presenceDue := false, latch := .opened, latchAgree := 0
          latchDue := false, identity := none, arrival := none, processed := false, tagWindow := none, alarms := alarms
          attempts := 0, presenceChanged := false, faultCause := none, link := .unlinked, driveStage := .noRequest
          lamp := .off
          lampPhase := if y.lamp = .off then y.lampPhase else 0
          lampSince := if y.lamp = .off then y.lampSince else s.ms }
        changes := { s.changes with bays := s.changes.bays.set b.val { s.changes.bays[b] with
          state := true, alarm := y.identity.isSome || (s.changes.bays[b]).alarm } b.isLt } }) ∧
    (y.state = .docked → y.presence = .present → y.presenceDue = true → (y.latchDue = true → alone) →
      ∃ t, exec (.senseEvent b) s = .next t ∧
        Rederived b { gone with tagWindow := none, alarms := alarms } { s with changes := alarmed y.identity.isSome } t) ∧
    (y.state = .latching → y.presence = .present → y.presenceDue = true → (y.latchDue = true → alone) →
      (y.driveStage = .queued ∨ y.driveStage = .retryWait) →
      ∃ t, exec (.senseEvent b) s = .next t ∧ Rederived b { gone with retryDelay := none } filtered t) ∧
    (y.state = .latching → (y.driveStage = .queued ∨ y.driveStage = .retryWait) → y.presenceDue = false →
      y.latch = .opened → y.latchDue = true → alone →
      ∃ t, exec (.senseEvent b) s = .next t ∧ EntrySettled b (filtered.entered b .docked .off { y with
        latch := .closed, latchAgree := 0, latchDue := false, driveStage := .noRequest, retryDelay := none, attempts := 0 }) t) ∧
    ((y.state = .fault ∨ y.state = .service) → y.presenceDue = true → y.latchDue = true → alone →
      let flipped := { y with
        presence := if y.presence = .absent then .present else .absent, presenceAgree := 0, presenceDue := false
        latch := latch, latchAgree := 0, latchDue := false }
      let raised := y.identity.isSome && !y.processed
      exec (.senseEvent b) s = .next (if y.state = .fault ∧ y.presence = .present
        then { s with
          bays := set { gone with
            tagWindow := none, alarms := { y.alarms with unrentedRemoval := raised || y.alarms.unrentedRemoval } }
          changes := alarmed raised }
        else { s with bays := set flipped })) ∧
    (y.state = .docked → falls → y.latch = .closed →
      ∃ t, exec (.senseEvent b) s = .next t ∧
        (∀ o, o ≠ b → t.bay o = s.bay o) ∧ t.journal = s.journal ∧ t.rentals = s.rentals ∧
        t.queue = s.queue ++ [⟨b, .unlatchReady, s.nextOrder⟩] ∧
        let z := t.bay b
        z.state = .unlatching ∧ z.link = .readiness ∧ z.driveStage = .queued ∧ z.identity = none ∧ z.arrival = none ∧
          z.processed = false ∧ z.tagWindow = none ∧ z.held = y.held ∧
          z.alarms.unrentedRemoval = (y.identity.isSome || y.alarms.unrentedRemoval) ∧
          (y.identity.isSome = true → ((t.changes.bays)[b]).alarm = true) ∧ ((t.changes.bays)[b]).state = true) ∧
    (y.state = .docked → y.presence = .present → y.presenceDue = false → y.latch = .closed → y.latchDue = true →
      exec (.senseEvent b) s = .next { s with
        queue := s.queue ++ [⟨b, .latch, s.nextOrder⟩], nextOrder := s.nextOrder + 1
        bays := set { y with
          state := .latching, latch := .opened, latchAgree := 0, latchDue := false, tagWindow := none, link := .unlinked
          alarms := { y.alarms with latchSlip := true }, driveStage := .queued, attempts := 0, lamp := .slow
          lampPhase := if y.lamp = .slow then y.lampPhase else 0
          lampSince := if y.lamp = .slow then y.lampSince else s.ms }
        changes := { s.changes with
          bays := s.changes.bays.set b.val { s.changes.bays[b] with state := true, alarm := true } b.isLt } }) ∧
    (y.state = .latching → falls → (y.driveStage = .queued ∨ y.driveStage = .retryWait) → y.latch = .opened →
      ∃ t, exec (.senseEvent b) s = .next t ∧ (∀ o, o ≠ b → t.bay o = s.bay o) ∧ t.journal = s.journal ∧
        t.rentals = s.rentals ∧ (t.queue = s.queue.filter fun q => decide (q.bay ≠ b)) ∧ t.nextOrder = s.nextOrder ∧
        let z := t.bay b
        z.state = .vacant ∧ z.driveStage = .noRequest ∧ z.retryDelay = none ∧ z.attempts = 0 ∧ z.identity = none ∧
          z.arrival = none ∧ z.processed = false ∧ ((t.changes.bays)[b]).state = true) ∧
    (y.state = .latching → y.driveStage = .driving →
      (falls → exec (.senseEvent b) s = .next { s with bays := set { left with presenceChanged := true } }) ∧
      (rises → y.presenceChanged = true → exec (.senseEvent b) s = .next { s with bays := set { y with
        presence := .present, presenceAgree := 0, presenceDue := false, arrival := some s.clock.minute } })) ∧
    (y.state = .latching → (y.driveStage = .queued ∨ y.driveStage = .retryWait) → y.presenceDue = false →
      y.latch = .opened → y.latchDue = true → alone →
      ∃ t, exec (.senseEvent b) s = .next t ∧ (∀ o, o ≠ b → t.bay o = s.bay o) ∧
        (t.queue = s.queue.filter fun q => decide (q.bay ≠ b)) ∧ t.channels = s.channels ∧
        let z := t.bay b
        z.state = .docked ∧ z.latch = .closed ∧ z.driveStage = .noRequest ∧ z.retryDelay = none ∧ z.attempts = 0 ∧
          z.identity = y.identity ∧ ((t.changes.bays)[b]).state = true) ∧
    (y.state = .fault →
      (falls → let raised := y.identity.isSome = true ∧ y.processed = false;
        exec (.senseEvent b) s = .next { s with
          bays := set { left with
            tagWindow := none
            alarms := { y.alarms with unrentedRemoval := decide raised || y.alarms.unrentedRemoval } }
          changes := { s.changes with bays := s.changes.bays.set b.val { s.changes.bays[b] with
            alarm := decide raised || (s.changes.bays[b]).alarm } b.isLt } }) ∧
      (rises → exec (.senseEvent b) s = .next { s with bays := set { y with
        presence := .present, presenceAgree := 0, presenceDue := false } })) ∧
    ((y.state = .fault ∨ y.state = .service) → y.presenceDue = false → y.latchDue = true → alone →
      exec (.senseEvent b) s = .next { s with bays := set { y with
        latch := if y.latch = .opened then .closed else .opened, latchAgree := 0, latchDue := false } }) ∧
    (y.state = .service → y.presenceDue = true → y.latchDue = false →
      exec (.senseEvent b) s = .next { s with bays := set { y with
        presence := if y.presence = .absent then .present else .absent, presenceAgree := 0, presenceDue := false } })

/-- Each timer of a bay expires when the count reaches its end, by its own rule, and a lamp pattern moves to its next phase (logs 4, 21, 38) (R16, R19, R20, R21, R24, R77, R79, R144, R178, R179). -/
def Obligations.BayTimersExpire : Prop :=
  ∀ (s : State) (b : BayIx), s.works →
    let y := s.bay b
    let put := fun (z : Bay) => { s with bays := s.bays.set b.val z b.isLt }
    let length := match y.lamp with
      | .off | .steady => none
      | .slow => some 500
      | .fast => some 125
      | .double => some (if y.lampPhase = 3 then 1700 else 100)
    (∀ e, y.tagWindow = some e → e ≤ s.ms → .tagWindowExpiry b ∈ s.due ∧
      exec (.tagWindowExpiry b) s = .next { put { y with
          tagWindow := none, alarms := { y.alarms with unidentified := true } } with
        changes := { s.changes with bays := s.changes.bays.set b.val { s.changes.bays[b] with alarm := true } b.isLt } }) ∧
    ((∀ e, y.tagWindow = some e → s.ms < e) → exec (.tagWindowExpiry b) s = .next s) ∧
    (∀ g, y.pendingTag = some g → g.expiry ≤ s.ms → .pendingTagExpiry b ∈ s.due ∧
      exec (.pendingTagExpiry b) s = .next (put { y with pendingTag := none })) ∧
    ((∀ g, y.pendingTag = some g → s.ms < g.expiry) → exec (.pendingTagExpiry b) s = .next s) ∧
    (∀ (e : Nat) (k : DriveKind), (y.state = .latching ∧ k = .latch ∨
        y.state = .unlatching ∧ ((∃ j, y.link = .rental j) ∧ k = .unlatchRental ∨ y.link = .staff ∧ k = .unlatchStaff ∨
          y.link = .readiness ∧ k = .unlatchReady)) →
      y.driveStage = .retryWait → y.retryDelay = some e → e ≤ s.ms → .retryDelayExpiry b ∈ s.due ∧
      exec (.retryDelayExpiry b) s = .next { put { y with retryDelay := none, driveStage := .queued } with
        queue := s.queue ++ [⟨b, k, s.nextOrder⟩], nextOrder := s.nextOrder + 1 }) ∧
    ((∀ e, y.retryDelay = some e → s.ms < e) → exec (.retryDelayExpiry b) s = .next s) ∧
    (∀ e, y.deadline = .running e → e ≤ s.ms → .unlatchDeadlineExpiry b ∈ s.due ∧
      (y.driveStage = .driving →
        exec (.unlatchDeadlineExpiry b) s = .next (put { y with deadline := .passed }))) ∧
    ((∀ e, y.deadline = .running e → s.ms < e) → exec (.unlatchDeadlineExpiry b) s = .next s) ∧
    (∀ e, y.state = .released → y.takeWindow = some e → e ≤ s.ms → .takeWindowExpiry b ∈ s.due) ∧
    ((∀ e, y.takeWindow = some e → s.ms < e) → exec (.takeWindowExpiry b) s = .next s) ∧
    (∀ n, length = some n → y.lampSince + n ≤ s.ms → .lampPhase b ∈ s.due ∧
      exec (.lampPhase b) s = .next (put { y with
        lampPhase := if y.lamp = .double then (y.lampPhase + 1) % 4 else (y.lampPhase + 1) % 2, lampSince := s.ms })) ∧
    ((∀ n, length = some n → s.ms < y.lampSince + n) → exec (.lampPhase b) s = .next s) ∧
    (let on := (match y.lamp with
        | .off => false
        | .steady => true
        | .slow | .fast => decide (y.lampPhase = 0)
        | .double => decide (y.lampPhase = 0 ∨ y.lampPhase = 2) : Bool);
      s.pending = [] → s.due = [] → s.refreshDue = true → (∀ (c : Fin 4) p, s.pulse? c = some p → p.bay ≠ b) →
        ∃ t, step s = .next t ∧ t.selectBits b = [false, false, false, on])

/-- An expired take window latches the bike again, and an expired deadline discards a waiting release, with the flush that follows (R4, R17, R18, R21, R62, R78, R84, R85, R87, R130, R179). -/
def Obligations.ReleasesEndAtTheirTimers : Prop :=
  (∀ (s : State) (b : BayIx) (k : Fin 64) (r : Rental) (e : Nat), s.works → e ≤ s.ms → s.heldOrder = [] →
      (s.bay b).link = .rental k → s.rentals[k] = some r → r.stage ≠ .opened →
      let withdrawn := if r.plan = .casual then s.spent.filter fun x =>
        !(decide (x.rider = r.rider) && decide (x.serial = r.serial) && decide (x.state = .held)) else s.spent
      let gone := fun (t : State) => t.rentals = s.rentals.set k.val none k.isLt ∧ t.spent = withdrawn ∧
        (∀ o, o ≠ b → t.bay o = s.bay o) ∧ (t.bay b).link = .unlinked ∧ (t.bay b).takeWindow = none ∧
        (t.bay b).deadline = .stopped ∧ (t.bay b).identity = (s.bay b).identity ∧
        ((t.changes.bays)[b]).outcome = true ∧ ((t.changes.bays)[b]).state = true
      ((s.bay b).state = .released → (s.bay b).takeWindow = some e →
        ∃ t, exec (.takeWindowExpiry b) s = .next t ∧ gone t ∧ t.journal = s.journal ∧
          (t.bay b).state = .latching ∧ (t.bay b).lastOutcome = .takeExpired ∧ (t.bay b).attempts = 0 ∧
          t.queue = s.queue ++ [⟨b, .latch, s.nextOrder⟩]) ∧
      ((s.bay b).state = .unlatching → (s.bay b).driveStage = .queued → (s.bay b).deadline = .running e →
        (s.bay b).presence = .present → (s.bay b).latch = .closed → (s.bay b).processed = true →
        ∃ t, exec (.unlatchDeadlineExpiry b) s = .next t ∧ gone t ∧ t.journal = s.journal ∧
          (t.bay b).state = .docked ∧ (t.bay b).lastOutcome = .deadline ∧ (t.bay b).driveStage = .noRequest ∧
          (t.bay b).attempts = 0 ∧ t.queue = s.queue.filter fun q => decide (q.bay ≠ b))) ∧
  (∀ (s : State) (b : BayIx) (e : Nat), s.works → e ≤ s.ms → s.hasRelease b →
    let y := s.bay b
    (y.state = .released → y.takeWindow = some e →
      ∃ t, exec (.takeWindowExpiry b) s = .next t ∧ ReleaseFlushed b s t ∧ (t.bay b).state = .latching ∧
        (t.bay b).lastOutcome = .takeExpired ∧ (t.bay b).takeWindow = none ∧ (t.bay b).attempts = 0 ∧
        t.queue = s.queue ++ [⟨b, .latch, s.nextOrder⟩]) ∧
    (y.state = .unlatching → (y.driveStage = .queued ∨ y.driveStage = .retryWait) → y.deadline = .running e →
      let w := { s with queue := s.queue.filter fun q => decide (q.bay ≠ b) }.discarded b .deadline { y with
        driveStage := .noRequest, retryDelay := none, attempts := 0 }
      ∃ t, exec (.unlatchDeadlineExpiry b) s = .next t ∧ Rederived b (w.bay b) w t) ∧
    (y.state = .unlatching → (y.driveStage = .queued ∨ y.driveStage = .retryWait) → y.deadline = .running e →
      y.presence = .present → (y.processed = true ∨ y.identity = none) →
      ∃ t, exec (.unlatchDeadlineExpiry b) s = .next t ∧ ReleaseFlushed b s t ∧
        (t.bay b).state = restState .present y.latch ∧ (t.bay b).lastOutcome = .deadline ∧
        (t.bay b).deadline = .stopped ∧ (t.bay b).retryDelay = none ∧ (t.bay b).attempts = 0))

/-- RESET stops the part, which ignores what reaches it, and its rise makes a cold reset of every item of state (logs 7, 19, 24, 25, 38, 39) (R3, R17, R30, R38, R66, R108, R110, R136, R161, R162, R196, R207). -/
def Obligations.ResetMakesAColdReset : Prop :=
  ∀ (s : State) (w : SenseWord),
    exec .resetAssert s = .next { s with resetHeld := true, reply := none } ∧
    (s.resetHeld = true → s.mainPower = true → (∀ c, s.gates c = gatesOff) ∧
      (∀ b, s.selectBits b = [false, false, false, false]) ∧ s.attn = false ∧
      (∀ x, exec (.byteReceived x) s = .next s) ∧
      (∀ i k p, Frame.encodeRequest i = some (k, p) → exec i s = .next s) ∧
      (∀ i, reachesStoppedPart i = false → exec i s = .next s)) ∧
    (s.resetHeld = true → s.mainPower = true →
      ∃ t, exec (.resetRelease w) s = .next t ∧ ColdlyReset w t ∧ t.mainPower = true ∧ t.resetHeld = false ∧
        t.scanSlot = s.scanSlot ∧ t.currents = s.currents ∧ t.battery = s.battery) ∧
    (s.resetHeld = true → s.mainPower = false → exec (.resetRelease w) s = .next { s with resetHeld := false }) ∧
    (s.resetHeld = false → exec (.resetRelease w) s = .next s)

/-- A loss of main power keeps the backup domain and ends the main domain, and a lost backup loses the backup domain too (logs 7, 14, 15, 36) (R162, R174, R175, R176). -/
def Obligations.PowerLossKeepsTheBackupDomain : Prop :=
  ∀ s : State,
    (s.mainPower = true → ∃ t, exec .mainPowerLoss s = .next t ∧ BackupKept s t ∧ t.mainPower = false ∧
      t.band = .critical ∧ t.rejections = 0 ∧
      (∀ c : Fin 4, ∃ n : BitVec 10, t.currents[c] = currentOf n ∧ n = Config.unconverted (s.freeIndex + c.val)) ∧
      t.battery = batteryOf (Config.unconverted (s.freeIndex + 4)) ∧
      t.reply = none ∧ t.rx = .hunt ∧ t.changes = emptyChanges ∧ t.cursor = 0 ∧ t.queue = [] ∧ t.samples = [] ∧
      (∀ c, t.gates c = gatesOff) ∧ t.attn = false ∧ (∀ c, t.pulse? c = none) ∧
      (∀ b, (t.bay b).pendingTag = none ∧ (t.bay b).takeWindow = none ∧ (t.bay b).tagWindow = none ∧
        (t.bay b).deadline = .stopped ∧ (t.bay b).retryDelay = none)) ∧
    (s.mainPower = true → ∃ t, exec .mainPowerLoss s = .next t ∧ t.scanSlot = 0 ∧
      (∀ b : BayIx, t.chain[b] = ⟨none, false⟩ ∧ t.selectBits b = [false, false, false, false])) ∧
    (s.mainPower = false → (∀ c, s.gates c = gatesOff) ∧ (∀ b, s.selectBits b = [false, false, false, false]) ∧
      s.attn = false ∧ (∀ x, exec (.byteReceived x) s = .next s) ∧
      (∀ c n, exec (.currentConversion c n) s = .next s) ∧ (∀ n, exec (.batteryConversion n) s = .next s) ∧
      (∀ i, reachesStoppedPart i = false → exec i s = .next s)) ∧
    (s.mainPower = false → exec .mainPowerLoss s = .next s) ∧
    (s.mainPower = true → exec .backupSupplyLoss s = .next s) ∧
    (s.mainPower = false → ∃ t, exec .backupSupplyLoss s = .next t ∧ t.backupValid = false ∧ t.mainPower = false ∧
      t.clock = ⟨0, 0, 0, false, false⟩ ∧ t.settings = ⟨5, 30, 20, 8, 20, 4⟩ ∧
      t.latchProfile = ⟨1000, 60, 600, 400, 1800, 20, 30, 20⟩ ∧ t.unlatchProfile = ⟨1000, 80, 700, 500, 2000, 20, 30, 20⟩ ∧
      t.thresholds = ⟨11600, 12000, 11000, 11400, 9800, 10600⟩ ∧ t.highWaterArmed = true ∧ (∀ k : Fin 4, t.keys[k] = none) ∧ (∀ p : Fin 3, t.tariffs[p] = none) ∧
      t.deny = [] ∧ t.spent = [] ∧ t.journal = [] ∧ t.heldOrder = [] ∧ (∀ k : Fin 64, t.rentals[k] = none) ∧
      (∀ b, (t.bay b).identity = none ∧ (t.bay b).arrival = none ∧ (t.bay b).processed = false ∧ (t.bay b).held = none ∧
        (t.bay b).link = .unlinked ∧ (t.bay b).alarms = ⟨false, false, false, false⟩))

/-- The return of main power is a warm restart with cause RESUME, or a cold reset without the backup (log 17) (R3, R31, R86, R109, R137, R160, R162, R176, R178, R196). -/
def Obligations.PowerReturnRestartsThePart : Prop :=
  ∀ (s : State) (w : SenseWord),
    (s.mainPower = true → exec (.mainPowerReturn w) s = .next s) ∧
    (s.mainPower = false → s.backupValid = true → s.resetHeld = false →
      ∃ t, exec (.mainPowerReturn w) s = .next t ∧ WarmlyRestarted .resume w s t ∧ t.mainPower = true ∧ t.ms = 0 ∧ t.scanSlot = 0) ∧
    (s.mainPower = false → (s.backupValid = false ∨ s.resetHeld = true) →
      ∃ t, exec (.mainPowerReturn w) s = .next t ∧ ColdlyReset w t ∧ t.mainPower = true ∧ t.resetHeld = s.resetHeld ∧ t.scanSlot = 0)
end

