-- ==== Sys2Proof/Laws/State.lean ====
section
/-! SUPPORT. One lemma for each field of the state under each update of the operations, so that no later proof unfolds a
record update; then how the one item an update writes is read back. -/

namespace Sys2Proof.Machine

/-! ### postBay -/

@[simp] theorem State.postBay_mainPower (s : State) (b : BayIx) (c : BayCause) : (s.postBay b c).mainPower = s.mainPower := rfl
@[simp] theorem State.postBay_resetHeld (s : State) (b : BayIx) (c : BayCause) : (s.postBay b c).resetHeld = s.resetHeld := rfl
@[simp] theorem State.postBay_backupValid (s : State) (b : BayIx) (c : BayCause) : (s.postBay b c).backupValid = s.backupValid := rfl
@[simp] theorem State.postBay_ms (s : State) (b : BayIx) (c : BayCause) : (s.postBay b c).ms = s.ms := rfl
@[simp] theorem State.postBay_msRemainder (s : State) (b : BayIx) (c : BayCause) : (s.postBay b c).msRemainder = s.msRemainder := rfl
@[simp] theorem State.postBay_refreshDue (s : State) (b : BayIx) (c : BayCause) : (s.postBay b c).refreshDue = s.refreshDue := rfl
@[simp] theorem State.postBay_evaluationDue (s : State) (b : BayIx) (c : BayCause) : (s.postBay b c).evaluationDue = s.evaluationDue := rfl
@[simp] theorem State.postBay_clock (s : State) (b : BayIx) (c : BayCause) : (s.postBay b c).clock = s.clock := rfl
@[simp] theorem State.postBay_settings (s : State) (b : BayIx) (c : BayCause) : (s.postBay b c).settings = s.settings := rfl
@[simp] theorem State.postBay_keys (s : State) (b : BayIx) (c : BayCause) : (s.postBay b c).keys = s.keys := rfl
@[simp] theorem State.postBay_tariffs (s : State) (b : BayIx) (c : BayCause) : (s.postBay b c).tariffs = s.tariffs := rfl
@[simp] theorem State.postBay_deny (s : State) (b : BayIx) (c : BayCause) : (s.postBay b c).deny = s.deny := rfl
@[simp] theorem State.postBay_spent (s : State) (b : BayIx) (c : BayCause) : (s.postBay b c).spent = s.spent := rfl
@[simp] theorem State.postBay_rentals (s : State) (b : BayIx) (c : BayCause) : (s.postBay b c).rentals = s.rentals := rfl
@[simp] theorem State.postBay_journal (s : State) (b : BayIx) (c : BayCause) : (s.postBay b c).journal = s.journal := rfl
@[simp] theorem State.postBay_cursor (s : State) (b : BayIx) (c : BayCause) : (s.postBay b c).cursor = s.cursor := rfl
@[simp] theorem State.postBay_heldOrder (s : State) (b : BayIx) (c : BayCause) : (s.postBay b c).heldOrder = s.heldOrder := rfl
@[simp] theorem State.postBay_highWaterArmed (s : State) (b : BayIx) (c : BayCause) : (s.postBay b c).highWaterArmed = s.highWaterArmed := rfl
@[simp] theorem State.postBay_bays (s : State) (b : BayIx) (c : BayCause) : (s.postBay b c).bays = s.bays := rfl
@[simp] theorem State.postBay_queue (s : State) (b : BayIx) (c : BayCause) : (s.postBay b c).queue = s.queue := rfl
@[simp] theorem State.postBay_nextOrder (s : State) (b : BayIx) (c : BayCause) : (s.postBay b c).nextOrder = s.nextOrder := rfl
@[simp] theorem State.postBay_channels (s : State) (b : BayIx) (c : BayCause) : (s.postBay b c).channels = s.channels := rfl
@[simp] theorem State.postBay_latchProfile (s : State) (b : BayIx) (c : BayCause) : (s.postBay b c).latchProfile = s.latchProfile := rfl
@[simp] theorem State.postBay_unlatchProfile (s : State) (b : BayIx) (c : BayCause) : (s.postBay b c).unlatchProfile = s.unlatchProfile := rfl
@[simp] theorem State.postBay_chain (s : State) (b : BayIx) (c : BayCause) : (s.postBay b c).chain = s.chain := rfl
@[simp] theorem State.postBay_scanSlot (s : State) (b : BayIx) (c : BayCause) : (s.postBay b c).scanSlot = s.scanSlot := rfl
@[simp] theorem State.postBay_currents (s : State) (b : BayIx) (c : BayCause) : (s.postBay b c).currents = s.currents := rfl
@[simp] theorem State.postBay_battery (s : State) (b : BayIx) (c : BayCause) : (s.postBay b c).battery = s.battery := rfl
@[simp] theorem State.postBay_samples (s : State) (b : BayIx) (c : BayCause) : (s.postBay b c).samples = s.samples := rfl
@[simp] theorem State.postBay_rejections (s : State) (b : BayIx) (c : BayCause) : (s.postBay b c).rejections = s.rejections := rfl
@[simp] theorem State.postBay_band (s : State) (b : BayIx) (c : BayCause) : (s.postBay b c).band = s.band := rfl
@[simp] theorem State.postBay_thresholds (s : State) (b : BayIx) (c : BayCause) : (s.postBay b c).thresholds = s.thresholds := rfl
@[simp] theorem State.postBay_rx (s : State) (b : BayIx) (c : BayCause) : (s.postBay b c).rx = s.rx := rfl
@[simp] theorem State.postBay_reply (s : State) (b : BayIx) (c : BayCause) : (s.postBay b c).reply = s.reply := rfl
@[simp] theorem State.postBay_freeIndex (s : State) (b : BayIx) (c : BayCause) : (s.postBay b c).freeIndex = s.freeIndex := rfl
@[simp] theorem State.postBay_pending (s : State) (b : BayIx) (c : BayCause) : (s.postBay b c).pending = s.pending := rfl

/-! ### postBand -/

@[simp] theorem State.postBand_mainPower (s : State) : (s.postBand).mainPower = s.mainPower := rfl
@[simp] theorem State.postBand_resetHeld (s : State) : (s.postBand).resetHeld = s.resetHeld := rfl
@[simp] theorem State.postBand_backupValid (s : State) : (s.postBand).backupValid = s.backupValid := rfl
@[simp] theorem State.postBand_ms (s : State) : (s.postBand).ms = s.ms := rfl
@[simp] theorem State.postBand_msRemainder (s : State) : (s.postBand).msRemainder = s.msRemainder := rfl
@[simp] theorem State.postBand_refreshDue (s : State) : (s.postBand).refreshDue = s.refreshDue := rfl
@[simp] theorem State.postBand_evaluationDue (s : State) : (s.postBand).evaluationDue = s.evaluationDue := rfl
@[simp] theorem State.postBand_clock (s : State) : (s.postBand).clock = s.clock := rfl
@[simp] theorem State.postBand_settings (s : State) : (s.postBand).settings = s.settings := rfl
@[simp] theorem State.postBand_keys (s : State) : (s.postBand).keys = s.keys := rfl
@[simp] theorem State.postBand_tariffs (s : State) : (s.postBand).tariffs = s.tariffs := rfl
@[simp] theorem State.postBand_deny (s : State) : (s.postBand).deny = s.deny := rfl
@[simp] theorem State.postBand_spent (s : State) : (s.postBand).spent = s.spent := rfl
@[simp] theorem State.postBand_rentals (s : State) : (s.postBand).rentals = s.rentals := rfl
@[simp] theorem State.postBand_journal (s : State) : (s.postBand).journal = s.journal := rfl
@[simp] theorem State.postBand_cursor (s : State) : (s.postBand).cursor = s.cursor := rfl
@[simp] theorem State.postBand_heldOrder (s : State) : (s.postBand).heldOrder = s.heldOrder := rfl
@[simp] theorem State.postBand_highWaterArmed (s : State) : (s.postBand).highWaterArmed = s.highWaterArmed := rfl
@[simp] theorem State.postBand_bays (s : State) : (s.postBand).bays = s.bays := rfl
@[simp] theorem State.postBand_queue (s : State) : (s.postBand).queue = s.queue := rfl
@[simp] theorem State.postBand_nextOrder (s : State) : (s.postBand).nextOrder = s.nextOrder := rfl
@[simp] theorem State.postBand_channels (s : State) : (s.postBand).channels = s.channels := rfl
@[simp] theorem State.postBand_latchProfile (s : State) : (s.postBand).latchProfile = s.latchProfile := rfl
@[simp] theorem State.postBand_unlatchProfile (s : State) : (s.postBand).unlatchProfile = s.unlatchProfile := rfl
@[simp] theorem State.postBand_chain (s : State) : (s.postBand).chain = s.chain := rfl
@[simp] theorem State.postBand_scanSlot (s : State) : (s.postBand).scanSlot = s.scanSlot := rfl
@[simp] theorem State.postBand_currents (s : State) : (s.postBand).currents = s.currents := rfl
@[simp] theorem State.postBand_battery (s : State) : (s.postBand).battery = s.battery := rfl
@[simp] theorem State.postBand_samples (s : State) : (s.postBand).samples = s.samples := rfl
@[simp] theorem State.postBand_rejections (s : State) : (s.postBand).rejections = s.rejections := rfl
@[simp] theorem State.postBand_band (s : State) : (s.postBand).band = s.band := rfl
@[simp] theorem State.postBand_thresholds (s : State) : (s.postBand).thresholds = s.thresholds := rfl
@[simp] theorem State.postBand_rx (s : State) : (s.postBand).rx = s.rx := rfl
@[simp] theorem State.postBand_reply (s : State) : (s.postBand).reply = s.reply := rfl
@[simp] theorem State.postBand_freeIndex (s : State) : (s.postBand).freeIndex = s.freeIndex := rfl
@[simp] theorem State.postBand_pending (s : State) : (s.postBand).pending = s.pending := rfl

/-! ### postJournalHigh -/

@[simp] theorem State.postJournalHigh_mainPower (s : State) : (s.postJournalHigh).mainPower = s.mainPower := rfl
@[simp] theorem State.postJournalHigh_resetHeld (s : State) : (s.postJournalHigh).resetHeld = s.resetHeld := rfl
@[simp] theorem State.postJournalHigh_backupValid (s : State) : (s.postJournalHigh).backupValid = s.backupValid := rfl
@[simp] theorem State.postJournalHigh_ms (s : State) : (s.postJournalHigh).ms = s.ms := rfl
@[simp] theorem State.postJournalHigh_msRemainder (s : State) : (s.postJournalHigh).msRemainder = s.msRemainder := rfl
@[simp] theorem State.postJournalHigh_refreshDue (s : State) : (s.postJournalHigh).refreshDue = s.refreshDue := rfl
@[simp] theorem State.postJournalHigh_evaluationDue (s : State) : (s.postJournalHigh).evaluationDue = s.evaluationDue := rfl
@[simp] theorem State.postJournalHigh_clock (s : State) : (s.postJournalHigh).clock = s.clock := rfl
@[simp] theorem State.postJournalHigh_settings (s : State) : (s.postJournalHigh).settings = s.settings := rfl
@[simp] theorem State.postJournalHigh_keys (s : State) : (s.postJournalHigh).keys = s.keys := rfl
@[simp] theorem State.postJournalHigh_tariffs (s : State) : (s.postJournalHigh).tariffs = s.tariffs := rfl
@[simp] theorem State.postJournalHigh_deny (s : State) : (s.postJournalHigh).deny = s.deny := rfl
@[simp] theorem State.postJournalHigh_spent (s : State) : (s.postJournalHigh).spent = s.spent := rfl
@[simp] theorem State.postJournalHigh_rentals (s : State) : (s.postJournalHigh).rentals = s.rentals := rfl
@[simp] theorem State.postJournalHigh_journal (s : State) : (s.postJournalHigh).journal = s.journal := rfl
@[simp] theorem State.postJournalHigh_cursor (s : State) : (s.postJournalHigh).cursor = s.cursor := rfl
@[simp] theorem State.postJournalHigh_heldOrder (s : State) : (s.postJournalHigh).heldOrder = s.heldOrder := rfl
@[simp] theorem State.postJournalHigh_highWaterArmed (s : State) : (s.postJournalHigh).highWaterArmed = s.highWaterArmed := rfl
@[simp] theorem State.postJournalHigh_bays (s : State) : (s.postJournalHigh).bays = s.bays := rfl
@[simp] theorem State.postJournalHigh_queue (s : State) : (s.postJournalHigh).queue = s.queue := rfl
@[simp] theorem State.postJournalHigh_nextOrder (s : State) : (s.postJournalHigh).nextOrder = s.nextOrder := rfl
@[simp] theorem State.postJournalHigh_channels (s : State) : (s.postJournalHigh).channels = s.channels := rfl
@[simp] theorem State.postJournalHigh_latchProfile (s : State) : (s.postJournalHigh).latchProfile = s.latchProfile := rfl
@[simp] theorem State.postJournalHigh_unlatchProfile (s : State) : (s.postJournalHigh).unlatchProfile = s.unlatchProfile := rfl
@[simp] theorem State.postJournalHigh_chain (s : State) : (s.postJournalHigh).chain = s.chain := rfl
@[simp] theorem State.postJournalHigh_scanSlot (s : State) : (s.postJournalHigh).scanSlot = s.scanSlot := rfl
@[simp] theorem State.postJournalHigh_currents (s : State) : (s.postJournalHigh).currents = s.currents := rfl
@[simp] theorem State.postJournalHigh_battery (s : State) : (s.postJournalHigh).battery = s.battery := rfl
@[simp] theorem State.postJournalHigh_samples (s : State) : (s.postJournalHigh).samples = s.samples := rfl
@[simp] theorem State.postJournalHigh_rejections (s : State) : (s.postJournalHigh).rejections = s.rejections := rfl
@[simp] theorem State.postJournalHigh_band (s : State) : (s.postJournalHigh).band = s.band := rfl
@[simp] theorem State.postJournalHigh_thresholds (s : State) : (s.postJournalHigh).thresholds = s.thresholds := rfl
@[simp] theorem State.postJournalHigh_rx (s : State) : (s.postJournalHigh).rx = s.rx := rfl
@[simp] theorem State.postJournalHigh_reply (s : State) : (s.postJournalHigh).reply = s.reply := rfl
@[simp] theorem State.postJournalHigh_freeIndex (s : State) : (s.postJournalHigh).freeIndex = s.freeIndex := rfl
@[simp] theorem State.postJournalHigh_pending (s : State) : (s.postJournalHigh).pending = s.pending := rfl

/-! ### postChannel -/

@[simp] theorem State.postChannel_mainPower (s : State) : (s.postChannel).mainPower = s.mainPower := rfl
@[simp] theorem State.postChannel_resetHeld (s : State) : (s.postChannel).resetHeld = s.resetHeld := rfl
@[simp] theorem State.postChannel_backupValid (s : State) : (s.postChannel).backupValid = s.backupValid := rfl
@[simp] theorem State.postChannel_ms (s : State) : (s.postChannel).ms = s.ms := rfl
@[simp] theorem State.postChannel_msRemainder (s : State) : (s.postChannel).msRemainder = s.msRemainder := rfl
@[simp] theorem State.postChannel_refreshDue (s : State) : (s.postChannel).refreshDue = s.refreshDue := rfl
@[simp] theorem State.postChannel_evaluationDue (s : State) : (s.postChannel).evaluationDue = s.evaluationDue := rfl
@[simp] theorem State.postChannel_clock (s : State) : (s.postChannel).clock = s.clock := rfl
@[simp] theorem State.postChannel_settings (s : State) : (s.postChannel).settings = s.settings := rfl
@[simp] theorem State.postChannel_keys (s : State) : (s.postChannel).keys = s.keys := rfl
@[simp] theorem State.postChannel_tariffs (s : State) : (s.postChannel).tariffs = s.tariffs := rfl
@[simp] theorem State.postChannel_deny (s : State) : (s.postChannel).deny = s.deny := rfl
@[simp] theorem State.postChannel_spent (s : State) : (s.postChannel).spent = s.spent := rfl
@[simp] theorem State.postChannel_rentals (s : State) : (s.postChannel).rentals = s.rentals := rfl
@[simp] theorem State.postChannel_journal (s : State) : (s.postChannel).journal = s.journal := rfl
@[simp] theorem State.postChannel_cursor (s : State) : (s.postChannel).cursor = s.cursor := rfl
@[simp] theorem State.postChannel_heldOrder (s : State) : (s.postChannel).heldOrder = s.heldOrder := rfl
@[simp] theorem State.postChannel_highWaterArmed (s : State) : (s.postChannel).highWaterArmed = s.highWaterArmed := rfl
@[simp] theorem State.postChannel_bays (s : State) : (s.postChannel).bays = s.bays := rfl
@[simp] theorem State.postChannel_queue (s : State) : (s.postChannel).queue = s.queue := rfl
@[simp] theorem State.postChannel_nextOrder (s : State) : (s.postChannel).nextOrder = s.nextOrder := rfl
@[simp] theorem State.postChannel_channels (s : State) : (s.postChannel).channels = s.channels := rfl
@[simp] theorem State.postChannel_latchProfile (s : State) : (s.postChannel).latchProfile = s.latchProfile := rfl
@[simp] theorem State.postChannel_unlatchProfile (s : State) : (s.postChannel).unlatchProfile = s.unlatchProfile := rfl
@[simp] theorem State.postChannel_chain (s : State) : (s.postChannel).chain = s.chain := rfl
@[simp] theorem State.postChannel_scanSlot (s : State) : (s.postChannel).scanSlot = s.scanSlot := rfl
@[simp] theorem State.postChannel_currents (s : State) : (s.postChannel).currents = s.currents := rfl
@[simp] theorem State.postChannel_battery (s : State) : (s.postChannel).battery = s.battery := rfl
@[simp] theorem State.postChannel_samples (s : State) : (s.postChannel).samples = s.samples := rfl
@[simp] theorem State.postChannel_rejections (s : State) : (s.postChannel).rejections = s.rejections := rfl
@[simp] theorem State.postChannel_band (s : State) : (s.postChannel).band = s.band := rfl
@[simp] theorem State.postChannel_thresholds (s : State) : (s.postChannel).thresholds = s.thresholds := rfl
@[simp] theorem State.postChannel_rx (s : State) : (s.postChannel).rx = s.rx := rfl
@[simp] theorem State.postChannel_reply (s : State) : (s.postChannel).reply = s.reply := rfl
@[simp] theorem State.postChannel_freeIndex (s : State) : (s.postChannel).freeIndex = s.freeIndex := rfl
@[simp] theorem State.postChannel_pending (s : State) : (s.postChannel).pending = s.pending := rfl

/-! ### modBay -/

@[simp] theorem State.modBay_mainPower (s : State) (b : BayIx) (f : Bay → Bay) : (s.modBay b f).mainPower = s.mainPower := rfl
@[simp] theorem State.modBay_resetHeld (s : State) (b : BayIx) (f : Bay → Bay) : (s.modBay b f).resetHeld = s.resetHeld := rfl
@[simp] theorem State.modBay_backupValid (s : State) (b : BayIx) (f : Bay → Bay) : (s.modBay b f).backupValid = s.backupValid := rfl
@[simp] theorem State.modBay_ms (s : State) (b : BayIx) (f : Bay → Bay) : (s.modBay b f).ms = s.ms := rfl
@[simp] theorem State.modBay_msRemainder (s : State) (b : BayIx) (f : Bay → Bay) : (s.modBay b f).msRemainder = s.msRemainder := rfl
@[simp] theorem State.modBay_refreshDue (s : State) (b : BayIx) (f : Bay → Bay) : (s.modBay b f).refreshDue = s.refreshDue := rfl
@[simp] theorem State.modBay_evaluationDue (s : State) (b : BayIx) (f : Bay → Bay) : (s.modBay b f).evaluationDue = s.evaluationDue := rfl
@[simp] theorem State.modBay_clock (s : State) (b : BayIx) (f : Bay → Bay) : (s.modBay b f).clock = s.clock := rfl
@[simp] theorem State.modBay_settings (s : State) (b : BayIx) (f : Bay → Bay) : (s.modBay b f).settings = s.settings := rfl
@[simp] theorem State.modBay_keys (s : State) (b : BayIx) (f : Bay → Bay) : (s.modBay b f).keys = s.keys := rfl
@[simp] theorem State.modBay_tariffs (s : State) (b : BayIx) (f : Bay → Bay) : (s.modBay b f).tariffs = s.tariffs := rfl
@[simp] theorem State.modBay_deny (s : State) (b : BayIx) (f : Bay → Bay) : (s.modBay b f).deny = s.deny := rfl
@[simp] theorem State.modBay_spent (s : State) (b : BayIx) (f : Bay → Bay) : (s.modBay b f).spent = s.spent := rfl
@[simp] theorem State.modBay_rentals (s : State) (b : BayIx) (f : Bay → Bay) : (s.modBay b f).rentals = s.rentals := rfl
@[simp] theorem State.modBay_journal (s : State) (b : BayIx) (f : Bay → Bay) : (s.modBay b f).journal = s.journal := rfl
@[simp] theorem State.modBay_cursor (s : State) (b : BayIx) (f : Bay → Bay) : (s.modBay b f).cursor = s.cursor := rfl
@[simp] theorem State.modBay_heldOrder (s : State) (b : BayIx) (f : Bay → Bay) : (s.modBay b f).heldOrder = s.heldOrder := rfl
@[simp] theorem State.modBay_highWaterArmed (s : State) (b : BayIx) (f : Bay → Bay) : (s.modBay b f).highWaterArmed = s.highWaterArmed := rfl
@[simp] theorem State.modBay_queue (s : State) (b : BayIx) (f : Bay → Bay) : (s.modBay b f).queue = s.queue := rfl
@[simp] theorem State.modBay_nextOrder (s : State) (b : BayIx) (f : Bay → Bay) : (s.modBay b f).nextOrder = s.nextOrder := rfl
@[simp] theorem State.modBay_channels (s : State) (b : BayIx) (f : Bay → Bay) : (s.modBay b f).channels = s.channels := rfl
@[simp] theorem State.modBay_latchProfile (s : State) (b : BayIx) (f : Bay → Bay) : (s.modBay b f).latchProfile = s.latchProfile := rfl
@[simp] theorem State.modBay_unlatchProfile (s : State) (b : BayIx) (f : Bay → Bay) : (s.modBay b f).unlatchProfile = s.unlatchProfile := rfl
@[simp] theorem State.modBay_chain (s : State) (b : BayIx) (f : Bay → Bay) : (s.modBay b f).chain = s.chain := rfl
@[simp] theorem State.modBay_scanSlot (s : State) (b : BayIx) (f : Bay → Bay) : (s.modBay b f).scanSlot = s.scanSlot := rfl
@[simp] theorem State.modBay_currents (s : State) (b : BayIx) (f : Bay → Bay) : (s.modBay b f).currents = s.currents := rfl
@[simp] theorem State.modBay_battery (s : State) (b : BayIx) (f : Bay → Bay) : (s.modBay b f).battery = s.battery := rfl
@[simp] theorem State.modBay_samples (s : State) (b : BayIx) (f : Bay → Bay) : (s.modBay b f).samples = s.samples := rfl
@[simp] theorem State.modBay_rejections (s : State) (b : BayIx) (f : Bay → Bay) : (s.modBay b f).rejections = s.rejections := rfl
@[simp] theorem State.modBay_band (s : State) (b : BayIx) (f : Bay → Bay) : (s.modBay b f).band = s.band := rfl
@[simp] theorem State.modBay_thresholds (s : State) (b : BayIx) (f : Bay → Bay) : (s.modBay b f).thresholds = s.thresholds := rfl
@[simp] theorem State.modBay_rx (s : State) (b : BayIx) (f : Bay → Bay) : (s.modBay b f).rx = s.rx := rfl
@[simp] theorem State.modBay_reply (s : State) (b : BayIx) (f : Bay → Bay) : (s.modBay b f).reply = s.reply := rfl
@[simp] theorem State.modBay_changes (s : State) (b : BayIx) (f : Bay → Bay) : (s.modBay b f).changes = s.changes := rfl
@[simp] theorem State.modBay_freeIndex (s : State) (b : BayIx) (f : Bay → Bay) : (s.modBay b f).freeIndex = s.freeIndex := rfl
@[simp] theorem State.modBay_pending (s : State) (b : BayIx) (f : Bay → Bay) : (s.modBay b f).pending = s.pending := rfl

/-! ### setRental -/

@[simp] theorem State.setRental_mainPower (s : State) (k : Fin 64) (r : Option Rental) : (s.setRental k r).mainPower = s.mainPower := rfl
@[simp] theorem State.setRental_resetHeld (s : State) (k : Fin 64) (r : Option Rental) : (s.setRental k r).resetHeld = s.resetHeld := rfl
@[simp] theorem State.setRental_backupValid (s : State) (k : Fin 64) (r : Option Rental) : (s.setRental k r).backupValid = s.backupValid := rfl
@[simp] theorem State.setRental_ms (s : State) (k : Fin 64) (r : Option Rental) : (s.setRental k r).ms = s.ms := rfl
@[simp] theorem State.setRental_msRemainder (s : State) (k : Fin 64) (r : Option Rental) : (s.setRental k r).msRemainder = s.msRemainder := rfl
@[simp] theorem State.setRental_refreshDue (s : State) (k : Fin 64) (r : Option Rental) : (s.setRental k r).refreshDue = s.refreshDue := rfl
@[simp] theorem State.setRental_evaluationDue (s : State) (k : Fin 64) (r : Option Rental) : (s.setRental k r).evaluationDue = s.evaluationDue := rfl
@[simp] theorem State.setRental_clock (s : State) (k : Fin 64) (r : Option Rental) : (s.setRental k r).clock = s.clock := rfl
@[simp] theorem State.setRental_settings (s : State) (k : Fin 64) (r : Option Rental) : (s.setRental k r).settings = s.settings := rfl
@[simp] theorem State.setRental_keys (s : State) (k : Fin 64) (r : Option Rental) : (s.setRental k r).keys = s.keys := rfl
@[simp] theorem State.setRental_tariffs (s : State) (k : Fin 64) (r : Option Rental) : (s.setRental k r).tariffs = s.tariffs := rfl
@[simp] theorem State.setRental_deny (s : State) (k : Fin 64) (r : Option Rental) : (s.setRental k r).deny = s.deny := rfl
@[simp] theorem State.setRental_spent (s : State) (k : Fin 64) (r : Option Rental) : (s.setRental k r).spent = s.spent := rfl
@[simp] theorem State.setRental_journal (s : State) (k : Fin 64) (r : Option Rental) : (s.setRental k r).journal = s.journal := rfl
@[simp] theorem State.setRental_cursor (s : State) (k : Fin 64) (r : Option Rental) : (s.setRental k r).cursor = s.cursor := rfl
@[simp] theorem State.setRental_heldOrder (s : State) (k : Fin 64) (r : Option Rental) : (s.setRental k r).heldOrder = s.heldOrder := rfl
@[simp] theorem State.setRental_highWaterArmed (s : State) (k : Fin 64) (r : Option Rental) : (s.setRental k r).highWaterArmed = s.highWaterArmed := rfl
@[simp] theorem State.setRental_bays (s : State) (k : Fin 64) (r : Option Rental) : (s.setRental k r).bays = s.bays := rfl
@[simp] theorem State.setRental_queue (s : State) (k : Fin 64) (r : Option Rental) : (s.setRental k r).queue = s.queue := rfl
@[simp] theorem State.setRental_nextOrder (s : State) (k : Fin 64) (r : Option Rental) : (s.setRental k r).nextOrder = s.nextOrder := rfl
@[simp] theorem State.setRental_channels (s : State) (k : Fin 64) (r : Option Rental) : (s.setRental k r).channels = s.channels := rfl
@[simp] theorem State.setRental_latchProfile (s : State) (k : Fin 64) (r : Option Rental) : (s.setRental k r).latchProfile = s.latchProfile := rfl
@[simp] theorem State.setRental_unlatchProfile (s : State) (k : Fin 64) (r : Option Rental) : (s.setRental k r).unlatchProfile = s.unlatchProfile := rfl
@[simp] theorem State.setRental_chain (s : State) (k : Fin 64) (r : Option Rental) : (s.setRental k r).chain = s.chain := rfl
@[simp] theorem State.setRental_scanSlot (s : State) (k : Fin 64) (r : Option Rental) : (s.setRental k r).scanSlot = s.scanSlot := rfl
@[simp] theorem State.setRental_currents (s : State) (k : Fin 64) (r : Option Rental) : (s.setRental k r).currents = s.currents := rfl
@[simp] theorem State.setRental_battery (s : State) (k : Fin 64) (r : Option Rental) : (s.setRental k r).battery = s.battery := rfl
@[simp] theorem State.setRental_samples (s : State) (k : Fin 64) (r : Option Rental) : (s.setRental k r).samples = s.samples := rfl
@[simp] theorem State.setRental_rejections (s : State) (k : Fin 64) (r : Option Rental) : (s.setRental k r).rejections = s.rejections := rfl
@[simp] theorem State.setRental_band (s : State) (k : Fin 64) (r : Option Rental) : (s.setRental k r).band = s.band := rfl
@[simp] theorem State.setRental_thresholds (s : State) (k : Fin 64) (r : Option Rental) : (s.setRental k r).thresholds = s.thresholds := rfl
@[simp] theorem State.setRental_rx (s : State) (k : Fin 64) (r : Option Rental) : (s.setRental k r).rx = s.rx := rfl
@[simp] theorem State.setRental_reply (s : State) (k : Fin 64) (r : Option Rental) : (s.setRental k r).reply = s.reply := rfl
@[simp] theorem State.setRental_changes (s : State) (k : Fin 64) (r : Option Rental) : (s.setRental k r).changes = s.changes := rfl
@[simp] theorem State.setRental_freeIndex (s : State) (k : Fin 64) (r : Option Rental) : (s.setRental k r).freeIndex = s.freeIndex := rfl
@[simp] theorem State.setRental_pending (s : State) (k : Fin 64) (r : Option Rental) : (s.setRental k r).pending = s.pending := rfl

/-! ### setChannel -/

@[simp] theorem State.setChannel_mainPower (s : State) (c : Fin 4) (x : Channel) : (s.setChannel c x).mainPower = s.mainPower := rfl
@[simp] theorem State.setChannel_resetHeld (s : State) (c : Fin 4) (x : Channel) : (s.setChannel c x).resetHeld = s.resetHeld := rfl
@[simp] theorem State.setChannel_backupValid (s : State) (c : Fin 4) (x : Channel) : (s.setChannel c x).backupValid = s.backupValid := rfl
@[simp] theorem State.setChannel_ms (s : State) (c : Fin 4) (x : Channel) : (s.setChannel c x).ms = s.ms := rfl
@[simp] theorem State.setChannel_msRemainder (s : State) (c : Fin 4) (x : Channel) : (s.setChannel c x).msRemainder = s.msRemainder := rfl
@[simp] theorem State.setChannel_refreshDue (s : State) (c : Fin 4) (x : Channel) : (s.setChannel c x).refreshDue = s.refreshDue := rfl
@[simp] theorem State.setChannel_evaluationDue (s : State) (c : Fin 4) (x : Channel) : (s.setChannel c x).evaluationDue = s.evaluationDue := rfl
@[simp] theorem State.setChannel_clock (s : State) (c : Fin 4) (x : Channel) : (s.setChannel c x).clock = s.clock := rfl
@[simp] theorem State.setChannel_settings (s : State) (c : Fin 4) (x : Channel) : (s.setChannel c x).settings = s.settings := rfl
@[simp] theorem State.setChannel_keys (s : State) (c : Fin 4) (x : Channel) : (s.setChannel c x).keys = s.keys := rfl
@[simp] theorem State.setChannel_tariffs (s : State) (c : Fin 4) (x : Channel) : (s.setChannel c x).tariffs = s.tariffs := rfl
@[simp] theorem State.setChannel_deny (s : State) (c : Fin 4) (x : Channel) : (s.setChannel c x).deny = s.deny := rfl
@[simp] theorem State.setChannel_spent (s : State) (c : Fin 4) (x : Channel) : (s.setChannel c x).spent = s.spent := rfl
@[simp] theorem State.setChannel_rentals (s : State) (c : Fin 4) (x : Channel) : (s.setChannel c x).rentals = s.rentals := rfl
@[simp] theorem State.setChannel_journal (s : State) (c : Fin 4) (x : Channel) : (s.setChannel c x).journal = s.journal := rfl
@[simp] theorem State.setChannel_cursor (s : State) (c : Fin 4) (x : Channel) : (s.setChannel c x).cursor = s.cursor := rfl
@[simp] theorem State.setChannel_heldOrder (s : State) (c : Fin 4) (x : Channel) : (s.setChannel c x).heldOrder = s.heldOrder := rfl
@[simp] theorem State.setChannel_highWaterArmed (s : State) (c : Fin 4) (x : Channel) : (s.setChannel c x).highWaterArmed = s.highWaterArmed := rfl
@[simp] theorem State.setChannel_bays (s : State) (c : Fin 4) (x : Channel) : (s.setChannel c x).bays = s.bays := rfl
@[simp] theorem State.setChannel_queue (s : State) (c : Fin 4) (x : Channel) : (s.setChannel c x).queue = s.queue := rfl
@[simp] theorem State.setChannel_nextOrder (s : State) (c : Fin 4) (x : Channel) : (s.setChannel c x).nextOrder = s.nextOrder := rfl
@[simp] theorem State.setChannel_latchProfile (s : State) (c : Fin 4) (x : Channel) : (s.setChannel c x).latchProfile = s.latchProfile := rfl
@[simp] theorem State.setChannel_unlatchProfile (s : State) (c : Fin 4) (x : Channel) : (s.setChannel c x).unlatchProfile = s.unlatchProfile := rfl
@[simp] theorem State.setChannel_chain (s : State) (c : Fin 4) (x : Channel) : (s.setChannel c x).chain = s.chain := rfl
@[simp] theorem State.setChannel_scanSlot (s : State) (c : Fin 4) (x : Channel) : (s.setChannel c x).scanSlot = s.scanSlot := rfl
@[simp] theorem State.setChannel_currents (s : State) (c : Fin 4) (x : Channel) : (s.setChannel c x).currents = s.currents := rfl
@[simp] theorem State.setChannel_battery (s : State) (c : Fin 4) (x : Channel) : (s.setChannel c x).battery = s.battery := rfl
@[simp] theorem State.setChannel_samples (s : State) (c : Fin 4) (x : Channel) : (s.setChannel c x).samples = s.samples := rfl
@[simp] theorem State.setChannel_rejections (s : State) (c : Fin 4) (x : Channel) : (s.setChannel c x).rejections = s.rejections := rfl
@[simp] theorem State.setChannel_band (s : State) (c : Fin 4) (x : Channel) : (s.setChannel c x).band = s.band := rfl
@[simp] theorem State.setChannel_thresholds (s : State) (c : Fin 4) (x : Channel) : (s.setChannel c x).thresholds = s.thresholds := rfl
@[simp] theorem State.setChannel_rx (s : State) (c : Fin 4) (x : Channel) : (s.setChannel c x).rx = s.rx := rfl
@[simp] theorem State.setChannel_reply (s : State) (c : Fin 4) (x : Channel) : (s.setChannel c x).reply = s.reply := rfl
@[simp] theorem State.setChannel_changes (s : State) (c : Fin 4) (x : Channel) : (s.setChannel c x).changes = s.changes := rfl
@[simp] theorem State.setChannel_freeIndex (s : State) (c : Fin 4) (x : Channel) : (s.setChannel c x).freeIndex = s.freeIndex := rfl
@[simp] theorem State.setChannel_pending (s : State) (c : Fin 4) (x : Channel) : (s.setChannel c x).pending = s.pending := rfl

/-! ### setPulse -/

@[simp] theorem State.setPulse_mainPower (s : State) (c : Fin 4) (p : Pulse) : (s.setPulse c p).mainPower = s.mainPower := rfl
@[simp] theorem State.setPulse_resetHeld (s : State) (c : Fin 4) (p : Pulse) : (s.setPulse c p).resetHeld = s.resetHeld := rfl
@[simp] theorem State.setPulse_backupValid (s : State) (c : Fin 4) (p : Pulse) : (s.setPulse c p).backupValid = s.backupValid := rfl
@[simp] theorem State.setPulse_ms (s : State) (c : Fin 4) (p : Pulse) : (s.setPulse c p).ms = s.ms := rfl
@[simp] theorem State.setPulse_msRemainder (s : State) (c : Fin 4) (p : Pulse) : (s.setPulse c p).msRemainder = s.msRemainder := rfl
@[simp] theorem State.setPulse_refreshDue (s : State) (c : Fin 4) (p : Pulse) : (s.setPulse c p).refreshDue = s.refreshDue := rfl
@[simp] theorem State.setPulse_evaluationDue (s : State) (c : Fin 4) (p : Pulse) : (s.setPulse c p).evaluationDue = s.evaluationDue := rfl
@[simp] theorem State.setPulse_clock (s : State) (c : Fin 4) (p : Pulse) : (s.setPulse c p).clock = s.clock := rfl
@[simp] theorem State.setPulse_settings (s : State) (c : Fin 4) (p : Pulse) : (s.setPulse c p).settings = s.settings := rfl
@[simp] theorem State.setPulse_keys (s : State) (c : Fin 4) (p : Pulse) : (s.setPulse c p).keys = s.keys := rfl
@[simp] theorem State.setPulse_tariffs (s : State) (c : Fin 4) (p : Pulse) : (s.setPulse c p).tariffs = s.tariffs := rfl
@[simp] theorem State.setPulse_deny (s : State) (c : Fin 4) (p : Pulse) : (s.setPulse c p).deny = s.deny := rfl
@[simp] theorem State.setPulse_spent (s : State) (c : Fin 4) (p : Pulse) : (s.setPulse c p).spent = s.spent := rfl
@[simp] theorem State.setPulse_rentals (s : State) (c : Fin 4) (p : Pulse) : (s.setPulse c p).rentals = s.rentals := rfl
@[simp] theorem State.setPulse_journal (s : State) (c : Fin 4) (p : Pulse) : (s.setPulse c p).journal = s.journal := rfl
@[simp] theorem State.setPulse_cursor (s : State) (c : Fin 4) (p : Pulse) : (s.setPulse c p).cursor = s.cursor := rfl
@[simp] theorem State.setPulse_heldOrder (s : State) (c : Fin 4) (p : Pulse) : (s.setPulse c p).heldOrder = s.heldOrder := rfl
@[simp] theorem State.setPulse_highWaterArmed (s : State) (c : Fin 4) (p : Pulse) : (s.setPulse c p).highWaterArmed = s.highWaterArmed := rfl
@[simp] theorem State.setPulse_bays (s : State) (c : Fin 4) (p : Pulse) : (s.setPulse c p).bays = s.bays := rfl
@[simp] theorem State.setPulse_queue (s : State) (c : Fin 4) (p : Pulse) : (s.setPulse c p).queue = s.queue := rfl
@[simp] theorem State.setPulse_nextOrder (s : State) (c : Fin 4) (p : Pulse) : (s.setPulse c p).nextOrder = s.nextOrder := rfl
@[simp] theorem State.setPulse_latchProfile (s : State) (c : Fin 4) (p : Pulse) : (s.setPulse c p).latchProfile = s.latchProfile := rfl
@[simp] theorem State.setPulse_unlatchProfile (s : State) (c : Fin 4) (p : Pulse) : (s.setPulse c p).unlatchProfile = s.unlatchProfile := rfl
@[simp] theorem State.setPulse_chain (s : State) (c : Fin 4) (p : Pulse) : (s.setPulse c p).chain = s.chain := rfl
@[simp] theorem State.setPulse_scanSlot (s : State) (c : Fin 4) (p : Pulse) : (s.setPulse c p).scanSlot = s.scanSlot := rfl
@[simp] theorem State.setPulse_currents (s : State) (c : Fin 4) (p : Pulse) : (s.setPulse c p).currents = s.currents := rfl
@[simp] theorem State.setPulse_battery (s : State) (c : Fin 4) (p : Pulse) : (s.setPulse c p).battery = s.battery := rfl
@[simp] theorem State.setPulse_samples (s : State) (c : Fin 4) (p : Pulse) : (s.setPulse c p).samples = s.samples := rfl
@[simp] theorem State.setPulse_rejections (s : State) (c : Fin 4) (p : Pulse) : (s.setPulse c p).rejections = s.rejections := rfl
@[simp] theorem State.setPulse_band (s : State) (c : Fin 4) (p : Pulse) : (s.setPulse c p).band = s.band := rfl
@[simp] theorem State.setPulse_thresholds (s : State) (c : Fin 4) (p : Pulse) : (s.setPulse c p).thresholds = s.thresholds := rfl
@[simp] theorem State.setPulse_rx (s : State) (c : Fin 4) (p : Pulse) : (s.setPulse c p).rx = s.rx := rfl
@[simp] theorem State.setPulse_reply (s : State) (c : Fin 4) (p : Pulse) : (s.setPulse c p).reply = s.reply := rfl
@[simp] theorem State.setPulse_changes (s : State) (c : Fin 4) (p : Pulse) : (s.setPulse c p).changes = s.changes := rfl
@[simp] theorem State.setPulse_freeIndex (s : State) (c : Fin 4) (p : Pulse) : (s.setPulse c p).freeIndex = s.freeIndex := rfl
@[simp] theorem State.setPulse_pending (s : State) (c : Fin 4) (p : Pulse) : (s.setPulse c p).pending = s.pending := rfl

/-! ### setKey -/

@[simp] theorem State.setKey_mainPower (s : State) (k : Fin 4) (v : Option (BitVec 128)) : (s.setKey k v).mainPower = s.mainPower := rfl
@[simp] theorem State.setKey_resetHeld (s : State) (k : Fin 4) (v : Option (BitVec 128)) : (s.setKey k v).resetHeld = s.resetHeld := rfl
@[simp] theorem State.setKey_backupValid (s : State) (k : Fin 4) (v : Option (BitVec 128)) : (s.setKey k v).backupValid = s.backupValid := rfl
@[simp] theorem State.setKey_ms (s : State) (k : Fin 4) (v : Option (BitVec 128)) : (s.setKey k v).ms = s.ms := rfl
@[simp] theorem State.setKey_msRemainder (s : State) (k : Fin 4) (v : Option (BitVec 128)) : (s.setKey k v).msRemainder = s.msRemainder := rfl
@[simp] theorem State.setKey_refreshDue (s : State) (k : Fin 4) (v : Option (BitVec 128)) : (s.setKey k v).refreshDue = s.refreshDue := rfl
@[simp] theorem State.setKey_evaluationDue (s : State) (k : Fin 4) (v : Option (BitVec 128)) : (s.setKey k v).evaluationDue = s.evaluationDue := rfl
@[simp] theorem State.setKey_clock (s : State) (k : Fin 4) (v : Option (BitVec 128)) : (s.setKey k v).clock = s.clock := rfl
@[simp] theorem State.setKey_settings (s : State) (k : Fin 4) (v : Option (BitVec 128)) : (s.setKey k v).settings = s.settings := rfl
@[simp] theorem State.setKey_tariffs (s : State) (k : Fin 4) (v : Option (BitVec 128)) : (s.setKey k v).tariffs = s.tariffs := rfl
@[simp] theorem State.setKey_deny (s : State) (k : Fin 4) (v : Option (BitVec 128)) : (s.setKey k v).deny = s.deny := rfl
@[simp] theorem State.setKey_spent (s : State) (k : Fin 4) (v : Option (BitVec 128)) : (s.setKey k v).spent = s.spent := rfl
@[simp] theorem State.setKey_rentals (s : State) (k : Fin 4) (v : Option (BitVec 128)) : (s.setKey k v).rentals = s.rentals := rfl
@[simp] theorem State.setKey_journal (s : State) (k : Fin 4) (v : Option (BitVec 128)) : (s.setKey k v).journal = s.journal := rfl
@[simp] theorem State.setKey_cursor (s : State) (k : Fin 4) (v : Option (BitVec 128)) : (s.setKey k v).cursor = s.cursor := rfl
@[simp] theorem State.setKey_heldOrder (s : State) (k : Fin 4) (v : Option (BitVec 128)) : (s.setKey k v).heldOrder = s.heldOrder := rfl
@[simp] theorem State.setKey_highWaterArmed (s : State) (k : Fin 4) (v : Option (BitVec 128)) : (s.setKey k v).highWaterArmed = s.highWaterArmed := rfl
@[simp] theorem State.setKey_bays (s : State) (k : Fin 4) (v : Option (BitVec 128)) : (s.setKey k v).bays = s.bays := rfl
@[simp] theorem State.setKey_queue (s : State) (k : Fin 4) (v : Option (BitVec 128)) : (s.setKey k v).queue = s.queue := rfl
@[simp] theorem State.setKey_nextOrder (s : State) (k : Fin 4) (v : Option (BitVec 128)) : (s.setKey k v).nextOrder = s.nextOrder := rfl
@[simp] theorem State.setKey_channels (s : State) (k : Fin 4) (v : Option (BitVec 128)) : (s.setKey k v).channels = s.channels := rfl
@[simp] theorem State.setKey_latchProfile (s : State) (k : Fin 4) (v : Option (BitVec 128)) : (s.setKey k v).latchProfile = s.latchProfile := rfl
@[simp] theorem State.setKey_unlatchProfile (s : State) (k : Fin 4) (v : Option (BitVec 128)) : (s.setKey k v).unlatchProfile = s.unlatchProfile := rfl
@[simp] theorem State.setKey_chain (s : State) (k : Fin 4) (v : Option (BitVec 128)) : (s.setKey k v).chain = s.chain := rfl
@[simp] theorem State.setKey_scanSlot (s : State) (k : Fin 4) (v : Option (BitVec 128)) : (s.setKey k v).scanSlot = s.scanSlot := rfl
@[simp] theorem State.setKey_currents (s : State) (k : Fin 4) (v : Option (BitVec 128)) : (s.setKey k v).currents = s.currents := rfl
@[simp] theorem State.setKey_battery (s : State) (k : Fin 4) (v : Option (BitVec 128)) : (s.setKey k v).battery = s.battery := rfl
@[simp] theorem State.setKey_samples (s : State) (k : Fin 4) (v : Option (BitVec 128)) : (s.setKey k v).samples = s.samples := rfl
@[simp] theorem State.setKey_rejections (s : State) (k : Fin 4) (v : Option (BitVec 128)) : (s.setKey k v).rejections = s.rejections := rfl
@[simp] theorem State.setKey_band (s : State) (k : Fin 4) (v : Option (BitVec 128)) : (s.setKey k v).band = s.band := rfl
@[simp] theorem State.setKey_thresholds (s : State) (k : Fin 4) (v : Option (BitVec 128)) : (s.setKey k v).thresholds = s.thresholds := rfl
@[simp] theorem State.setKey_rx (s : State) (k : Fin 4) (v : Option (BitVec 128)) : (s.setKey k v).rx = s.rx := rfl
@[simp] theorem State.setKey_reply (s : State) (k : Fin 4) (v : Option (BitVec 128)) : (s.setKey k v).reply = s.reply := rfl
@[simp] theorem State.setKey_changes (s : State) (k : Fin 4) (v : Option (BitVec 128)) : (s.setKey k v).changes = s.changes := rfl
@[simp] theorem State.setKey_freeIndex (s : State) (k : Fin 4) (v : Option (BitVec 128)) : (s.setKey k v).freeIndex = s.freeIndex := rfl
@[simp] theorem State.setKey_pending (s : State) (k : Fin 4) (v : Option (BitVec 128)) : (s.setKey k v).pending = s.pending := rfl

/-! ### fixMinute -/

@[simp] theorem fixMinute_mainPower (b : BayIx) (s : State) : (fixMinute b s).mainPower = s.mainPower := rfl
@[simp] theorem fixMinute_resetHeld (b : BayIx) (s : State) : (fixMinute b s).resetHeld = s.resetHeld := rfl
@[simp] theorem fixMinute_backupValid (b : BayIx) (s : State) : (fixMinute b s).backupValid = s.backupValid := rfl
@[simp] theorem fixMinute_ms (b : BayIx) (s : State) : (fixMinute b s).ms = s.ms := rfl
@[simp] theorem fixMinute_msRemainder (b : BayIx) (s : State) : (fixMinute b s).msRemainder = s.msRemainder := rfl
@[simp] theorem fixMinute_refreshDue (b : BayIx) (s : State) : (fixMinute b s).refreshDue = s.refreshDue := rfl
@[simp] theorem fixMinute_evaluationDue (b : BayIx) (s : State) : (fixMinute b s).evaluationDue = s.evaluationDue := rfl
@[simp] theorem fixMinute_clock (b : BayIx) (s : State) : (fixMinute b s).clock = s.clock := rfl
@[simp] theorem fixMinute_settings (b : BayIx) (s : State) : (fixMinute b s).settings = s.settings := rfl
@[simp] theorem fixMinute_keys (b : BayIx) (s : State) : (fixMinute b s).keys = s.keys := rfl
@[simp] theorem fixMinute_tariffs (b : BayIx) (s : State) : (fixMinute b s).tariffs = s.tariffs := rfl
@[simp] theorem fixMinute_deny (b : BayIx) (s : State) : (fixMinute b s).deny = s.deny := rfl
@[simp] theorem fixMinute_spent (b : BayIx) (s : State) : (fixMinute b s).spent = s.spent := rfl
@[simp] theorem fixMinute_rentals (b : BayIx) (s : State) : (fixMinute b s).rentals = s.rentals := rfl
@[simp] theorem fixMinute_journal (b : BayIx) (s : State) : (fixMinute b s).journal = s.journal := rfl
@[simp] theorem fixMinute_cursor (b : BayIx) (s : State) : (fixMinute b s).cursor = s.cursor := rfl
@[simp] theorem fixMinute_heldOrder (b : BayIx) (s : State) : (fixMinute b s).heldOrder = s.heldOrder := rfl
@[simp] theorem fixMinute_highWaterArmed (b : BayIx) (s : State) : (fixMinute b s).highWaterArmed = s.highWaterArmed := rfl
@[simp] theorem fixMinute_queue (b : BayIx) (s : State) : (fixMinute b s).queue = s.queue := rfl
@[simp] theorem fixMinute_nextOrder (b : BayIx) (s : State) : (fixMinute b s).nextOrder = s.nextOrder := rfl
@[simp] theorem fixMinute_channels (b : BayIx) (s : State) : (fixMinute b s).channels = s.channels := rfl
@[simp] theorem fixMinute_latchProfile (b : BayIx) (s : State) : (fixMinute b s).latchProfile = s.latchProfile := rfl
@[simp] theorem fixMinute_unlatchProfile (b : BayIx) (s : State) : (fixMinute b s).unlatchProfile = s.unlatchProfile := rfl
@[simp] theorem fixMinute_chain (b : BayIx) (s : State) : (fixMinute b s).chain = s.chain := rfl
@[simp] theorem fixMinute_scanSlot (b : BayIx) (s : State) : (fixMinute b s).scanSlot = s.scanSlot := rfl
@[simp] theorem fixMinute_currents (b : BayIx) (s : State) : (fixMinute b s).currents = s.currents := rfl
@[simp] theorem fixMinute_battery (b : BayIx) (s : State) : (fixMinute b s).battery = s.battery := rfl
@[simp] theorem fixMinute_samples (b : BayIx) (s : State) : (fixMinute b s).samples = s.samples := rfl
@[simp] theorem fixMinute_rejections (b : BayIx) (s : State) : (fixMinute b s).rejections = s.rejections := rfl
@[simp] theorem fixMinute_band (b : BayIx) (s : State) : (fixMinute b s).band = s.band := rfl
@[simp] theorem fixMinute_thresholds (b : BayIx) (s : State) : (fixMinute b s).thresholds = s.thresholds := rfl
@[simp] theorem fixMinute_rx (b : BayIx) (s : State) : (fixMinute b s).rx = s.rx := rfl
@[simp] theorem fixMinute_reply (b : BayIx) (s : State) : (fixMinute b s).reply = s.reply := rfl
@[simp] theorem fixMinute_changes (b : BayIx) (s : State) : (fixMinute b s).changes = s.changes := rfl
@[simp] theorem fixMinute_freeIndex (b : BayIx) (s : State) : (fixMinute b s).freeIndex = s.freeIndex := rfl
@[simp] theorem fixMinute_pending (b : BayIx) (s : State) : (fixMinute b s).pending = s.pending := rfl

/-! ### withdrawSpent -/

@[simp] theorem withdrawSpent_mainPower (rider serial : Nat) (s : State) : (withdrawSpent rider serial s).mainPower = s.mainPower := rfl
@[simp] theorem withdrawSpent_resetHeld (rider serial : Nat) (s : State) : (withdrawSpent rider serial s).resetHeld = s.resetHeld := rfl
@[simp] theorem withdrawSpent_backupValid (rider serial : Nat) (s : State) : (withdrawSpent rider serial s).backupValid = s.backupValid := rfl
@[simp] theorem withdrawSpent_ms (rider serial : Nat) (s : State) : (withdrawSpent rider serial s).ms = s.ms := rfl
@[simp] theorem withdrawSpent_msRemainder (rider serial : Nat) (s : State) : (withdrawSpent rider serial s).msRemainder = s.msRemainder := rfl
@[simp] theorem withdrawSpent_refreshDue (rider serial : Nat) (s : State) : (withdrawSpent rider serial s).refreshDue = s.refreshDue := rfl
@[simp] theorem withdrawSpent_evaluationDue (rider serial : Nat) (s : State) : (withdrawSpent rider serial s).evaluationDue = s.evaluationDue := rfl
@[simp] theorem withdrawSpent_clock (rider serial : Nat) (s : State) : (withdrawSpent rider serial s).clock = s.clock := rfl
@[simp] theorem withdrawSpent_settings (rider serial : Nat) (s : State) : (withdrawSpent rider serial s).settings = s.settings := rfl
@[simp] theorem withdrawSpent_keys (rider serial : Nat) (s : State) : (withdrawSpent rider serial s).keys = s.keys := rfl
@[simp] theorem withdrawSpent_tariffs (rider serial : Nat) (s : State) : (withdrawSpent rider serial s).tariffs = s.tariffs := rfl
@[simp] theorem withdrawSpent_deny (rider serial : Nat) (s : State) : (withdrawSpent rider serial s).deny = s.deny := rfl
@[simp] theorem withdrawSpent_rentals (rider serial : Nat) (s : State) : (withdrawSpent rider serial s).rentals = s.rentals := rfl
@[simp] theorem withdrawSpent_journal (rider serial : Nat) (s : State) : (withdrawSpent rider serial s).journal = s.journal := rfl
@[simp] theorem withdrawSpent_cursor (rider serial : Nat) (s : State) : (withdrawSpent rider serial s).cursor = s.cursor := rfl
@[simp] theorem withdrawSpent_heldOrder (rider serial : Nat) (s : State) : (withdrawSpent rider serial s).heldOrder = s.heldOrder := rfl
@[simp] theorem withdrawSpent_highWaterArmed (rider serial : Nat) (s : State) : (withdrawSpent rider serial s).highWaterArmed = s.highWaterArmed := rfl
@[simp] theorem withdrawSpent_bays (rider serial : Nat) (s : State) : (withdrawSpent rider serial s).bays = s.bays := rfl
@[simp] theorem withdrawSpent_queue (rider serial : Nat) (s : State) : (withdrawSpent rider serial s).queue = s.queue := rfl
@[simp] theorem withdrawSpent_nextOrder (rider serial : Nat) (s : State) : (withdrawSpent rider serial s).nextOrder = s.nextOrder := rfl
@[simp] theorem withdrawSpent_channels (rider serial : Nat) (s : State) : (withdrawSpent rider serial s).channels = s.channels := rfl
@[simp] theorem withdrawSpent_latchProfile (rider serial : Nat) (s : State) : (withdrawSpent rider serial s).latchProfile = s.latchProfile := rfl
@[simp] theorem withdrawSpent_unlatchProfile (rider serial : Nat) (s : State) : (withdrawSpent rider serial s).unlatchProfile = s.unlatchProfile := rfl
@[simp] theorem withdrawSpent_chain (rider serial : Nat) (s : State) : (withdrawSpent rider serial s).chain = s.chain := rfl
@[simp] theorem withdrawSpent_scanSlot (rider serial : Nat) (s : State) : (withdrawSpent rider serial s).scanSlot = s.scanSlot := rfl
@[simp] theorem withdrawSpent_currents (rider serial : Nat) (s : State) : (withdrawSpent rider serial s).currents = s.currents := rfl
@[simp] theorem withdrawSpent_battery (rider serial : Nat) (s : State) : (withdrawSpent rider serial s).battery = s.battery := rfl
@[simp] theorem withdrawSpent_samples (rider serial : Nat) (s : State) : (withdrawSpent rider serial s).samples = s.samples := rfl
@[simp] theorem withdrawSpent_rejections (rider serial : Nat) (s : State) : (withdrawSpent rider serial s).rejections = s.rejections := rfl
@[simp] theorem withdrawSpent_band (rider serial : Nat) (s : State) : (withdrawSpent rider serial s).band = s.band := rfl
@[simp] theorem withdrawSpent_thresholds (rider serial : Nat) (s : State) : (withdrawSpent rider serial s).thresholds = s.thresholds := rfl
@[simp] theorem withdrawSpent_rx (rider serial : Nat) (s : State) : (withdrawSpent rider serial s).rx = s.rx := rfl
@[simp] theorem withdrawSpent_reply (rider serial : Nat) (s : State) : (withdrawSpent rider serial s).reply = s.reply := rfl
@[simp] theorem withdrawSpent_changes (rider serial : Nat) (s : State) : (withdrawSpent rider serial s).changes = s.changes := rfl
@[simp] theorem withdrawSpent_freeIndex (rider serial : Nat) (s : State) : (withdrawSpent rider serial s).freeIndex = s.freeIndex := rfl
@[simp] theorem withdrawSpent_pending (rider serial : Nat) (s : State) : (withdrawSpent rider serial s).pending = s.pending := rfl

/-! ### finalizeSpent -/

@[simp] theorem finalizeSpent_mainPower (rider serial : Nat) (s : State) : (finalizeSpent rider serial s).mainPower = s.mainPower := rfl
@[simp] theorem finalizeSpent_resetHeld (rider serial : Nat) (s : State) : (finalizeSpent rider serial s).resetHeld = s.resetHeld := rfl
@[simp] theorem finalizeSpent_backupValid (rider serial : Nat) (s : State) : (finalizeSpent rider serial s).backupValid = s.backupValid := rfl
@[simp] theorem finalizeSpent_ms (rider serial : Nat) (s : State) : (finalizeSpent rider serial s).ms = s.ms := rfl
@[simp] theorem finalizeSpent_msRemainder (rider serial : Nat) (s : State) : (finalizeSpent rider serial s).msRemainder = s.msRemainder := rfl
@[simp] theorem finalizeSpent_refreshDue (rider serial : Nat) (s : State) : (finalizeSpent rider serial s).refreshDue = s.refreshDue := rfl
@[simp] theorem finalizeSpent_evaluationDue (rider serial : Nat) (s : State) : (finalizeSpent rider serial s).evaluationDue = s.evaluationDue := rfl
@[simp] theorem finalizeSpent_clock (rider serial : Nat) (s : State) : (finalizeSpent rider serial s).clock = s.clock := rfl
@[simp] theorem finalizeSpent_settings (rider serial : Nat) (s : State) : (finalizeSpent rider serial s).settings = s.settings := rfl
@[simp] theorem finalizeSpent_keys (rider serial : Nat) (s : State) : (finalizeSpent rider serial s).keys = s.keys := rfl
@[simp] theorem finalizeSpent_tariffs (rider serial : Nat) (s : State) : (finalizeSpent rider serial s).tariffs = s.tariffs := rfl
@[simp] theorem finalizeSpent_deny (rider serial : Nat) (s : State) : (finalizeSpent rider serial s).deny = s.deny := rfl
@[simp] theorem finalizeSpent_rentals (rider serial : Nat) (s : State) : (finalizeSpent rider serial s).rentals = s.rentals := rfl
@[simp] theorem finalizeSpent_journal (rider serial : Nat) (s : State) : (finalizeSpent rider serial s).journal = s.journal := rfl
@[simp] theorem finalizeSpent_cursor (rider serial : Nat) (s : State) : (finalizeSpent rider serial s).cursor = s.cursor := rfl
@[simp] theorem finalizeSpent_heldOrder (rider serial : Nat) (s : State) : (finalizeSpent rider serial s).heldOrder = s.heldOrder := rfl
@[simp] theorem finalizeSpent_highWaterArmed (rider serial : Nat) (s : State) : (finalizeSpent rider serial s).highWaterArmed = s.highWaterArmed := rfl
@[simp] theorem finalizeSpent_bays (rider serial : Nat) (s : State) : (finalizeSpent rider serial s).bays = s.bays := rfl
@[simp] theorem finalizeSpent_queue (rider serial : Nat) (s : State) : (finalizeSpent rider serial s).queue = s.queue := rfl
@[simp] theorem finalizeSpent_nextOrder (rider serial : Nat) (s : State) : (finalizeSpent rider serial s).nextOrder = s.nextOrder := rfl
@[simp] theorem finalizeSpent_channels (rider serial : Nat) (s : State) : (finalizeSpent rider serial s).channels = s.channels := rfl
@[simp] theorem finalizeSpent_latchProfile (rider serial : Nat) (s : State) : (finalizeSpent rider serial s).latchProfile = s.latchProfile := rfl
@[simp] theorem finalizeSpent_unlatchProfile (rider serial : Nat) (s : State) : (finalizeSpent rider serial s).unlatchProfile = s.unlatchProfile := rfl
@[simp] theorem finalizeSpent_chain (rider serial : Nat) (s : State) : (finalizeSpent rider serial s).chain = s.chain := rfl
@[simp] theorem finalizeSpent_scanSlot (rider serial : Nat) (s : State) : (finalizeSpent rider serial s).scanSlot = s.scanSlot := rfl
@[simp] theorem finalizeSpent_currents (rider serial : Nat) (s : State) : (finalizeSpent rider serial s).currents = s.currents := rfl
@[simp] theorem finalizeSpent_battery (rider serial : Nat) (s : State) : (finalizeSpent rider serial s).battery = s.battery := rfl
@[simp] theorem finalizeSpent_samples (rider serial : Nat) (s : State) : (finalizeSpent rider serial s).samples = s.samples := rfl
@[simp] theorem finalizeSpent_rejections (rider serial : Nat) (s : State) : (finalizeSpent rider serial s).rejections = s.rejections := rfl
@[simp] theorem finalizeSpent_band (rider serial : Nat) (s : State) : (finalizeSpent rider serial s).band = s.band := rfl
@[simp] theorem finalizeSpent_thresholds (rider serial : Nat) (s : State) : (finalizeSpent rider serial s).thresholds = s.thresholds := rfl
@[simp] theorem finalizeSpent_rx (rider serial : Nat) (s : State) : (finalizeSpent rider serial s).rx = s.rx := rfl
@[simp] theorem finalizeSpent_reply (rider serial : Nat) (s : State) : (finalizeSpent rider serial s).reply = s.reply := rfl
@[simp] theorem finalizeSpent_changes (rider serial : Nat) (s : State) : (finalizeSpent rider serial s).changes = s.changes := rfl
@[simp] theorem finalizeSpent_freeIndex (rider serial : Nat) (s : State) : (finalizeSpent rider serial s).freeIndex = s.freeIndex := rfl
@[simp] theorem finalizeSpent_pending (rider serial : Nat) (s : State) : (finalizeSpent rider serial s).pending = s.pending := rfl

/-! ### markProcessed -/

@[simp] theorem markProcessed_mainPower (b : BayIx) (s : State) : (markProcessed b s).mainPower = s.mainPower := rfl
@[simp] theorem markProcessed_resetHeld (b : BayIx) (s : State) : (markProcessed b s).resetHeld = s.resetHeld := rfl
@[simp] theorem markProcessed_backupValid (b : BayIx) (s : State) : (markProcessed b s).backupValid = s.backupValid := rfl
@[simp] theorem markProcessed_ms (b : BayIx) (s : State) : (markProcessed b s).ms = s.ms := rfl
@[simp] theorem markProcessed_msRemainder (b : BayIx) (s : State) : (markProcessed b s).msRemainder = s.msRemainder := rfl
@[simp] theorem markProcessed_refreshDue (b : BayIx) (s : State) : (markProcessed b s).refreshDue = s.refreshDue := rfl
@[simp] theorem markProcessed_evaluationDue (b : BayIx) (s : State) : (markProcessed b s).evaluationDue = s.evaluationDue := rfl
@[simp] theorem markProcessed_clock (b : BayIx) (s : State) : (markProcessed b s).clock = s.clock := rfl
@[simp] theorem markProcessed_settings (b : BayIx) (s : State) : (markProcessed b s).settings = s.settings := rfl
@[simp] theorem markProcessed_keys (b : BayIx) (s : State) : (markProcessed b s).keys = s.keys := rfl
@[simp] theorem markProcessed_tariffs (b : BayIx) (s : State) : (markProcessed b s).tariffs = s.tariffs := rfl
@[simp] theorem markProcessed_deny (b : BayIx) (s : State) : (markProcessed b s).deny = s.deny := rfl
@[simp] theorem markProcessed_spent (b : BayIx) (s : State) : (markProcessed b s).spent = s.spent := rfl
@[simp] theorem markProcessed_rentals (b : BayIx) (s : State) : (markProcessed b s).rentals = s.rentals := rfl
@[simp] theorem markProcessed_journal (b : BayIx) (s : State) : (markProcessed b s).journal = s.journal := rfl
@[simp] theorem markProcessed_cursor (b : BayIx) (s : State) : (markProcessed b s).cursor = s.cursor := rfl
@[simp] theorem markProcessed_heldOrder (b : BayIx) (s : State) : (markProcessed b s).heldOrder = s.heldOrder := rfl
@[simp] theorem markProcessed_highWaterArmed (b : BayIx) (s : State) : (markProcessed b s).highWaterArmed = s.highWaterArmed := rfl
@[simp] theorem markProcessed_queue (b : BayIx) (s : State) : (markProcessed b s).queue = s.queue := rfl
@[simp] theorem markProcessed_nextOrder (b : BayIx) (s : State) : (markProcessed b s).nextOrder = s.nextOrder := rfl
@[simp] theorem markProcessed_channels (b : BayIx) (s : State) : (markProcessed b s).channels = s.channels := rfl
@[simp] theorem markProcessed_latchProfile (b : BayIx) (s : State) : (markProcessed b s).latchProfile = s.latchProfile := rfl
@[simp] theorem markProcessed_unlatchProfile (b : BayIx) (s : State) : (markProcessed b s).unlatchProfile = s.unlatchProfile := rfl
@[simp] theorem markProcessed_chain (b : BayIx) (s : State) : (markProcessed b s).chain = s.chain := rfl
@[simp] theorem markProcessed_scanSlot (b : BayIx) (s : State) : (markProcessed b s).scanSlot = s.scanSlot := rfl
@[simp] theorem markProcessed_currents (b : BayIx) (s : State) : (markProcessed b s).currents = s.currents := rfl
@[simp] theorem markProcessed_battery (b : BayIx) (s : State) : (markProcessed b s).battery = s.battery := rfl
@[simp] theorem markProcessed_samples (b : BayIx) (s : State) : (markProcessed b s).samples = s.samples := rfl
@[simp] theorem markProcessed_rejections (b : BayIx) (s : State) : (markProcessed b s).rejections = s.rejections := rfl
@[simp] theorem markProcessed_band (b : BayIx) (s : State) : (markProcessed b s).band = s.band := rfl
@[simp] theorem markProcessed_thresholds (b : BayIx) (s : State) : (markProcessed b s).thresholds = s.thresholds := rfl
@[simp] theorem markProcessed_rx (b : BayIx) (s : State) : (markProcessed b s).rx = s.rx := rfl
@[simp] theorem markProcessed_reply (b : BayIx) (s : State) : (markProcessed b s).reply = s.reply := rfl
@[simp] theorem markProcessed_changes (b : BayIx) (s : State) : (markProcessed b s).changes = s.changes := rfl
@[simp] theorem markProcessed_freeIndex (b : BayIx) (s : State) : (markProcessed b s).freeIndex = s.freeIndex := rfl
@[simp] theorem markProcessed_pending (b : BayIx) (s : State) : (markProcessed b s).pending = s.pending := rfl

/-! ### raiseAlarm -/

@[simp] theorem raiseAlarm_mainPower (b : BayIx) (a : Alarm) (s : State) : (raiseAlarm b a s).mainPower = s.mainPower := rfl
@[simp] theorem raiseAlarm_resetHeld (b : BayIx) (a : Alarm) (s : State) : (raiseAlarm b a s).resetHeld = s.resetHeld := rfl
@[simp] theorem raiseAlarm_backupValid (b : BayIx) (a : Alarm) (s : State) : (raiseAlarm b a s).backupValid = s.backupValid := rfl
@[simp] theorem raiseAlarm_ms (b : BayIx) (a : Alarm) (s : State) : (raiseAlarm b a s).ms = s.ms := rfl
@[simp] theorem raiseAlarm_msRemainder (b : BayIx) (a : Alarm) (s : State) : (raiseAlarm b a s).msRemainder = s.msRemainder := rfl
@[simp] theorem raiseAlarm_refreshDue (b : BayIx) (a : Alarm) (s : State) : (raiseAlarm b a s).refreshDue = s.refreshDue := rfl
@[simp] theorem raiseAlarm_evaluationDue (b : BayIx) (a : Alarm) (s : State) : (raiseAlarm b a s).evaluationDue = s.evaluationDue := rfl
@[simp] theorem raiseAlarm_clock (b : BayIx) (a : Alarm) (s : State) : (raiseAlarm b a s).clock = s.clock := rfl
@[simp] theorem raiseAlarm_settings (b : BayIx) (a : Alarm) (s : State) : (raiseAlarm b a s).settings = s.settings := rfl
@[simp] theorem raiseAlarm_keys (b : BayIx) (a : Alarm) (s : State) : (raiseAlarm b a s).keys = s.keys := rfl
@[simp] theorem raiseAlarm_tariffs (b : BayIx) (a : Alarm) (s : State) : (raiseAlarm b a s).tariffs = s.tariffs := rfl
@[simp] theorem raiseAlarm_deny (b : BayIx) (a : Alarm) (s : State) : (raiseAlarm b a s).deny = s.deny := rfl
@[simp] theorem raiseAlarm_spent (b : BayIx) (a : Alarm) (s : State) : (raiseAlarm b a s).spent = s.spent := rfl
@[simp] theorem raiseAlarm_rentals (b : BayIx) (a : Alarm) (s : State) : (raiseAlarm b a s).rentals = s.rentals := rfl
@[simp] theorem raiseAlarm_journal (b : BayIx) (a : Alarm) (s : State) : (raiseAlarm b a s).journal = s.journal := rfl
@[simp] theorem raiseAlarm_cursor (b : BayIx) (a : Alarm) (s : State) : (raiseAlarm b a s).cursor = s.cursor := rfl
@[simp] theorem raiseAlarm_heldOrder (b : BayIx) (a : Alarm) (s : State) : (raiseAlarm b a s).heldOrder = s.heldOrder := rfl
@[simp] theorem raiseAlarm_highWaterArmed (b : BayIx) (a : Alarm) (s : State) : (raiseAlarm b a s).highWaterArmed = s.highWaterArmed := rfl
@[simp] theorem raiseAlarm_queue (b : BayIx) (a : Alarm) (s : State) : (raiseAlarm b a s).queue = s.queue := rfl
@[simp] theorem raiseAlarm_nextOrder (b : BayIx) (a : Alarm) (s : State) : (raiseAlarm b a s).nextOrder = s.nextOrder := rfl
@[simp] theorem raiseAlarm_channels (b : BayIx) (a : Alarm) (s : State) : (raiseAlarm b a s).channels = s.channels := rfl
@[simp] theorem raiseAlarm_latchProfile (b : BayIx) (a : Alarm) (s : State) : (raiseAlarm b a s).latchProfile = s.latchProfile := rfl
@[simp] theorem raiseAlarm_unlatchProfile (b : BayIx) (a : Alarm) (s : State) : (raiseAlarm b a s).unlatchProfile = s.unlatchProfile := rfl
@[simp] theorem raiseAlarm_chain (b : BayIx) (a : Alarm) (s : State) : (raiseAlarm b a s).chain = s.chain := rfl
@[simp] theorem raiseAlarm_scanSlot (b : BayIx) (a : Alarm) (s : State) : (raiseAlarm b a s).scanSlot = s.scanSlot := rfl
@[simp] theorem raiseAlarm_currents (b : BayIx) (a : Alarm) (s : State) : (raiseAlarm b a s).currents = s.currents := rfl
@[simp] theorem raiseAlarm_battery (b : BayIx) (a : Alarm) (s : State) : (raiseAlarm b a s).battery = s.battery := rfl
@[simp] theorem raiseAlarm_samples (b : BayIx) (a : Alarm) (s : State) : (raiseAlarm b a s).samples = s.samples := rfl
@[simp] theorem raiseAlarm_rejections (b : BayIx) (a : Alarm) (s : State) : (raiseAlarm b a s).rejections = s.rejections := rfl
@[simp] theorem raiseAlarm_band (b : BayIx) (a : Alarm) (s : State) : (raiseAlarm b a s).band = s.band := rfl
@[simp] theorem raiseAlarm_thresholds (b : BayIx) (a : Alarm) (s : State) : (raiseAlarm b a s).thresholds = s.thresholds := rfl
@[simp] theorem raiseAlarm_rx (b : BayIx) (a : Alarm) (s : State) : (raiseAlarm b a s).rx = s.rx := rfl
@[simp] theorem raiseAlarm_reply (b : BayIx) (a : Alarm) (s : State) : (raiseAlarm b a s).reply = s.reply := rfl
@[simp] theorem raiseAlarm_freeIndex (b : BayIx) (a : Alarm) (s : State) : (raiseAlarm b a s).freeIndex = s.freeIndex := rfl
@[simp] theorem raiseAlarm_pending (b : BayIx) (a : Alarm) (s : State) : (raiseAlarm b a s).pending = s.pending := rfl

/-! ### endRelease -/

@[simp] theorem endRelease_mainPower (b : BayIx) (o : LastOutcome) (s : State) : (endRelease b o s).mainPower = s.mainPower := rfl
@[simp] theorem endRelease_resetHeld (b : BayIx) (o : LastOutcome) (s : State) : (endRelease b o s).resetHeld = s.resetHeld := rfl
@[simp] theorem endRelease_backupValid (b : BayIx) (o : LastOutcome) (s : State) : (endRelease b o s).backupValid = s.backupValid := rfl
@[simp] theorem endRelease_ms (b : BayIx) (o : LastOutcome) (s : State) : (endRelease b o s).ms = s.ms := rfl
@[simp] theorem endRelease_msRemainder (b : BayIx) (o : LastOutcome) (s : State) : (endRelease b o s).msRemainder = s.msRemainder := rfl
@[simp] theorem endRelease_refreshDue (b : BayIx) (o : LastOutcome) (s : State) : (endRelease b o s).refreshDue = s.refreshDue := rfl
@[simp] theorem endRelease_evaluationDue (b : BayIx) (o : LastOutcome) (s : State) : (endRelease b o s).evaluationDue = s.evaluationDue := rfl
@[simp] theorem endRelease_clock (b : BayIx) (o : LastOutcome) (s : State) : (endRelease b o s).clock = s.clock := rfl
@[simp] theorem endRelease_settings (b : BayIx) (o : LastOutcome) (s : State) : (endRelease b o s).settings = s.settings := rfl
@[simp] theorem endRelease_keys (b : BayIx) (o : LastOutcome) (s : State) : (endRelease b o s).keys = s.keys := rfl
@[simp] theorem endRelease_tariffs (b : BayIx) (o : LastOutcome) (s : State) : (endRelease b o s).tariffs = s.tariffs := rfl
@[simp] theorem endRelease_deny (b : BayIx) (o : LastOutcome) (s : State) : (endRelease b o s).deny = s.deny := rfl
@[simp] theorem endRelease_spent (b : BayIx) (o : LastOutcome) (s : State) : (endRelease b o s).spent = s.spent := rfl
@[simp] theorem endRelease_rentals (b : BayIx) (o : LastOutcome) (s : State) : (endRelease b o s).rentals = s.rentals := rfl
@[simp] theorem endRelease_journal (b : BayIx) (o : LastOutcome) (s : State) : (endRelease b o s).journal = s.journal := rfl
@[simp] theorem endRelease_cursor (b : BayIx) (o : LastOutcome) (s : State) : (endRelease b o s).cursor = s.cursor := rfl
@[simp] theorem endRelease_heldOrder (b : BayIx) (o : LastOutcome) (s : State) : (endRelease b o s).heldOrder = s.heldOrder := rfl
@[simp] theorem endRelease_highWaterArmed (b : BayIx) (o : LastOutcome) (s : State) : (endRelease b o s).highWaterArmed = s.highWaterArmed := rfl
@[simp] theorem endRelease_queue (b : BayIx) (o : LastOutcome) (s : State) : (endRelease b o s).queue = s.queue := rfl
@[simp] theorem endRelease_nextOrder (b : BayIx) (o : LastOutcome) (s : State) : (endRelease b o s).nextOrder = s.nextOrder := rfl
@[simp] theorem endRelease_channels (b : BayIx) (o : LastOutcome) (s : State) : (endRelease b o s).channels = s.channels := rfl
@[simp] theorem endRelease_latchProfile (b : BayIx) (o : LastOutcome) (s : State) : (endRelease b o s).latchProfile = s.latchProfile := rfl
@[simp] theorem endRelease_unlatchProfile (b : BayIx) (o : LastOutcome) (s : State) : (endRelease b o s).unlatchProfile = s.unlatchProfile := rfl
@[simp] theorem endRelease_chain (b : BayIx) (o : LastOutcome) (s : State) : (endRelease b o s).chain = s.chain := rfl
@[simp] theorem endRelease_scanSlot (b : BayIx) (o : LastOutcome) (s : State) : (endRelease b o s).scanSlot = s.scanSlot := rfl
@[simp] theorem endRelease_currents (b : BayIx) (o : LastOutcome) (s : State) : (endRelease b o s).currents = s.currents := rfl
@[simp] theorem endRelease_battery (b : BayIx) (o : LastOutcome) (s : State) : (endRelease b o s).battery = s.battery := rfl
@[simp] theorem endRelease_samples (b : BayIx) (o : LastOutcome) (s : State) : (endRelease b o s).samples = s.samples := rfl
@[simp] theorem endRelease_rejections (b : BayIx) (o : LastOutcome) (s : State) : (endRelease b o s).rejections = s.rejections := rfl
@[simp] theorem endRelease_band (b : BayIx) (o : LastOutcome) (s : State) : (endRelease b o s).band = s.band := rfl
@[simp] theorem endRelease_thresholds (b : BayIx) (o : LastOutcome) (s : State) : (endRelease b o s).thresholds = s.thresholds := rfl
@[simp] theorem endRelease_rx (b : BayIx) (o : LastOutcome) (s : State) : (endRelease b o s).rx = s.rx := rfl
@[simp] theorem endRelease_reply (b : BayIx) (o : LastOutcome) (s : State) : (endRelease b o s).reply = s.reply := rfl
@[simp] theorem endRelease_freeIndex (b : BayIx) (o : LastOutcome) (s : State) : (endRelease b o s).freeIndex = s.freeIndex := rfl
@[simp] theorem endRelease_pending (b : BayIx) (o : LastOutcome) (s : State) : (endRelease b o s).pending = s.pending := rfl

/-! ### withdrawRequest -/

@[simp] theorem withdrawRequest_mainPower (b : BayIx) (s : State) : (withdrawRequest b s).mainPower = s.mainPower := rfl
@[simp] theorem withdrawRequest_resetHeld (b : BayIx) (s : State) : (withdrawRequest b s).resetHeld = s.resetHeld := rfl
@[simp] theorem withdrawRequest_backupValid (b : BayIx) (s : State) : (withdrawRequest b s).backupValid = s.backupValid := rfl
@[simp] theorem withdrawRequest_ms (b : BayIx) (s : State) : (withdrawRequest b s).ms = s.ms := rfl
@[simp] theorem withdrawRequest_msRemainder (b : BayIx) (s : State) : (withdrawRequest b s).msRemainder = s.msRemainder := rfl
@[simp] theorem withdrawRequest_refreshDue (b : BayIx) (s : State) : (withdrawRequest b s).refreshDue = s.refreshDue := rfl
@[simp] theorem withdrawRequest_evaluationDue (b : BayIx) (s : State) : (withdrawRequest b s).evaluationDue = s.evaluationDue := rfl
@[simp] theorem withdrawRequest_clock (b : BayIx) (s : State) : (withdrawRequest b s).clock = s.clock := rfl
@[simp] theorem withdrawRequest_settings (b : BayIx) (s : State) : (withdrawRequest b s).settings = s.settings := rfl
@[simp] theorem withdrawRequest_keys (b : BayIx) (s : State) : (withdrawRequest b s).keys = s.keys := rfl
@[simp] theorem withdrawRequest_tariffs (b : BayIx) (s : State) : (withdrawRequest b s).tariffs = s.tariffs := rfl
@[simp] theorem withdrawRequest_deny (b : BayIx) (s : State) : (withdrawRequest b s).deny = s.deny := rfl
@[simp] theorem withdrawRequest_spent (b : BayIx) (s : State) : (withdrawRequest b s).spent = s.spent := rfl
@[simp] theorem withdrawRequest_rentals (b : BayIx) (s : State) : (withdrawRequest b s).rentals = s.rentals := rfl
@[simp] theorem withdrawRequest_journal (b : BayIx) (s : State) : (withdrawRequest b s).journal = s.journal := rfl
@[simp] theorem withdrawRequest_cursor (b : BayIx) (s : State) : (withdrawRequest b s).cursor = s.cursor := rfl
@[simp] theorem withdrawRequest_heldOrder (b : BayIx) (s : State) : (withdrawRequest b s).heldOrder = s.heldOrder := rfl
@[simp] theorem withdrawRequest_highWaterArmed (b : BayIx) (s : State) : (withdrawRequest b s).highWaterArmed = s.highWaterArmed := rfl
@[simp] theorem withdrawRequest_nextOrder (b : BayIx) (s : State) : (withdrawRequest b s).nextOrder = s.nextOrder := rfl
@[simp] theorem withdrawRequest_channels (b : BayIx) (s : State) : (withdrawRequest b s).channels = s.channels := rfl
@[simp] theorem withdrawRequest_latchProfile (b : BayIx) (s : State) : (withdrawRequest b s).latchProfile = s.latchProfile := rfl
@[simp] theorem withdrawRequest_unlatchProfile (b : BayIx) (s : State) : (withdrawRequest b s).unlatchProfile = s.unlatchProfile := rfl
@[simp] theorem withdrawRequest_chain (b : BayIx) (s : State) : (withdrawRequest b s).chain = s.chain := rfl
@[simp] theorem withdrawRequest_scanSlot (b : BayIx) (s : State) : (withdrawRequest b s).scanSlot = s.scanSlot := rfl
@[simp] theorem withdrawRequest_currents (b : BayIx) (s : State) : (withdrawRequest b s).currents = s.currents := rfl
@[simp] theorem withdrawRequest_battery (b : BayIx) (s : State) : (withdrawRequest b s).battery = s.battery := rfl
@[simp] theorem withdrawRequest_samples (b : BayIx) (s : State) : (withdrawRequest b s).samples = s.samples := rfl
@[simp] theorem withdrawRequest_rejections (b : BayIx) (s : State) : (withdrawRequest b s).rejections = s.rejections := rfl
@[simp] theorem withdrawRequest_band (b : BayIx) (s : State) : (withdrawRequest b s).band = s.band := rfl
@[simp] theorem withdrawRequest_thresholds (b : BayIx) (s : State) : (withdrawRequest b s).thresholds = s.thresholds := rfl
@[simp] theorem withdrawRequest_rx (b : BayIx) (s : State) : (withdrawRequest b s).rx = s.rx := rfl
@[simp] theorem withdrawRequest_reply (b : BayIx) (s : State) : (withdrawRequest b s).reply = s.reply := rfl
@[simp] theorem withdrawRequest_changes (b : BayIx) (s : State) : (withdrawRequest b s).changes = s.changes := rfl
@[simp] theorem withdrawRequest_freeIndex (b : BayIx) (s : State) : (withdrawRequest b s).freeIndex = s.freeIndex := rfl
@[simp] theorem withdrawRequest_pending (b : BayIx) (s : State) : (withdrawRequest b s).pending = s.pending := rfl

/-! ### Reading back what an update writes -/

@[simp] theorem State.modBay_bay_self (s : State) (b : BayIx) (f : Bay → Bay) : (s.modBay b f).bay b = f (s.bay b) := by
  simp [State.modBay, State.bay]

theorem State.modBay_bay_ne (s : State) (f : Bay → Bay) (b o : BayIx) (h : o ≠ b) : (s.modBay b f).bay o = s.bay o := by
  have : b.val ≠ o.val := fun e => h (Fin.ext e.symm)
  simp [State.modBay, State.bay, this]

@[simp] theorem State.postBay_bay (s : State) (b o : BayIx) (c : BayCause) : (s.postBay b c).bay o = s.bay o := rfl
@[simp] theorem State.postBand_bay (s : State) (o : BayIx) : s.postBand.bay o = s.bay o := rfl
@[simp] theorem State.postJournalHigh_bay (s : State) (o : BayIx) : s.postJournalHigh.bay o = s.bay o := rfl
@[simp] theorem State.postChannel_bay (s : State) (o : BayIx) : s.postChannel.bay o = s.bay o := rfl
@[simp] theorem State.setRental_bay (s : State) (k : Fin 64) (r : Option Rental) (o : BayIx) :
    (s.setRental k r).bay o = s.bay o := rfl
@[simp] theorem State.setChannel_bay (s : State) (c : Fin 4) (x : Channel) (o : BayIx) :
    (s.setChannel c x).bay o = s.bay o := rfl
@[simp] theorem State.setPulse_bay (s : State) (c : Fin 4) (p : Pulse) (o : BayIx) : (s.setPulse c p).bay o = s.bay o := rfl
@[simp] theorem withdrawSpent_bay (i j : Nat) (s : State) (o : BayIx) : (withdrawSpent i j s).bay o = s.bay o := rfl
@[simp] theorem finalizeSpent_bay (i j : Nat) (s : State) (o : BayIx) : (finalizeSpent i j s).bay o = s.bay o := rfl

@[simp] theorem State.setRental_get_self (s : State) (k : Fin 64) (r : Option Rental) : (s.setRental k r).rentals[k.val] = r := by
  simp [State.setRental]

theorem State.setRental_get_ne (s : State) (k j : Fin 64) (r : Option Rental) (h : j ≠ k) :
    (s.setRental k r).rentals[j] = s.rentals[j] := by
  have : k.val ≠ j.val := fun e => h (Fin.ext e.symm)
  simp [State.setRental, this]

@[simp] theorem State.setChannel_get_self (s : State) (c : Fin 4) (x : Channel) : (s.setChannel c x).channels[c.val] = x := by
  simp [State.setChannel]

theorem State.setChannel_get_ne (s : State) (c d : Fin 4) (x : Channel) (h : d ≠ c) :
    (s.setChannel c x).channels[d] = s.channels[d] := by
  have : c.val ≠ d.val := fun e => h (Fin.ext e.symm)
  simp [State.setChannel, this]

@[simp] theorem State.setPulse_pulse_self (s : State) (c : Fin 4) (p : Pulse) : (s.setPulse c p).pulse? c = some p := by
  simp [State.setPulse, State.pulse?]

theorem State.setPulse_pulse_ne (s : State) (c d : Fin 4) (p : Pulse) (h : d ≠ c) :
    (s.setPulse c p).pulse? d = s.pulse? d := by
  simp only [State.setPulse, State.pulse?, State.setChannel_get_ne s c d _ h]

@[simp] theorem State.postBay_cause_self (s : State) (b : BayIx) (c : BayCause) :
    (s.postBay b c).changes.bays[b.val] = s.changes.bays[b.val].add c := by
  simp [State.postBay]

theorem State.postBay_cause_ne (s : State) (b o : BayIx) (c : BayCause) (h : o ≠ b) :
    (s.postBay b c).changes.bays[o] = s.changes.bays[o] := by
  have : b.val ≠ o.val := fun e => h (Fin.ext e.symm)
  simp [State.postBay, this]

@[simp] theorem State.postBay_station (s : State) (b : BayIx) (c : BayCause) :
    (s.postBay b c).changes.station = s.changes.station := rfl

/-- A state rebuilt from the fields of one of its own updates is that update. -/
theorem State.bays_eq_of_bay (s t : State) (h : ∀ b, s.bay b = t.bay b) : s.bays = t.bays := by
  apply Vector.ext
  intro i hi
  exact h ⟨i, hi⟩

end Sys2Proof.Machine
end

