-- ==== Sys2Proof/Laws/Ops.lean ====
section
/-! SUPPORT. One lemma for each shared operation that says what it can do: how a request is taken, which fields of the state
an operation leaves alone, and which bays it leaves alone. -/

namespace Sys2Proof.Machine

/-! ### Requests and events -/

theorem takeRequest_accepting (kind : Byte) (act : State → State × List Byte) (s : State) (h : s.accepting) :
    takeRequest kind act s =
      { (act { s with rx := .hunt }).1 with reply := some ⟨kind + 0x80, (act { s with rx := .hunt }).2⟩ } := by
  obtain ⟨h1, h2, h3⟩ := h
  simp [takeRequest, whenRunning, State.running, h1, h2, h3]

/-- A request that answers with the state it finds is that state answered. -/
theorem takeRequest_answer (kind : Byte) (act : State → State × List Byte) (s : State) (h : s.accepting) (p : List Byte)
    (e : act { s with rx := .hunt } = ({ s with rx := .hunt }, p)) :
    takeRequest kind act s = s.answered (kind + 0x80) p := by
  rw [takeRequest_accepting kind act s h, e]; rfl

theorem takeRequest_busy (kind : Byte) (act : State → State × List Byte) (s : State) (r : Reply) (h : s.works)
    (hr : s.reply = some r) : takeRequest kind act s = { s with rx := .hunt } := by
  obtain ⟨h1, h2⟩ := h
  simp [takeRequest, whenRunning, State.running, h1, h2, hr]

theorem takeRequest_stopped (kind : Byte) (act : State → State × List Byte) (s : State) (h : s.running = false) :
    takeRequest kind act s = s := by
  simp [takeRequest, whenRunning, h]

theorem whenRunning_works (s : State) (act : State → State) (h : s.works) : whenRunning s act = act s := by
  obtain ⟨h1, h2⟩ := h
  simp [whenRunning, State.running, h1, h2]

theorem whenRunning_stopped (s : State) (act : State → State) (h : s.running = false) : whenRunning s act = s := by
  simp [whenRunning, h]

/-- A property that a state has and that an event keeps holds after the event, whether the part runs or not. -/
theorem whenRunning_keeps (P : State → Prop) (s : State) (act : State → State) (h : P s) (k : P s → P (act s)) :
    P (whenRunning s act) := by
  unfold whenRunning
  split
  · exact k h
  · exact h

/-- A property that a state has, that reception and the reply do not touch and that a request keeps holds after it. -/
theorem takeRequest_keeps (P : State → Prop) (kind : Byte) (act : State → State × List Byte) (s : State) (h : P s)
    (rx : ∀ t x, P t → P { t with rx := x }) (reply : ∀ t x, P t → P { t with reply := x })
    (k : ∀ t, P t → P (act t).1) : P (takeRequest kind act s) := by
  unfold takeRequest
  refine whenRunning_keeps P s _ h fun h => ?_
  split
  · exact rx s .hunt h
  · exact reply _ _ (k _ (rx s .hunt h))

/-! ### Timers and the steps in which no command waits -/

theorem timeUp_iff (now : Nat) (e : Option Nat) : timeUp now e = true ↔ ∃ n, e = some n ∧ n ≤ now := by
  cases e <;> simp [timeUp]

/-- An expiry that the count has reached is taken (R179). -/
theorem expire_due (running : Bay → Option Nat) (b : BayIx) (act : State → State) (s : State) (h : s.works) (n : Nat)
    (e : running (s.bay b) = some n) (l : n ≤ s.ms) : expire running b act s = act s := by
  simp [expire, whenRunning_works s _ h, timeUp, e, l]

/-- Before the count reaches the expiry of a timer that runs, its expiry changes nothing (R179). -/
theorem expire_early (running : Bay → Option Nat) (b : BayIx) (act : State → State) (s : State)
    (h : ∀ n, running (s.bay b) = some n → s.ms < n) : expire running b act s = s := by
  have e : timeUp s.ms (running (s.bay b)) = false := by
    cases hr : running (s.bay b) with
    | none => rfl
    | some n => simpa [timeUp] using h n hr
  unfold expire whenRunning
  simp [e]

/-- A property that a state has and that the expiry's act keeps holds after the expiry. -/
theorem expire_keeps (P : State → Prop) (running : Bay → Option Nat) (b : BayIx) (act : State → State) (s : State)
    (h : P s) (k : P s → P (act s)) : P (expire running b act s) := by
  refine whenRunning_keeps P s _ h fun h => ?_
  split
  · exact k h
  · exact h

/-- What a step with no command waiting does: one of the events that are due is queued, or, with none due, a refresh that the
count stands at is made where the part runs, and one crystal period passes; a count that it reaches is marked for what it
brings. -/
theorem tick_cases (s : State) :
    (∃ i n, i ∈ s.due ∧ tick s = { s with pending := [i], freeIndex := n }) ∨
    (s.due = [] ∧ ∃ u, u = crystalPeriod (whenRunning s refreshChain) ∧
      (u.ms = s.ms ∧ tick s = { u with refreshDue := false } ∨
       u.ms ≠ s.ms ∧ tick s = { u with
         refreshDue := decide (u.ms % 4 = Config.refreshPhase % 4), evaluationDue := decide (u.ms % 100 = 0) })) := by
  unfold tick
  split
  · rename_i e
    unfold passPeriod
    simp only
    split
    · rename_i h; exact .inr ⟨e, _, rfl, .inl ⟨h, rfl⟩⟩
    · rename_i h; exact .inr ⟨e, _, rfl, .inr ⟨h, rfl⟩⟩
  · rename_i i rest e
    refine .inl ?_
    rw [e]
    unfold takeDue
    split
    · exact ⟨i, s.freeIndex, by simp, rfl⟩
    · rename_i j tail
      refine ⟨_, _, ?_, rfl⟩
      have : Config.firstDue s.freeIndex % ((j :: tail).length + 1) < (i :: j :: tail).length :=
        Nat.mod_lt _ (Nat.succ_pos _)
      rw [List.getD_eq_getElem _ _ this]
      exact List.getElem_mem this

/-- A crystal period writes the time base and the station clock only. -/
theorem crystalPeriod_frame (s : State) :
    crystalPeriod s = { s with
      ms := (crystalPeriod s).ms, msRemainder := (crystalPeriod s).msRemainder
      freeIndex := (crystalPeriod s).freeIndex, clock := (crystalPeriod s).clock } := by
  unfold crystalPeriod tickPhase tickCount countUp
  (repeat' split) <;> rfl

/-! ### The refresh of the select chain and the evaluation of the band -/

@[simp] theorem Pulse.refresh_of_not_awaiting (p : Pulse) (h : p.phase.awaitsRefresh = false) : p.refresh = p := by
  simp [Pulse.refresh, h]

/-- A refresh writes the mark of a pulse only. -/
theorem Pulse.refresh_frame (p : Pulse) : p.refresh = { p with refreshed := p.refresh.refreshed } := by
  unfold Pulse.refresh; split <;> rfl

@[simp] theorem Channel.refresh_stall (x : Channel) : x.refresh.stall = x.stall := by
  unfold Channel.refresh; split <;> rfl

@[simp] theorem Channel.refresh_short (x : Channel) : x.refresh.short = x.short := by
  unfold Channel.refresh; split <;> rfl

theorem Channel.refresh_driving (x : Channel) (p : Pulse) (h : x.mode = .driving p) :
    x.refresh.mode = .driving p.refresh := by simp [Channel.refresh, h]

theorem Channel.refresh_resting (x : Channel) (h : ∀ p, x.mode ≠ .driving p) : x.refresh = x := by
  unfold Channel.refresh
  split
  · rename_i p e; exact absurd e (h p)
  · rfl
  · rfl

/-- The refresh writes the chain, the marks of the pulses and its own mark only. -/
theorem refreshChain_frame (s : State) :
    refreshChain s = { s with
      refreshDue := (refreshChain s).refreshDue, chain := (refreshChain s).chain, channels := (refreshChain s).channels } := by
  unfold refreshChain; split <;> rfl

/-- With no refresh at the count nothing changes. -/
theorem refreshChain_idle (s : State) (h : s.refreshDue = false) : refreshChain s = s := by
  simp [refreshChain, h]

/-- After the refresh none is left to make at the count. -/
@[simp] theorem refreshChain_refreshDue (s : State) : (refreshChain s).refreshDue = false := by
  unfold refreshChain
  split
  · rfl
  · rename_i h; simpa using h

/-- At a refresh the chain takes its new value for every bay (R24, R144). -/
theorem refreshChain_chain (s : State) (b : BayIx) :
    (refreshChain s).chain[b] = if s.refreshDue then s.chainSlot b else s.chain[b] := by
  unfold refreshChain
  split
  · simp
  · rfl

/-- The refresh carries no channel to a bay for which no pulse is in flight (R160). -/
theorem State.carriedChannel_none (s : State) (b : BayIx)
    (h : ∀ (c : Fin 4) p, s.pulse? c = some p → p.bay = b → p.phase = .coast) : s.carriedChannel b = none := by
  rw [State.carriedChannel, List.find?_eq_none]
  intro c _ k
  rw [Option.any_eq_true] at k
  obtain ⟨p, e, k⟩ := k
  have k := of_decide_eq_true k
  exact k.2 (h c p e k.1)

/-- A channel drives the same pulse through a refresh, but for its mark, and no channel begins or ends a pulse. -/
theorem refreshChain_pulse (s : State) (c : Fin 4) :
    (refreshChain s).pulse? c = if s.refreshDue then (s.pulse? c).map Pulse.refresh else s.pulse? c := by
  unfold refreshChain
  split
  · simp only [State.pulse?, Fin.getElem_fin, Vector.getElem_map]
    cases h : (s.channels[c.val]).mode <;> simp [Channel.refresh, h]
  · rfl

@[simp] theorem refreshChain_bay (s : State) (b : BayIx) : (refreshChain s).bay b = s.bay b := by
  rw [refreshChain_frame]; rfl

/-- A conversion in its own slot takes effect, and the scanner goes on to the next slot (R162). -/
theorem convert_here (slot : Fin 5) (take : State → State) (s : State) (h : s.mainPower = true) (k : s.scanSlot = slot) :
    convert slot take s = take { s with scanSlot := s.scanSlot + 1 } := by simp [convert, h, k]

/-- With main power absent, or in another slot, there is no such conversion (R162). -/
theorem convert_elsewhere (slot : Fin 5) (take : State → State) (s : State)
    (h : s.mainPower = false ∨ s.scanSlot ≠ slot) : convert slot take s = s := by
  rcases h with h | h <;> simp [convert, h]

/-- The evaluation is taken at its count only, and once (R167). -/
theorem takeEvaluation_due (s : State) (h : s.evaluationDue = true) :
    takeEvaluation s = evaluateBand { s with evaluationDue := false } := by simp [takeEvaluation, h]

theorem takeEvaluation_idle (s : State) (h : s.evaluationDue = false) : takeEvaluation s = s := by
  simp [takeEvaluation, h]

/-! ### Bays -/

@[simp] theorem BayState.lamp_vacant : BayState.vacant.lamp = .off := rfl

/-- Turning a bay changes its state and its lamp only. -/
theorem Bay.turn_frame (now : Nat) (new : BayState) (y : Bay) :
    y.turn now new = { y with
      state := new, lamp := new.lamp, lampPhase := (y.turn now new).lampPhase, lampSince := (y.turn now new).lampSince } := by
  unfold Bay.turn
  split
  · rename_i h; rw [← h]
  · rfl

/-- Leaving a state stops timers only. -/
theorem Bay.leave_frame (new : BayState) (y : Bay) :
    y.leave new = { y with
      pendingTag := (y.leave new).pendingTag, tagWindow := (y.leave new).tagWindow, takeWindow := (y.leave new).takeWindow
      retryDelay := (y.leave new).retryDelay, deadline := (y.leave new).deadline } := by
  obtain ⟨st⟩ := y
  cases new <;> cases st <;> rfl

/-- A change to another state writes the bay and its STATE cause (R4). -/
theorem changeState_ne (b : BayIx) (new : BayState) (s : State) (h : (s.bay b).state ≠ new) :
    changeState b new s = (s.modBay b fun y => (y.leave new).turn s.ms new).postBay b .state := by
  simp [changeState, h]

theorem changeState_self (b : BayIx) (new : BayState) (s : State) (h : (s.bay b).state = new) :
    changeState b new s = s := by
  simp [changeState, h]

theorem changeState_frame (b : BayIx) (new : BayState) (s : State) :
    changeState b new s =
      { s with bays := (changeState b new s).bays, changes := (changeState b new s).changes } := by
  unfold changeState; split <;> rfl

theorem changeState_other (b o : BayIx) (new : BayState) (s : State) (h : o ≠ b) :
    (changeState b new s).bay o = s.bay o := by
  unfold changeState; split
  · rfl
  · simp [State.modBay_bay_ne s _ b o h]

@[simp] theorem changeState_state (b : BayIx) (new : BayState) (s : State) : ((changeState b new s).bay b).state = new := by
  unfold changeState; split
  · assumption
  · simp only [State.postBay_bay, State.modBay_bay_self]; rw [Bay.turn_frame]

/-- A change of state leaves every item of the bay but its state, lamp and timers. -/
theorem changeState_bay (b : BayIx) (new : BayState) (s : State) :
    (changeState b new s).bay b = { s.bay b with
      state := new
      pendingTag := ((changeState b new s).bay b).pendingTag, tagWindow := ((changeState b new s).bay b).tagWindow
      takeWindow := ((changeState b new s).bay b).takeWindow, retryDelay := ((changeState b new s).bay b).retryDelay
      deadline := ((changeState b new s).bay b).deadline, lamp := ((changeState b new s).bay b).lamp
      lampPhase := ((changeState b new s).bay b).lampPhase, lampSince := ((changeState b new s).bay b).lampSince } := by
  by_cases h : (s.bay b).state = new
  · rw [changeState_self b new s h, ← h]
  · rw [changeState_ne b new s h]
    simp only [State.postBay_bay, State.modBay_bay_self]
    rw [Bay.turn_frame, Bay.leave_frame]

/-! ### The journal -/

theorem appendRecord_frame (r : JournalRecord) (s : State) :
    appendRecord r s = { s with
      journal := s.journal ++ [r], highWaterArmed := (appendRecord r s).highWaterArmed
      changes := (appendRecord r s).changes } := by
  unfold appendRecord; simp only; split <;> rfl

@[simp] theorem appendRecord_bay (r : JournalRecord) (s : State) (b : BayIx) : (appendRecord r s).bay b = s.bay b := by
  rw [appendRecord_frame]; rfl

theorem localReturn_frame (b : BayIx) (minute : Nat) (k : Fin 64) (r : Rental) (s : State) :
    localReturn b minute k r s = { s with
      journal := (localReturn b minute k r s).journal, highWaterArmed := (localReturn b minute k r s).highWaterArmed
      changes := (localReturn b minute k r s).changes, rentals := s.rentals.set k.val none k.isLt } := by
  unfold localReturn; simp only; rw [appendRecord_frame]; rfl

@[simp] theorem localReturn_bay (b o : BayIx) (minute : Nat) (k : Fin 64) (r : Rental) (s : State) :
    (localReturn b minute k r s).bay o = s.bay o := by
  rw [localReturn_frame]; rfl

@[simp] theorem markProcessed_bay (b : BayIx) (s : State) : (markProcessed b s).bay b =
    { s.bay b with processed := true, arrival := some ((s.bay b).arrival.getD s.clock.minute) } := by
  simp [markProcessed]

@[simp] theorem fixMinute_bay (b : BayIx) (s : State) : (fixMinute b s).bay b =
    { s.bay b with arrival := some ((s.bay b).arrival.getD s.clock.minute) } := by
  simp [fixMinute]

theorem fixMinute_other (b o : BayIx) (s : State) (h : o ≠ b) : (fixMinute b s).bay o = s.bay o :=
  State.modBay_bay_ne s _ b o h

theorem markProcessed_other (b o : BayIx) (s : State) (h : o ≠ b) : (markProcessed b s).bay o = s.bay o :=
  State.modBay_bay_ne s _ b o h

/-- A foreign return writes of its bay the held return only. -/
theorem foreignReturn_bay (b : BayIx) (minute : Nat) (i : Identity) (s : State) :
    (foreignReturn b minute i s).bay b = { s.bay b with held := ((foreignReturn b minute i s).bay b).held } := by
  unfold foreignReturn; simp only; split
  · rw [State.postBay_bay, appendRecord_bay]
  · rw [State.postBay_bay, State.modBay_bay_self]; rfl

theorem foreignReturn_frame (b : BayIx) (minute : Nat) (i : Identity) (s : State) :
    foreignReturn b minute i s = { s with
      journal := (foreignReturn b minute i s).journal, highWaterArmed := (foreignReturn b minute i s).highWaterArmed
      changes := (foreignReturn b minute i s).changes, heldOrder := (foreignReturn b minute i s).heldOrder
      bays := (foreignReturn b minute i s).bays } := by
  unfold foreignReturn; simp only; split
  · rw [appendRecord_frame]; rfl
  · rfl

theorem foreignReturn_other (b o : BayIx) (minute : Nat) (i : Identity) (s : State) (h : o ≠ b) :
    (foreignReturn b minute i s).bay o = s.bay o := by
  unfold foreignReturn; simp only; split
  · simp
  · rw [State.postBay_bay, State.modBay_bay_ne _ _ b o h]; rfl

/-- Return processing writes the journal, the rental table, the held order, the bay and its causes, and nothing else. -/
theorem processReturn_frame (b : BayIx) (s : State) :
    processReturn b s = { s with
      journal := (processReturn b s).journal, highWaterArmed := (processReturn b s).highWaterArmed
      changes := (processReturn b s).changes, heldOrder := (processReturn b s).heldOrder
      rentals := (processReturn b s).rentals, bays := (processReturn b s).bays } := by
  unfold processReturn
  simp only
  split
  · rfl
  · split
    · split
      · rw [localReturn_frame]; rfl
      · split
        · rfl
        · rw [foreignReturn_frame]; rfl
    · rfl

theorem processReturn_other (b o : BayIx) (s : State) (h : o ≠ b) : (processReturn b s).bay o = s.bay o := by
  unfold processReturn
  simp only
  split
  · rfl
  · split
    · split
      · rw [localReturn_bay, markProcessed_other b o s h]
      · split
        · exact fixMinute_other b o s h
        · rw [foreignReturn_other b o _ _ _ h, markProcessed_other b o s h]
    · rfl

/-- Of the bay itself return processing writes the mark, the arrival minute and the held return. -/
theorem processReturn_bay (b : BayIx) (s : State) :
    (processReturn b s).bay b = { s.bay b with
      processed := ((processReturn b s).bay b).processed, arrival := ((processReturn b s).bay b).arrival
      held := ((processReturn b s).bay b).held } := by
  unfold processReturn
  simp only
  split
  · rfl
  · split
    · split
      · rw [localReturn_bay, markProcessed_bay]
      · split
        · rw [fixMinute_bay]
        · rw [foreignReturn_bay, markProcessed_bay]
    · rfl

/-- A return that is not due is not processed. -/
theorem processReturn_idle (b : BayIx) (s : State) (h : (s.bay b).returnDue = false) : processReturn b s = s := by
  unfold processReturn
  simp only [h]
  split <;> rfl

/-- With nothing held the flush does nothing. -/
theorem flush_empty (s : State) (h : s.heldOrder = []) : flush s = s := by
  simp [flush, h, flushFrom]

theorem writeHeld_frame (b : BayIx) (r : ForeignReturn) (s : State) :
    writeHeld b r s = { s with
      journal := s.journal ++ [.foreignReturn r], highWaterArmed := (writeHeld b r s).highWaterArmed
      changes := (writeHeld b r s).changes, heldOrder := s.heldOrder.tail, bays := (writeHeld b r s).bays } := by
  unfold writeHeld; rw [appendRecord_frame]; rfl

/-- The flush writes the journal, the held order, bays and causes. -/
theorem flushFrom_frame (l : List BayIx) (s : State) :
    (flushFrom l s).1 = { s with
      journal := (flushFrom l s).1.journal, highWaterArmed := (flushFrom l s).1.highWaterArmed
      changes := (flushFrom l s).1.changes, heldOrder := (flushFrom l s).1.heldOrder
      bays := (flushFrom l s).1.bays } := by
  induction l generalizing s with
  | nil => rfl
  | cons b rest ih =>
    unfold flushFrom
    split
    · rename_i r _
      split
      · simp only
        rw [ih (writeHeld b r s), writeHeld_frame]
      · rfl
    · rw [ih]

/-- The flush with its waiting returns writes journal, held order, rental table, bays and causes, and nothing else. -/
theorem flush_frame (s : State) :
    flush s = { s with
      journal := (flush s).journal, highWaterArmed := (flush s).highWaterArmed, changes := (flush s).changes
      heldOrder := (flush s).heldOrder, rentals := (flush s).rentals, bays := (flush s).bays } := by
  have fold : ∀ (l : List BayIx) (t : State), l.foldl (fun t b => processReturn b t) t = { t with
      journal := (l.foldl (fun t b => processReturn b t) t).journal
      highWaterArmed := (l.foldl (fun t b => processReturn b t) t).highWaterArmed
      changes := (l.foldl (fun t b => processReturn b t) t).changes
      heldOrder := (l.foldl (fun t b => processReturn b t) t).heldOrder
      rentals := (l.foldl (fun t b => processReturn b t) t).rentals
      bays := (l.foldl (fun t b => processReturn b t) t).bays } := by
    intro l
    induction l with
    | nil => intro t; rfl
    | cons b rest ih =>
      intro t
      rw [List.foldl_cons, ih (processReturn b t)]
      rw [processReturn_frame]
  unfold flush
  simp only
  rw [fold, flushFrom_frame]

/-! ### Entries to bay states -/

theorem startTagWindow_frame (b : BayIx) (s : State) :
    startTagWindow b s = { s with bays := (startTagWindow b s).bays } := by
  unfold startTagWindow; split <;> rfl

theorem startTagWindow_other (b o : BayIx) (s : State) (h : o ≠ b) : (startTagWindow b s).bay o = s.bay o := by
  unfold startTagWindow; split
  · exact State.modBay_bay_ne s _ b o h
  · rfl

theorem startTagWindow_bay (b : BayIx) (s : State) :
    (startTagWindow b s).bay b = { s.bay b with tagWindow := ((startTagWindow b s).bay b).tagWindow } := by
  unfold startTagWindow; split
  · simp
  · rfl

/-- What the entries to DOCKED and FAULT, and re-derivation, may write. -/
theorem enterDocked_frame (b : BayIx) (s : State) :
    enterDocked b s = { s with
      journal := (enterDocked b s).journal, highWaterArmed := (enterDocked b s).highWaterArmed
      changes := (enterDocked b s).changes, heldOrder := (enterDocked b s).heldOrder
      rentals := (enterDocked b s).rentals, bays := (enterDocked b s).bays } := by
  unfold enterDocked secured
  rw [processReturn_frame, startTagWindow_frame, changeState_frame]

theorem enterDocked_other (b o : BayIx) (s : State) (h : o ≠ b) : (enterDocked b s).bay o = s.bay o := by
  unfold enterDocked secured
  rw [processReturn_other b o _ h, startTagWindow_other b o _ h, changeState_other b o _ _ h]

/-- Entry to DOCKED leaves of the bay all but state, lamp, timers, mark, arrival minute and held return. -/
theorem enterDocked_bay (b : BayIx) (s : State) :
    (enterDocked b s).bay b = { s.bay b with
      state := .docked
      pendingTag := ((enterDocked b s).bay b).pendingTag, tagWindow := ((enterDocked b s).bay b).tagWindow
      takeWindow := ((enterDocked b s).bay b).takeWindow, retryDelay := ((enterDocked b s).bay b).retryDelay
      deadline := ((enterDocked b s).bay b).deadline, lamp := ((enterDocked b s).bay b).lamp
      lampPhase := ((enterDocked b s).bay b).lampPhase, lampSince := ((enterDocked b s).bay b).lampSince
      processed := ((enterDocked b s).bay b).processed
      arrival := ((enterDocked b s).bay b).arrival, held := ((enterDocked b s).bay b).held } := by
  unfold enterDocked secured
  rw [processReturn_bay, startTagWindow_bay, changeState_bay]

@[simp] theorem enterDocked_state (b : BayIx) (s : State) : ((enterDocked b s).bay b).state = .docked := by
  rw [enterDocked_bay]

theorem postRequest_frame (b : BayIx) (s : State) :
    postRequest b s = { s with
      queue := (postRequest b s).queue, nextOrder := (postRequest b s).nextOrder, bays := (postRequest b s).bays } := by
  unfold postRequest; split <;> rfl

/-- A bay that holds a request by its state and link posts it at the back with a new order (R139). -/
theorem postRequest_some (b : BayIx) (s : State) (k : DriveKind) (h : (s.bay b).requestKind = some k) :
    postRequest b s = { s with
      queue := s.queue ++ [⟨b, k, s.nextOrder⟩], nextOrder := s.nextOrder + 1
      bays := s.bays.set b.val { s.bay b with driveStage := .queued } b.isLt } := by
  unfold postRequest; rw [h]; rfl

theorem postRequest_other (b o : BayIx) (s : State) (h : o ≠ b) : (postRequest b s).bay o = s.bay o := by
  unfold postRequest; split
  · rw [State.modBay_bay_ne _ _ b o h]; rfl
  · rfl

theorem enterLatching_frame (b : BayIx) (s : State) :
    enterLatching b s = { s with
      queue := (enterLatching b s).queue, nextOrder := (enterLatching b s).nextOrder
      bays := (enterLatching b s).bays, changes := (enterLatching b s).changes } := by
  unfold enterLatching
  rw [postRequest_frame, changeState_frame]; rfl

theorem enterLatching_other (b o : BayIx) (s : State) (h : o ≠ b) : (enterLatching b s).bay o = s.bay o := by
  unfold enterLatching
  rw [postRequest_other b o _ h, State.modBay_bay_ne _ _ b o h, changeState_other b o _ _ h]

/-- Entry to LATCHING always posts a LATCH request at the back of the queue. -/
theorem enterLatching_eq (b : BayIx) (s : State) :
    enterLatching b s = { s with
      queue := s.queue ++ [⟨b, .latch, s.nextOrder⟩], nextOrder := s.nextOrder + 1
      changes := (changeState b .latching s).changes
      bays := s.bays.set b.val { (changeState b .latching s).bay b with
        attempts := 0, link := .unlinked, driveStage := .queued } b.isLt } := by
  unfold enterLatching
  rw [postRequest_some b _ .latch (by simp [Bay.requestKind])]
  have e := changeState_frame b .latching s
  have hb : (changeState b .latching s).bays = s.bays.set b.val ((changeState b .latching s).bay b) b.isLt := by
    apply Vector.ext
    intro i hi
    by_cases h : b.val = i
    · subst h; simp [State.bay]
    · rw [Vector.getElem_set_ne _ _ h]
      exact changeState_other b ⟨i, hi⟩ .latching s (fun x => h (by rw [← x]))
  rw [e]
  simp [State.modBay, State.bay]
  rw [hb]; simp

/-- Entry to UNLATCHING under a link that names a request posts it at the back of the queue. -/
theorem enterUnlatching_eq (b : BayIx) (link : Link) (s : State) (k : DriveKind)
    (h : ∀ y : Bay, y.state = .unlatching → y.link = link → y.requestKind = some k) :
    enterUnlatching b link s = { s with
      queue := s.queue ++ [⟨b, k, s.nextOrder⟩], nextOrder := s.nextOrder + 1
      changes := (changeState b .unlatching s).changes
      bays := s.bays.set b.val { (changeState b .unlatching s).bay b with
        attempts := 0, link := link, driveStage := .queued } b.isLt } := by
  unfold enterUnlatching
  rw [postRequest_some b _ k (h _ (by simp) (by simp))]
  have e := changeState_frame b .unlatching s
  have hb : (changeState b .unlatching s).bays = s.bays.set b.val ((changeState b .unlatching s).bay b) b.isLt := by
    apply Vector.ext
    intro i hi
    by_cases h : b.val = i
    · subst h; simp [State.bay]
    · rw [Vector.getElem_set_ne _ _ h]
      exact changeState_other b ⟨i, hi⟩ .unlatching s (fun x => h (by rw [← x]))
  rw [e]
  simp [State.modBay, State.bay]
  rw [hb]; simp

theorem enterUnlatching_other (b o : BayIx) (link : Link) (s : State) (h : o ≠ b) :
    (enterUnlatching b link s).bay o = s.bay o := by
  unfold enterUnlatching
  rw [postRequest_other b o _ h, State.modBay_bay_ne _ _ b o h, changeState_other b o _ _ h]

theorem enterUnlatching_frame (b : BayIx) (link : Link) (s : State) :
    enterUnlatching b link s = { s with
      queue := (enterUnlatching b link s).queue, nextOrder := (enterUnlatching b link s).nextOrder
      bays := (enterUnlatching b link s).bays, changes := (enterUnlatching b link s).changes } := by
  unfold enterUnlatching
  rw [postRequest_frame, changeState_frame]; rfl

/-! ### Re-derivation -/

/-- Re-derivation writes what entries to its four states write. -/
theorem rederive_frame (b : BayIx) (s : State) :
    rederive b s = { s with
      journal := (rederive b s).journal, highWaterArmed := (rederive b s).highWaterArmed
      changes := (rederive b s).changes, heldOrder := (rederive b s).heldOrder
      rentals := (rederive b s).rentals, bays := (rederive b s).bays
      queue := (rederive b s).queue, nextOrder := (rederive b s).nextOrder } := by
  unfold rederive
  simp only
  split
  · rw [enterDocked_frame]; rfl
  · rw [enterLatching_frame]; rfl
  · rw [changeState_frame]; rfl
  · rw [enterUnlatching_frame]; rfl

theorem rederive_other (b o : BayIx) (s : State) (h : o ≠ b) : (rederive b s).bay o = s.bay o := by
  have e := State.modBay_bay_ne s (Bay.rederived s.clock.minute) b o h
  unfold rederive
  simp only
  split
  · rw [enterDocked_other b o _ h, e]
  · rw [enterLatching_other b o _ h, e]
  · rw [changeState_other b o _ _ h, e]
  · rw [enterUnlatching_other b o _ _ h, e]

/-- Re-derivation leaves presence and latch. -/
theorem Bay.rederived_levels (m : Nat) (y : Bay) :
    (y.rederived m).presence = y.presence ∧ (y.rederived m).latch = y.latch := by
  unfold Bay.rederived
  simp only
  split <;> simp [Bay.clearBike]

/-- The state re-derivation reaches follows from presence and latch (the table of R17). -/
theorem rederive_state (b : BayIx) (s : State) :
    ((rederive b s).bay b).state = restState (s.bay b).presence (s.bay b).latch := by
  obtain ⟨h1, h2⟩ := Bay.rederived_levels s.clock.minute (s.bay b)
  unfold rederive
  simp only [State.modBay_bay_self, h1, h2]
  split <;> rename_i h1 h2 <;> rw [h1, h2]
  · exact enterDocked_state b _
  · rw [enterLatching_eq]; simp [restState, State.bay]
    exact changeState_state b .latching _
  · rename_i h3; exact changeState_state b .vacant _
  · rw [enterUnlatching_eq b .readiness _ .unlatchReady (fun y a c => by simp [Bay.requestKind, a, c])]
    simp [restState, State.bay]
    exact changeState_state b .unlatching _

/-! ### The ends of a release -/

theorem endRelease_other (b o : BayIx) (x : LastOutcome) (s : State) (h : o ≠ b) :
    (endRelease b x s).bay o = s.bay o := by
  unfold endRelease; rw [State.postBay_bay, State.modBay_bay_ne _ _ b o h]

theorem removeRental_frame (k : Fin 64) (r : Rental) (s : State) :
    removeRental k r s = { s with
      rentals := s.rentals.set k.val none k.isLt, spent := (removeRental k r s).spent } := by
  unfold removeRental; simp only; split <;> rfl

/-- A discard writes the rental table, the spent list, bays and causes, and what its flush writes. -/
theorem discardRelease_frame (b : BayIx) (o : LastOutcome) (s : State) :
    discardRelease b o s = { s with
      journal := (discardRelease b o s).journal, highWaterArmed := (discardRelease b o s).highWaterArmed
      changes := (discardRelease b o s).changes, heldOrder := (discardRelease b o s).heldOrder
      rentals := (discardRelease b o s).rentals, bays := (discardRelease b o s).bays
      spent := (discardRelease b o s).spent } := by
  unfold discardRelease
  split
  · split
    · rw [flush_frame]; unfold endRelease; rw [removeRental_frame]; rfl
    · rfl
  · rw [flush_frame]; rfl
  · rfl
  · rfl

/-- With nothing held a discard of a rental is the removal of its record and the end of the release. -/
theorem discardRelease_rental (b : BayIx) (o : LastOutcome) (s : State) (k : Fin 64) (r : Rental)
    (hl : (s.bay b).link = .rental k) (hr : s.rentals[k] = some r) (hs : r.stage ≠ .opened) (hh : s.heldOrder = []) :
    discardRelease b o s = endRelease b o (removeRental k r s) := by
  have e : s.heldRental? k = some r := by simp [State.heldRental?, hr, hs]
  unfold discardRelease
  rw [hl]
  simp only [e]
  apply flush_empty
  unfold endRelease
  rw [removeRental_frame]
  exact hh

theorem openRental_frame (k : Fin 64) (r : Rental) (s : State) :
    openRental k r s = { s with
      rentals := s.rentals.set k.val (some { r with stage := .opened, checkout := some s.clock.minute }) k.isLt
      spent := (openRental k r s).spent, journal := (openRental k r s).journal
      highWaterArmed := (openRental k r s).highWaterArmed, changes := (openRental k r s).changes } := by
  unfold openRental; simp only; rw [appendRecord_frame]
  split <;> rfl

/-- The removal of a bike writes the rental table, the spent list, the journal, the bay and causes. -/
theorem removeBike_frame (b : BayIx) (s : State) :
    removeBike b s = { s with
      rentals := (removeBike b s).rentals, spent := (removeBike b s).spent, journal := (removeBike b s).journal
      highWaterArmed := (removeBike b s).highWaterArmed, changes := (removeBike b s).changes
      bays := (removeBike b s).bays } := by
  unfold removeBike
  simp only
  split
  · split
    · unfold endRelease; rw [openRental_frame]; rfl
    · rfl
  · unfold endRelease; rw [appendRecord_frame]; rfl
  · rfl
  · rfl

end Sys2Proof.Machine
end

