-- ==== Sys2Proof/Laws/Entries.lean ====
section
/-! SUPPORT. The whole effect of a change of state, of an entry to DOCKED or FAULT, of re-derivation and of a discard: each
shared operation meets the relation that Safety states for it. -/

namespace Sys2Proof.Machine

/-! ### The committed count -/

theorem length_filter_eq_sum {α : Type} (l : List α) (p : α → Bool) :
    (l.filter p).length = (l.map fun a => if p a then 1 else 0).sum := by
  induction l with
  | nil => rfl
  | cons a l ih =>
    simp only [List.filter_cons, List.map_cons, List.sum_cons, ← ih]
    split <;> simp [Nat.add_comm]

theorem sum_slotWeight (l : List (Fin 64)) (f : Fin 64 → Option Rental) :
    (l.map fun k => slotWeight (f k)).sum =
      2 * (l.filter fun k => (f k).any fun r => decide (r.stage = .pending)).length
      + 2 * (l.filter fun k => (f k).any fun r => decide (r.stage = .released)).length
      + (l.filter fun k => (f k).any fun r => decide (r.stage = .opened)).length := by
  induction l with
  | nil => rfl
  | cons k l ih =>
    simp only [List.map_cons, List.sum_cons, List.filter_cons, ih]
    cases h : f k with
    | none => simp [slotWeight]
    | some r => cases hs : r.stage <;> simp [slotWeight, hs] <;> omega

theorem sum_bayWeight (l : List BayIx) (f : BayIx → Bay) :
    (l.map fun b => bayWeight (f b)).sum = (l.filter fun b => decide ((f b).link = .staff)).length := by
  rw [length_filter_eq_sum]
  congr 1
  apply List.map_congr_left
  intro b _
  unfold bayWeight
  cases (f b).link <;> simp

/-- The committed count of the model is the sum of R126. -/
theorem committed_eq_sum (s : State) : s.committed = s.committedSum := by
  unfold State.committed State.committedSum State.stageCount State.staffReleases allSlots allBays State.bay
  rw [sum_slotWeight, sum_bayWeight (List.finRange 32) fun b => s.bays[b]]
  omega

/-! ### Changes of state -/

theorem leave_timers (new : BayState) (y : Bay) : y.leave new = { y with
    pendingTag := if y.state = .vacant then none else y.pendingTag
    tagWindow := if y.state = .docked ∨ y.state = .fault then none else y.tagWindow
    takeWindow := if y.state = .released then none else y.takeWindow
    retryDelay := if y.state = .latching ∨ y.state = .unlatching then none else y.retryDelay
    deadline := if new = .released ∨ new = .fault then .stopped else y.deadline } := by
  obtain ⟨st⟩ := y
  cases st <;> cases new <;> rfl

theorem changedTo_eq (now : Nat) (new : BayState) (y : Bay) (h : y.state ≠ new) :
    (y.leave new).turn now new = y.changedTo now new new.lamp := by
  rw [leave_timers, Bay.changedTo, if_neg h]
  unfold Bay.turn
  by_cases hl : y.lamp = new.lamp <;> simp [hl]

/-- A change of state of a bay with the record `y` gives `State.entered` (R4). -/
theorem changeState_eq_entered (b : BayIx) (new : BayState) (s : State) :
    changeState b new s = s.entered b new new.lamp (s.bay b) := by
  by_cases h : (s.bay b).state = new
  · rw [changeState_self b new s h, State.entered, if_pos h, Bay.changedTo, if_pos h]
    simp [State.bay]
  · rw [changeState_ne b new s h, State.entered, if_neg h, ← changedTo_eq s.ms new _ h]
    rfl

/-- The same from a state whose record of the bay has just been changed. -/
theorem changeState_modBay (b : BayIx) (new : BayState) (s : State) (f : Bay → Bay) :
    changeState b new (s.modBay b f) = s.entered b new new.lamp (f (s.bay b)) := by
  rw [changeState_eq_entered, State.modBay_bay_self]
  simp [State.entered, State.modBay]

@[simp] theorem State.entered_bay (s : State) (b : BayIx) (new : BayState) (p : LampPattern) (y : Bay) :
    (s.entered b new p y).bay b = y.changedTo s.ms new p := by
  simp [State.entered, State.bay]

@[simp] theorem Bay.changedTo_state (now : Nat) (new : BayState) (p : LampPattern) (y : Bay) :
    (y.changedTo now new p).state = new := by
  unfold Bay.changedTo; split
  · assumption
  · rfl

/-- A change of state leaves presence, identity and mark. -/
theorem Bay.changedTo_bike (now : Nat) (new : BayState) (p : LampPattern) (y : Bay) :
    (y.changedTo now new p).presence = y.presence ∧ (y.changedTo now new p).identity = y.identity ∧
      (y.changedTo now new p).processed = y.processed := by
  unfold Bay.changedTo; split <;> exact ⟨rfl, rfl, rfl⟩

/-! ### Returns -/

/-- A record appended for a return, with RETURN posted at the bay (R96, R98, R135). -/
theorem appendRecord_postBay (r : JournalRecord) (b : BayIx) (s : State) :
    (appendRecord r s).postBay b .returned = s.withReturn b r := by
  unfold appendRecord State.withReturn
  by_cases h : s.journal.length = 191 <;> cases s.highWaterArmed <;> simp [h] <;> rfl

/-- A local return is its record with the slot freed (R96, R97). -/
theorem localReturn_eq (b : BayIx) (minute : Nat) (k : Fin 64) (r : Rental) (s : State) :
    localReturn b minute k r s =
      let x := computeCharge r minute
      { s with rentals := s.rentals.set k.val none k.isLt }.withReturn b (.returned ⟨minute, b, r.bay, r.bike, r.cls, r.rider,
        r.plan, r.checkout.getD 0, x.duration, x.charge, x.settled, x.due⟩) := by
  simp only
  rw [← appendRecord_postBay]
  unfold localReturn appendRecord
  simp only
  split <;> rfl

/-- A foreign return that is not admitted is held (R99). -/
theorem foreignReturn_held (b : BayIx) (minute : Nat) (i : Identity) (s : State) (h : s.admitsForeign = false) :
    foreignReturn b minute i s =
      let r : ForeignReturn := ⟨minute, b, i.bike, i.cls, i.battery⟩
      { s with
        bays := s.bays.set b.val { s.bay b with held := some r } b.isLt
        heldOrder := s.heldOrder ++ [b]
        changes := { s.changes with bays := s.changes.bays.set b.val { s.changes.bays[b] with held := true } b.isLt } } := by
  unfold foreignReturn
  simp only [h]
  rfl

theorem foreignReturn_admitted (b : BayIx) (minute : Nat) (i : Identity) (s : State) (h : s.admitsForeign = true) :
    foreignReturn b minute i s = s.withReturn b (.foreignReturn ⟨minute, b, i.bike, i.cls, i.battery⟩) := by
  unfold foreignReturn
  simp only [h, if_true]
  exact appendRecord_postBay _ b s

theorem committed_congr (s t : State) (h : t.journal = s.journal) (hr : t.rentals = s.rentals)
    (hl : ∀ b, (t.bay b).link = (s.bay b).link) : t.committed = s.committed := by
  simp [State.committed, State.stageCount, State.staffReleases, h, hr, hl]

@[simp] theorem markProcessed_committed (b : BayIx) (s : State) : (markProcessed b s).committed = s.committed := by
  refine committed_congr _ _ rfl rfl fun o => ?_
  by_cases h : o = b
  · subst h; rw [markProcessed_bay]
  · rw [markProcessed_other b o s h]

/-- A known identity starts no tag window (R19). -/
theorem startTagWindow_known (b : BayIx) (s : State) (h : (s.bay b).identity ≠ none) : startTagWindow b s = s := by
  unfold startTagWindow
  cases hi : (s.bay b).identity with
  | none => exact absurd hi h
  | some i => simp

/-- The OPEN record of a bike that no other record holds is found (R95). -/
theorem openRental?_some (s : State) (bike : Nat) (k : Fin 64) (r : Rental) (hk : s.rentals[k] = some r)
    (hb : r.bike = bike) (ho : r.stage = .opened)
    (hu : ∀ (j : Fin 64) x, s.rentals[j] = some x → x.bike = bike → j = k) : s.openRental? bike = some (k, r) := by
  unfold State.openRental?
  cases h : List.find? _ _ with
  | none =>
    have := List.find?_eq_none.mp h (k, r) (by
      simp only [List.mem_filterMap, allSlots, List.mem_finRange, true_and]
      exact ⟨k, by simp [hk]⟩)
    simp [hb, ho] at this
  | some q =>
    obtain ⟨j, x⟩ := q
    have hm := List.mem_of_find?_eq_some h
    have hp := List.find?_some h
    simp only [List.mem_filterMap, allSlots, List.mem_finRange, true_and, Option.map_eq_some_iff, Prod.mk.injEq] at hm
    obtain ⟨a, y, hy, rfl, rfl⟩ := hm
    simp only [Bool.and_eq_true, decide_eq_true_eq] at hp
    obtain rfl := hu a y hy hp.1
    rw [hk] at hy; cases hy; rfl

theorem openRental?_none (s : State) (bike : Nat)
    (hn : ∀ (j : Fin 64) x, s.rentals[j] = some x → x.bike = bike → x.stage ≠ .opened) : s.openRental? bike = none := by
  unfold State.openRental?
  rw [List.find?_eq_none]
  intro q hq
  simp only [List.mem_filterMap, allSlots, List.mem_finRange, true_and, Option.map_eq_some_iff] at hq
  obtain ⟨a, y, hy, rfl⟩ := hq
  simp only [Bool.and_eq_true, decide_eq_true_eq, not_and]
  exact fun hb => hn a y hy hb

/-- An entry to DOCKED, or to FAULT with presence PRESENT, does what R4 has it do. -/
theorem secured_settled (b : BayIx) (v : State)
    (h : (v.bay b).state = .docked ∨ (v.bay b).state = .fault ∧ (v.bay b).presence = .present) :
    EntrySettled b v (secured b v) where
  unknown hi := by
    have e : startTagWindow b v =
        v.modBay b fun y => { y with tagWindow := some (v.ms + 1000 * v.settings.tagWindow) } := by
      simp [startTagWindow, hi]
    unfold secured
    rw [e, processReturn_idle]
    · rfl
    · simp [Bay.returnDue, hi]
  dealt hi hp := by
    unfold secured
    rw [startTagWindow_known b v hi, processReturn_idle b v (by simp [Bay.returnDue, hp])]
  localOne i k r hi hp hk hb ho hu := by
    have due : (v.bay b).returnDue = true := by
      rcases h with h | ⟨h, h'⟩ <;> simp [Bay.returnDue, *]
    have e : secured b v = localReturn b ((v.bay b).arrival.getD v.clock.minute) k r (markProcessed b v) := by
      unfold secured
      rw [startTagWindow_known b v (by simp [hi]), processReturn]
      simp only [hi, due, if_true, openRental?_some v i.bike k r hk hb ho hu]
    rw [e, localReturn_eq]
    rfl
  foreignOne i hi hp hn := by
    have due : (v.bay b).returnDue = true := by
      rcases h with h | ⟨h, h'⟩ <;> simp [Bay.returnDue, *]
    have e : secured b v = if (v.bay b).held.isSome then fixMinute b v else
        foreignReturn b ((v.bay b).arrival.getD v.clock.minute) i (markProcessed b v) := by
      unfold secured
      rw [startTagWindow_known b v (by simp [hi]), processReturn]
      simp only [hi, due, if_true, openRental?_none v i.bike hn]
    rw [e, ← committed_eq_sum]
    refine ⟨fun hh hc => ?_, fun hh hc => ?_, fun hh => ?_⟩
    · have : (markProcessed b v).admitsForeign = true := by simpa [State.admitsForeign] using hc
      rw [if_neg (by simp [hh]), foreignReturn_admitted b _ i _ this]
      rfl
    · have : (markProcessed b v).admitsForeign = false := by simpa [State.admitsForeign] using hc
      rw [if_neg (by simp [hh]), foreignReturn_held b _ i _ this, markProcessed_bay]
      simp [markProcessed, State.modBay]
    · rw [if_pos (Option.isSome_iff_ne_none.mpr hh)]
      rfl

/-- Entry to DOCKED with the record `y` (R4). -/
theorem enterDocked_modBay (b : BayIx) (s : State) (f : Bay → Bay) :
    EntrySettled b (s.entered b .docked .off (f (s.bay b))) (enterDocked b (s.modBay b f)) := by
  unfold enterDocked
  rw [changeState_modBay]
  exact secured_settled b _ (.inl (by simp))

/-- Entry to FAULT with the record `y` (R4, R16). -/
theorem enterFault_modBay (b : BayIx) (s : State) (f : Bay → Bay) :
    FaultEntered b (f (s.bay b)) s (enterFault b (s.modBay b f)) := by
  unfold enterFault
  rw [changeState_modBay]
  have hp := (Bay.changedTo_bike s.ms .fault .fast (f (s.bay b))).1
  refine ⟨fun h => ?_, fun h => ?_⟩
  · simp only [State.entered_bay, BayState.lamp, hp, h, if_true]
    exact secured_settled b _ (.inr ⟨by simp, by simp [hp, h]⟩)
  · simp only [State.entered_bay, BayState.lamp, hp, h]
    simp

/-- A change of state does not touch the request that a bay holds. -/
theorem Bay.changedTo_request (now : Nat) (new : BayState) (p : LampPattern) (y : Bay) (l : Link) (d : DriveStage) (n : Nat) :
    ({ y with attempts := n, link := l, driveStage := d } : Bay).changedTo now new p =
      { y.changedTo now new p with attempts := n, link := l, driveStage := d } := by
  unfold Bay.changedTo; split <;> rfl

/-- Entry to LATCHING with its request at the back of the queue (R5, R7, R17, R21). -/
theorem enterLatching_modBay (b : BayIx) (s : State) (f : Bay → Bay) :
    enterLatching b (s.modBay b f) =
      { s.entered b .latching .slow { f (s.bay b) with attempts := 0, link := .unlinked, driveStage := .queued } with
        queue := s.queue ++ [⟨b, .latch, s.nextOrder⟩], nextOrder := s.nextOrder + 1 } := by
  rw [enterLatching_eq, changeState_modBay, State.entered_bay]
  unfold State.entered
  simp only [State.modBay, BayState.lamp, Bay.changedTo_request, Vector.set_set]

/-- Entry to UNLATCHING with its request at the back of the queue (R5, R17, R29, R76). -/
theorem enterUnlatching_modBay (b : BayIx) (l : Link) (s : State) (k : DriveKind)
    (h : ∀ y : Bay, y.state = .unlatching → y.link = l → y.requestKind = some k) (f : Bay → Bay) :
    enterUnlatching b l (s.modBay b f) =
      { s.entered b .unlatching .slow { f (s.bay b) with attempts := 0, link := l, driveStage := .queued } with
        queue := s.queue ++ [⟨b, k, s.nextOrder⟩], nextOrder := s.nextOrder + 1 } := by
  rw [enterUnlatching_eq b l _ k h, changeState_modBay, State.entered_bay]
  unfold State.entered
  simp only [State.modBay, BayState.lamp, Bay.changedTo_request, Vector.set_set]

theorem State.modBay_modBay (s : State) (b : BayIx) (f g : Bay → Bay) :
    (s.modBay b f).modBay b g = s.modBay b fun y => g (f y) := by
  simp [State.modBay, State.bay]

/-- Re-derivation of a bay with the record `y` does what R17 has it do. -/
theorem rederive_modBay (b : BayIx) (s : State) (f : Bay → Bay) :
    Rederived b (f (s.bay b)) s (rederive b (s.modBay b f)) := by
  obtain ⟨hp, hl⟩ := Bay.rederived_levels s.clock.minute (f (s.bay b))
  have hc : (s.modBay b f).clock = s.clock := rfl
  unfold rederive Rederived
  simp only [State.modBay_modBay, State.modBay_bay_self, hc, hp, hl]
  cases h1 : (f (s.bay b)).presence <;> cases h2 : (f (s.bay b)).latch <;> simp only
  · rw [changeState_modBay]; simp [Bay.rederived, Bay.clearBike, BayState.lamp, h1, h2]
  · rw [enterUnlatching_modBay b .readiness s .unlatchReady (fun y a c => by simp [Bay.requestKind, a, c])]
    simp [Bay.rederived, Bay.clearBike, h1, h2]
  · rw [enterLatching_modBay]; simp [Bay.rederived, h1, h2]
  · have := enterDocked_modBay b s fun y => (f y).rederived s.clock.minute
    simpa [Bay.rederived, h1, h2] using this

/-- The discard of a release gives `State.discarded` (R84, R87, R130). -/
theorem discardRelease_modBay (b : BayIx) (o : LastOutcome) (s : State) (f : Bay → Bay) (h : s.hasRelease b)
    (hf : (f (s.bay b)).link = (s.bay b).link) :
    discardRelease b o (s.modBay b f) = s.discarded b o (f (s.bay b)) := by
  unfold discardRelease State.discarded State.withoutRelease
  rcases h with h | ⟨k, r, h, hr, hs⟩
  · simp only [State.modBay_bay_self, hf, h]
    congr 1
    simp [endRelease, State.modBay, State.postBay, BayCauses.add, State.bay]
  · have e : (s.modBay b f).heldRental? k = some r := by
      show (s.rentals[k]).filter _ = _
      simp [hr, hs]
    simp only [State.modBay_bay_self, hf, h, e, hr]
    congr 1
    unfold removeRental
    simp only
    split <;>
      simp [endRelease, withdrawSpent, State.setRental, State.modBay, State.postBay, BayCauses.add, State.bay]

end Sys2Proof.Machine
end

