-- ==== Sys2Proof/Laws/PerInstr.lean ====
section
/-! SUPPORT. The per-command family FrameShape: what every command is as a frame on the link. -/

namespace Sys2Proof.Laws.FrameShape

/-- A request is sent as a kind code of the catalogue with a payload of exactly the length the catalogue gives (spec 11.3),
its KIND and PAYLOAD fit a frame (LEN in 1..240), and the command is well formed. -/
def Statement (i : Instr) : Prop :=
  ∀ kind payload, Frame.encodeRequest i = some (kind, payload) →
    i.wellFormed = true ∧ bodyLengthOk (kind :: payload) = true ∧
      ∃ row, Frame.rowOf kind = some row ∧ payload.length = row.length

/-- A command that is no request. -/
theorem of_none {i : Instr} (h : Frame.encodeRequest i = none) : Statement i := by
  intro kind payload e
  rw [h] at e
  cases e

/-- A request whose kind has a row of its length. -/
theorem of_row {i : Instr} (kind : Byte) (payload : List Byte) (n : Nat) (h : Frame.encodeRequest i = some (kind, payload))
    (w : i.wellFormed = true) (l : payload.length = n) (m : n ≤ 239)
    (r : (Frame.rowOf kind).map Frame.Row.length = some n) : Statement i := by
  intro k p e
  rw [h] at e
  cases e
  refine ⟨w, ?_, ?_⟩
  · simp only [bodyLengthOk, List.length_cons, decide_eq_true_eq]
    omega
  · obtain ⟨row, h1, h2⟩ := Option.map_eq_some_iff.mp r
    exact ⟨row, h1, by rw [l, h2]⟩

theorem hello : Statement .hello :=
  of_row 0x01 _ 0 rfl rfl rfl (by decide) rfl

theorem status : Statement .status :=
  of_row 0x02 _ 0 rfl rfl rfl (by decide) rfl

theorem restart : Statement .restart :=
  of_row 0x03 _ 0 rfl rfl rfl (by decide) rfl

theorem changesGet : Statement .changesGet :=
  of_row 0x04 _ 0 rfl rfl rfl (by decide) rfl

theorem setTime (minute : BitVec 32) (second : Byte) : Statement (.setTime minute second) :=
  of_row 0x10 _ 5 rfl rfl rfl (by decide) rfl

theorem getTime : Statement .getTime :=
  of_row 0x11 _ 0 rfl rfl rfl (by decide) rfl

theorem settingsSet (skew takeWindow tagWindow deadline minCharge deadTime : Byte) : Statement (.settingsSet skew takeWindow tagWindow deadline minCharge deadTime) :=
  of_row 0x12 _ 6 rfl rfl rfl (by decide) rfl

theorem settingsGet : Statement .settingsGet :=
  of_row 0x13 _ 0 rfl rfl rfl (by decide) rfl

theorem keyLoad (slot : Byte) (key : BitVec 128) : Statement (.keyLoad slot key) :=
  of_row 0x18 _ 17 rfl rfl rfl (by decide) rfl

theorem keyDrop (slot : Byte) : Statement (.keyDrop slot) :=
  of_row 0x19 _ 1 rfl rfl rfl (by decide) rfl

theorem tariffSet (plan : Byte) (unlockFee freeMinutes period periodPrice supplement rideCap : BitVec 16) : Statement (.tariffSet plan unlockFee freeMinutes period periodPrice supplement rideCap) :=
  of_row 0x20 _ 13 rfl rfl rfl (by decide) rfl

theorem tariffGet (plan : Byte) : Statement (.tariffGet plan) :=
  of_row 0x21 _ 1 rfl rfl rfl (by decide) rfl

theorem denyAdd (rider : BitVec 32) (reason flag : Byte) (expiry : BitVec 32) : Statement (.denyAdd rider reason flag expiry) :=
  of_row 0x28 _ 10 rfl rfl rfl (by decide) rfl

theorem denyRemove (rider : BitVec 32) : Statement (.denyRemove rider) :=
  of_row 0x29 _ 4 rfl rfl rfl (by decide) rfl

theorem denyClear : Statement .denyClear :=
  of_row 0x2A _ 0 rfl rfl rfl (by decide) rfl

theorem denyLookup (rider : BitVec 32) : Statement (.denyLookup rider) :=
  of_row 0x2B _ 4 rfl rfl rfl (by decide) rfl

theorem present (bay : Byte) (token : Token) : Statement (.present bay token) :=
  of_row 0x30 _ 21 rfl rfl rfl (by decide) rfl

theorem bikeTag (bay : Byte) (bike : BitVec 24) (cls battery : Byte) : Statement (.bikeTag bay bike cls battery) :=
  of_row 0x38 _ 6 rfl rfl rfl (by decide) rfl

theorem rentalQuery (selector : Byte) (number : BitVec 32) : Statement (.rentalQuery selector number) :=
  of_row 0x39 _ 5 rfl rfl rfl (by decide) rfl

theorem rentalClose (bike : BitVec 24) : Statement (.rentalClose bike) :=
  of_row 0x3A _ 3 rfl rfl rfl (by decide) rfl

theorem bayQuery (bay : Byte) : Statement (.bayQuery bay) :=
  of_row 0x40 _ 1 rfl rfl rfl (by decide) rfl

theorem bayService (bay flag : Byte) : Statement (.bayService bay flag) :=
  of_row 0x41 _ 2 rfl rfl rfl (by decide) rfl

theorem bayClear (bay : Byte) : Statement (.bayClear bay) :=
  of_row 0x42 _ 1 rfl rfl rfl (by decide) rfl

theorem staffUnlatch (bay : Byte) : Statement (.staffUnlatch bay) :=
  of_row 0x43 _ 1 rfl rfl rfl (by decide) rfl

theorem journalRead (flag count : Byte) : Statement (.journalRead flag count) :=
  of_row 0x48 _ 2 rfl rfl rfl (by decide) rfl

theorem journalRelease (n : BitVec 16) : Statement (.journalRelease n) :=
  of_row 0x49 _ 2 rfl rfl rfl (by decide) rfl

theorem profileSet (profile : Byte) (kickDuty : BitVec 16) (kickTime : Byte) (holdDuty travelLimit stallThreshold : BitVec 16) (stallTime inrushMask brakeTime : Byte) : Statement (.profileSet profile kickDuty kickTime holdDuty travelLimit stallThreshold stallTime inrushMask brakeTime) :=
  of_row 0x50 _ 13 rfl rfl rfl (by decide) rfl

theorem profileGet (profile : Byte) : Statement (.profileGet profile) :=
  of_row 0x51 _ 1 rfl rfl rfl (by decide) rfl

theorem channelEnable (channel : Byte) : Statement (.channelEnable channel) :=
  of_row 0x52 _ 1 rfl rfl rfl (by decide) rfl

theorem supplySet (lowEnter lowLeave critEnter critLeave brownEnter brownLeave : BitVec 16) : Statement (.supplySet lowEnter lowLeave critEnter critLeave brownEnter brownLeave) :=
  of_row 0x58 _ 12 rfl rfl rfl (by decide) rfl

theorem supplyGet : Statement .supplyGet :=
  of_row 0x59 _ 0 rfl rfl rfl (by decide) rfl

theorem reject (body : List Byte) (check : Byte) : Statement (.reject body check) := of_none rfl

theorem busyFrameDrop : Statement .busyFrameDrop := of_none rfl

theorem interByteGapTimeout : Statement .interByteGapTimeout := of_none rfl

theorem lineError : Statement .lineError := of_none rfl

theorem replyComplete (samples : SenseWord) : Statement (.replyComplete samples) := of_none rfl

theorem resetAssert : Statement .resetAssert := of_none rfl

theorem resetRelease (samples : SenseWord) : Statement (.resetRelease samples) := of_none rfl

theorem mainPowerLoss : Statement .mainPowerLoss := of_none rfl

theorem mainPowerReturn (samples : SenseWord) : Statement (.mainPowerReturn samples) := of_none rfl

theorem senseScan (samples : SenseWord) : Statement (.senseScan samples) := of_none rfl

theorem senseEvent (bay : Fin 32) : Statement (.senseEvent bay) := of_none rfl

theorem takeWindowExpiry (bay : Fin 32) : Statement (.takeWindowExpiry bay) := of_none rfl

theorem tagWindowExpiry (bay : Fin 32) : Statement (.tagWindowExpiry bay) := of_none rfl

theorem unlatchDeadlineExpiry (bay : Fin 32) : Statement (.unlatchDeadlineExpiry bay) := of_none rfl

theorem retryDelayExpiry (bay : Fin 32) : Statement (.retryDelayExpiry bay) := of_none rfl

theorem pendingTagExpiry (bay : Fin 32) : Statement (.pendingTagExpiry bay) := of_none rfl

theorem grant : Statement .grant := of_none rfl

theorem connectEnd (channel : Fin 4) : Statement (.connectEnd channel) := of_none rfl

theorem deadtimeEnd (channel : Fin 4) : Statement (.deadtimeEnd channel) := of_none rfl

theorem kickEnd (channel : Fin 4) : Statement (.kickEnd channel) := of_none rfl

theorem currentConversion (channel : Fin 4) (count : BitVec 10) : Statement (.currentConversion channel count) := of_none rfl

theorem stall (channel : Fin 4) : Statement (.stall channel) := of_none rfl

theorem travelLimit (channel : Fin 4) : Statement (.travelLimit channel) := of_none rfl

theorem short (channel : Fin 4) : Statement (.short channel) := of_none rfl

theorem brakeEnd (channel : Fin 4) : Statement (.brakeEnd channel) := of_none rfl

theorem coastEnd (channel : Fin 4) : Statement (.coastEnd channel) := of_none rfl

theorem batteryConversion (count : BitVec 10) : Statement (.batteryConversion count) := of_none rfl

theorem bandEvaluation : Statement .bandEvaluation := of_none rfl

theorem clockSecond : Statement .clockSecond := of_none rfl

theorem minuteEvent : Statement .minuteEvent := of_none rfl

theorem lampPhase (bay : Fin 32) : Statement (.lampPhase bay) := of_none rfl

theorem byteReceived (byte : Byte) : Statement (.byteReceived byte) := of_none rfl

theorem backupSupplyLoss : Statement .backupSupplyLoss := of_none rfl

end Sys2Proof.Laws.FrameShape
end

