-- ==== Sys2Proof/Tests/Slice0.lean ====
section
/-! SUPPORT. Tests: ill-formed commands refused, single steps against the spec's tables and worked cases, and a witness for
the hypotheses of every statement. -/

namespace Sys2Proof.Tests

open Sys2Proof.Machine

-- The theorems are checked one after the other: the kernel evaluations of many at once need too much memory.
set_option Elab.async false

/-! ### Helpers -/

/-- The state a command leaves. -/
def after (c : Instr) (s : State) : Option State :=
  match exec c s with
  | .next t => some t
  | .fault _ => none
  | .refused _ => none

/-- What a command leaves, read through a function. -/
def see {α : Type} (f : State → α) (c : Instr) (s : State) : Option α := (after c s).map f

/-- The payload of the reply in progress after a command. -/
def payloadOf (c : Instr) (s : State) : Option (List Byte) := (after c s).bind fun t => t.reply.map Reply.payload

/-- A state with one bay changed. -/
def withBay (b : BayIx) (f : Bay → Bay) (s : State) : State := s.modBay b f

/-- The tariff of the worked cases of spec 6. -/
def tariff0 : Tariff := ⟨100, 30, 30, 150, 100, 1800⟩

/-- The rental of the worked cases of spec 6: CASUAL, ELECTRIC, hold 500, checked out at minute 1000. -/
def ride : Rental := ⟨.opened, 61204, 7, .casual, 40211, .electric, 6, 0, some 1000, 500, tariff0⟩

/-- The ride before its removal. -/
def offered (g : Stage) : Rental := { ride with stage := g, checkout := none }

/-- A CASUAL rental in RELEASED. -/
def holder : Rental := { offered .released with rider := 5, serial := 8, bike := 3 }

/-- The key of the worked rounds of spec 2.4: K0 = 979,115,527 and K1 = 2,116,147,520. -/
def key0 : BitVec 128 := 0x3A5C1E077E21D9400000000000000000

/-- A CASUAL token for either class under key slot 0, valid at minute 1000, without its check code. -/
def uncoded : Token := ⟨61204, 7, 1000, 110, 1, 0x30, 500, 0⟩

/-- The token with its code. -/
def token0 : Token := { uncoded with code := checkCode key0 uncoded }

/-- A bay that holds an identified electric bike, ready to be rented. -/
def readyBay (y : Bay) : Bay :=
  { y with state := .docked, presence := .present, latch := .closed, rawPresence := .present, rawLatch := .closed
           identity := some ⟨40211, .electric, 64⟩, arrival := some 990, processed := true }

/-- A station that admits the token at bay 7. -/
def open7 : State := withBay 6 readyBay { State.reset with
  clock := ⟨1000, 0, 0, true, false⟩, keys := State.reset.keys.set 0 (some key0)
  tariffs := State.reset.tariffs.set 0 (some tariff0), band := .normal }

/-- A pulse of a kind at bay 7 in a phase, on the default LATCH profile; in CONNECT or COAST a refresh has come for it. -/
def pulse7 (k : DriveKind) (p : Phase) : Pulse := ⟨6, k, p, defaultLatchProfile, 4, 0, 0, none, false,
  decide (p = .connect ∨ p = .coast)⟩

/-- A state at a millisecond count at which no evaluation of the band is due. -/
def atMs (n : Nat) (s : State) : State := { s with ms := n, evaluationDue := false }

/-- A pulse of bay 7 in CONNECT or COAST that waits for its refresh. -/
def unrefreshed (k : DriveKind) (p : Phase) : Pulse := { pulse7 k p with refreshed := false }

/-- A station whose channel 1 drives a pulse for bay 7. -/
def driving7 (p : Pulse) (f : Bay → Bay) : State :=
  withBay 6 (fun y => f { y with driveStage := .driving })
    { State.reset with channels := State.reset.channels.set 0 ⟨.driving p, 0, 0⟩ }

/-- A station whose select chain carries channel 1 to bay 7, with its lamp off. -/
def carrying (s : State) : State := { s with chain := s.chain.set 6 ⟨some 0, false⟩ }

/-- A bay that is latching. -/
def latching (y : Bay) : Bay := { y with state := .latching, presence := .present, lamp := .slow }

/-- A bay in UNLATCHING under a link. -/
def unlatching (l : Link) (y : Bay) : Bay :=
  { readyBay y with state := .unlatching, link := l, lamp := .slow, deadline := .running 8000 }

/-- A bay in RELEASED under a link. -/
def released (l : Link) (y : Bay) : Bay :=
  { readyBay y with state := .released, link := l, latch := .opened, lamp := .steady, takeWindow := some 30000 }

/-- The state with a rental in slot 4. -/
def rent (r : Rental) (s : State) : State := s.setRental 3 (some r)

/-- A reply of a kind in progress. -/
def replying (k : Byte) (s : State) : State := { s with reply := some ⟨k, [0]⟩ }

/-- The word of a sense scan that reads one bay's two contacts closed. -/
def bothClosed (b : BayIx) : SenseWord := BitVec.ofNat _ (3 * 2 ^ (2 * b.val))

/-! ### Well-formedness (spec 11.1) -/

theorem test_refuses_a_frame_with_no_kind : (Instr.reject [] 0).wellFormed = false := by decide
theorem test_refuses_a_body_of_241 : (Instr.reject (List.replicate 241 0) 0).wellFormed = false := by decide +kernel
theorem test_accepts_a_body_of_240 : (Instr.reject (List.replicate 240 0) 0).wellFormed = true := by decide +kernel

/-! ### Frames (spec 11.1, 11.3) -/

theorem test_hello_check_byte : Frame.frame [0x01] = [0xC3, 0x01, 0x01, 0xFE] := by decide
theorem test_set_time_reads_big_endian : (Frame.rowOf 0x10).bind (fun r => r.parse [0x00, 0x12, 0x4F, 0xC8, 58]) =
    some (.setTime 1200072 58) := by decide
theorem test_request_kinds_differ : (Frame.catalogue.map Frame.Row.kind).Nodup := by decide
theorem test_no_word_is_a_command : decodeTableWord 8 1 = none := rfl

/-! ### The check code (spec 2.4): rounds 0 and 1 of rider 123456 -/

theorem test_check_round_0 : checkRound 0x3A5C1E07 0 0x3A5C1E07 = 0x4B819CFE := by decide
theorem test_check_round_1 : checkRound 0x7E21D940 1 0x4B819CFE = 0xA2D6CA9D := by decide

/-! ### Charges (spec 6, cases A to H, K and L) -/

/-- The four results of the ride returned at a minute. -/
def priced (r : Rental) (minute : Nat) : Nat × Nat × Nat × Nat :=
  let c := computeCharge r minute
  (c.duration, c.charge, c.settled, c.due)

theorem test_charge_case_A : priced ride 1074 = (74, 600, 500, 100) := by decide
theorem test_charge_case_B : priced ride 1030 = (30, 100, 100, 0) := by decide
theorem test_charge_case_C : priced ride 1031 = (31, 350, 350, 0) := by decide
theorem test_charge_case_D : priced ride 3000 = (2000, 1800, 500, 1300) := by decide
theorem test_charge_case_E : priced ride 990 = (0, 100, 100, 0) := by decide
theorem test_charge_case_G : priced ride 80000 = (65535, 1800, 500, 1300) := by decide
theorem test_charge_case_H : priced { ride with tariff := ⟨1000, 0, 1, 2000, 2000, 50000⟩ } 21160 =
    (20160, 50000, 500, 49500) := by decide
theorem test_charge_case_L : priced { ride with tariff := ⟨1000, 30, 30, 150, 100, 500⟩ } 1001 = (1, 500, 500, 0) := by decide
theorem test_threshold_case_L : entryThreshold ⟨1000, 30, 30, 150, 100, 500⟩ .electric = 500 := by decide

/-! ### The band table of R168 and the threshold rows of R172 -/

theorem test_band_rows :
    nextBand defaultThresholds 11600 .normal = .normal ∧ nextBand defaultThresholds 11599 .normal = .low ∧
    nextBand defaultThresholds 9700 .normal = .brownout ∧ nextBand defaultThresholds 11950 .low = .low ∧
    nextBand defaultThresholds 12000 .low = .normal ∧ nextBand defaultThresholds 11399 .critical = .critical ∧
    nextBand defaultThresholds 13000 .critical = .low ∧ nextBand defaultThresholds 10599 .brownout = .brownout ∧
    nextBand defaultThresholds 10600 .brownout = .critical ∧ nextBand defaultThresholds 9700 .brownout = .brownout := by
  decide

theorem test_threshold_rows :
    thresholdsOk ⟨11600, 12000, 11000, 11400, 9800, 10600⟩ = true ∧
    thresholdsOk ⟨11800, 12400, 11200, 11800, 10000, 11200⟩ = true ∧
    thresholdsOk ⟨11600, 11600, 11000, 11400, 9800, 10600⟩ = false ∧
    thresholdsOk ⟨11600, 12000, 11000, 11700, 9800, 10600⟩ = false ∧
    thresholdsOk ⟨11600, 12000, 11000, 11400, 5900, 10600⟩ = false := by decide

/-! ### One step of each command -/

theorem test_hello : payloadOf (.hello) (State.reset.setKey 1 (some 5)) =
    some [0, 0x4E, 0x47, 0x0D, 0x32, 1, 32, 4, 0x04, 0x00, 0x01, 0x80, 64, 0x01, 0x00, 2] := by decide
theorem test_status_length : (payloadOf .status open7).map List.length = some 30 := by decide
theorem test_restart : payloadOf .restart open7 = some [0] := by decide
theorem test_changes_get : payloadOf .changesGet (open7.postBay 6 .alarm) = some [0, 1, 7, 4, 3, 0] := by decide
theorem test_set_time_sweeps : see (fun t => (t.clock, t.deny.map DenyEntry.rider)) (.setTime 1200040 58)
    { State.reset with deny := [⟨300, 4, some 1200000⟩, ⟨410, 9, none⟩] } = some (⟨1200040, 58, 0, true, false⟩, [410]) := by decide
theorem test_get_time : payloadOf .getTime { State.reset with clock := ⟨1200040, 58, 7, true, false⟩, ms := 258 } =
    some [0, 0x00, 0x12, 0x4F, 0xA8, 58, 1, 0, 0, 0, 0, 1, 2] := by decide
theorem test_settings_set : payloadOf (.settingsSet 5 200 10 8 20 4) State.reset = some [0, 5, 120, 10, 8, 20, 4] := by decide
theorem test_settings_get : payloadOf .settingsGet State.reset = some [0, 5, 30, 20, 8, 20, 4] := by decide
theorem test_key_load : payloadOf (.keyLoad 3 1) State.reset = some [0, 8] := by decide
theorem test_key_drop : payloadOf (.keyDrop 0) open7 = some [0, 1, 0] := by decide
theorem test_tariff_set : see (fun t => t.tariffs[0]) (.tariffSet 1 150 30 30 300 100 0) open7 =
    some (some ⟨150, 30, 30, 300, 100, 100⟩) := by decide
theorem test_tariff_get : payloadOf (.tariffGet 1) open7 = some [0, 1, 1, 0, 100, 0, 30, 0, 30, 0, 150, 0, 100, 7, 8] := by decide
theorem test_deny_add : see (fun t => t.deny) (.denyAdd 300 4 0 9) { State.reset with deny := [⟨410, 9, none⟩] } =
    some [⟨300, 4, none⟩, ⟨410, 9, none⟩] := by decide
theorem test_deny_remove : payloadOf (.denyRemove 410) { State.reset with deny := [⟨410, 9, none⟩] } =
    some [0, 9, 0, 0, 0, 0, 0, 1, 0, 0] := by decide
theorem test_deny_clear : payloadOf .denyClear { State.reset with deny := [⟨410, 9, none⟩] } = some [0, 0, 1] := by decide
theorem test_deny_lookup : payloadOf (.denyLookup 410) { State.reset with deny := [⟨410, 9, none⟩] } =
    some [0, 9, 0, 0, 0, 0, 0, 0, 0, 0, 1] := by decide
theorem test_present : payloadOf (.present 7 token0) open7 = some [0, 0, 0, 1, 0xF4, 0] := by decide +kernel
theorem test_present_clock_unset : payloadOf (.present 7 token0) State.reset = some [0, 2, 0, 0, 0, 0] := by decide +kernel
theorem test_bike_tag_pending : see (fun t => (t.bay 0).pendingTag) (.bikeTag 1 40211 2 101) State.reset =
    some (some ⟨⟨40211, .electric, 100⟩, 5000⟩) := by decide +kernel
theorem test_bike_tag_conflict : payloadOf (.bikeTag 1 40211 2 64) open7 = some [5] := by decide +kernel
theorem test_rental_query : (payloadOf (.rentalQuery 1 40211) (rent ride open7)).map (List.take 3) = some [0, 1, 3] := by
  decide +kernel
theorem test_rental_close : payloadOf (.rentalClose 40211) (rent ride open7) =
    some [0, 3, 0, 0, 0xEF, 0x14, 1, 0, 0, 3, 0xE8] := by decide +kernel
theorem test_bay_query : (payloadOf (.bayQuery 7) open7).map (List.take 12) =
    some [0, 3, 1, 1, 1, 1, 1, 0, 0x9D, 0x13, 2, 64] := by decide
theorem test_bay_service : payloadOf (.bayService 7 1) open7 = some [0, 7] := by decide
theorem test_bay_service_off : payloadOf (.bayService 7 0) open7 = some [4] := by decide
theorem test_bay_clear : payloadOf (.bayClear 7) (raiseAlarm 6 .latchSlip open7) = some [0, 3, 4] := by decide
theorem test_staff_unlatch : see (fun t => (t.bay 6).deadline) (.staffUnlatch 7) open7 = some (.running 8000) := by
  decide +kernel
theorem test_journal_read : see (fun t => t.cursor) (.journalRead 0 4)
    { State.reset with journal := [.staffRemoval ⟨5, 2, 0, none⟩] } = some 1 := by decide
theorem test_journal_release : payloadOf (.journalRelease 1)
    { State.reset with journal := [.staffRemoval ⟨5, 2, 0, none⟩], cursor := 1 } = some [0, 0, 1, 0, 0, 0, 0, 0, 0] := by
  decide +kernel
theorem test_profile_set_raises_the_travel_limit : see (fun t => (t.latchProfile.kickTime, t.latchProfile.travelLimit))
    (.profileSet 1 1000 250 600 150 1800 20 30 20) State.reset = some (200, 220) := by decide
theorem test_profile_get : payloadOf (.profileGet 2) State.reset =
    some [0, 2, 3, 0xE8, 80, 2, 0xBC, 1, 0xF4, 7, 0xD0, 20, 30, 20] := by decide
theorem test_channel_enable : payloadOf (.channelEnable 1)
    { State.reset with channels := State.reset.channels.set 0 ⟨.disabled, 0, 2⟩ } = some [0, 1, 0] := by decide +kernel
theorem test_supply_set_refuses : payloadOf (.supplySet 11600 12000 11000 11700 9800 10600) State.reset = some [1] := by decide
theorem test_supply_get : (payloadOf .supplyGet State.reset).map (List.drop 13) = some [0, 0, 0, 0, 0, 3] := by decide
theorem test_reject_reason_check : payloadOf (.reject [0x01] 0) State.reset = some [1, 0x01] := by decide
theorem test_reject_reason_kind : payloadOf (.reject [0x7F] 0x80) State.reset = some [2, 0x7F] := by decide
theorem test_busy_frame_drop : see (fun t => t.rx) .busyFrameDrop (replying 0x81 { State.reset with rx := .length 3 }) =
    some .hunt := by decide
theorem test_inter_byte_gap : see (fun t => t.rx) .interByteGapTimeout { State.reset with rx := .length 3, ms := 13 } =
    some .hunt := by decide
theorem test_line_error : see (fun t => t.rx) .lineError { State.reset with rx := .length 3 } = some .hunt := by decide
theorem test_reply_complete : see (fun t => t.reply) (.replyComplete 0) (replying 0x81 State.reset) = some none := by decide
theorem test_reset_assert : see (fun t => t.resetHeld) .resetAssert State.reset = some true := by decide
theorem test_reset_release : see (fun t => (t.clock.isSet, (t.bay 6).state)) (.resetRelease (bothClosed 6))
    { open7 with resetHeld := true } = some (false, .docked) := by decide +kernel
theorem test_main_power_loss : see (fun t => (t.mainPower, t.clock)) .mainPowerLoss open7 =
    some (false, ⟨1000, 0, 0, true, false⟩) := by decide +kernel
theorem test_main_power_return : see (fun t => t.changes.station.restart) (.mainPowerReturn 0)
    { open7 with mainPower := false } = some (some .resume) := by decide +kernel
theorem test_sense_scan : see (fun t => (t.bay 6).presenceAgree) (.senseScan (bothClosed 6)) State.reset = some 1 := by
  decide +kernel
theorem test_sense_event : see (fun t => (t.bay 6).state) (.senseEvent 6)
    (withBay 6 (fun y => { y with presenceDue := true }) State.reset) = some .latching := by decide +kernel
theorem test_take_window : see (fun t => (t.bay 6).lastOutcome) (.takeWindowExpiry 6)
    (atMs 30000 (rent (offered .released) (withBay 6 (released (.rental 3)) State.reset))) = some .takeExpired := by decide +kernel
theorem test_tag_window : see (fun t => (t.bay 6).alarms.unidentified) (.tagWindowExpiry 6)
    (atMs 20000 (withBay 6 (fun y => { y with state := .docked, tagWindow := some 20000 }) State.reset)) = some true := by decide
theorem test_unlatch_deadline : see (fun t => (t.bay 6).deadline) (.unlatchDeadlineExpiry 6)
    (atMs 8000 (driving7 (pulse7 .unlatchRental .kick) (unlatching (.rental 3)))) = some .passed := by decide
theorem test_retry_delay : see (fun t => t.queue) (.retryDelayExpiry 6)
    (atMs 2073 (withBay 6 (fun y => { latching y with driveStage := .retryWait, retryDelay := some 2073 }) State.reset)) =
      some [⟨6, .latch, 0⟩] := by decide
theorem test_pending_tag : see (fun t => (t.bay 6).pendingTag) (.pendingTagExpiry 6)
    (atMs 5000 (withBay 6 (fun y => { y with pendingTag := some ⟨⟨1, .standard, 0⟩, 5000⟩ }) State.reset)) = some none := by decide
theorem test_grant : see (fun t => t.queue) .grant { open7 with queue := [⟨6, .latch, 0⟩, ⟨6, .unlatchReady, 1⟩] } =
    some [⟨6, .unlatchReady, 1⟩] := by decide +kernel
theorem test_connect_end : see (fun t => (t.pulse? 0).map Pulse.phase) (.connectEnd 0)
    (driving7 (pulse7 .latch .connect) latching) = some (some .deadtime1) := by decide
theorem test_deadtime_end : see (fun t => (t.pulse? 0).map Pulse.phase) (.deadtimeEnd 0)
    (driving7 (pulse7 .latch .deadtime1) latching) = some (some .kick) := by decide
theorem test_kick_end : see (fun t => (t.pulse? 0).map Pulse.phase) (.kickEnd 0)
    (atMs 60 (driving7 (pulse7 .latch .kick) latching)) = some (some .hold) := by decide
theorem test_current_conversion : see (fun t => ((t.channels[0]).short, t.currents[0], t.scanSlot)) (.currentConversion 0 1000)
    (driving7 (pulse7 .latch .kick) latching) = some (1, 4000, 1) := by decide
theorem test_stall : see (fun t => (t.pulse? 0).map Pulse.phase) (.stall 0)
    { driving7 (pulse7 .latch .hold) latching with
      channels := State.reset.channels.set 0 ⟨.driving (pulse7 .latch .hold), 20, 0⟩ } = some (some .deadtime2) := by decide
theorem test_travel_limit : see (fun t => (t.pulse? 0).map Pulse.phase) (.travelLimit 0)
    (atMs 400 (driving7 (pulse7 .latch .hold) latching)) = some (some .deadtime2) := by decide
theorem test_short : see (fun t => ((t.pulse? 0).map Pulse.result, t.changes.station.channel)) (.short 0)
    { driving7 (pulse7 .latch .hold) latching with
      channels := State.reset.channels.set 0 ⟨.driving (pulse7 .latch .hold), 0, 2⟩ } = some (some (some .jam), true) := by decide
theorem test_brake_end : see (fun t => (t.bay 6).state) (.brakeEnd 0)
    (atMs 20 (driving7 (pulse7 .latch .brake) fun y => { latching y with latch := .closed })) = some .docked := by decide +kernel
theorem test_brake_end_processes_a_due_return : see (fun t => (t.rentals[3], t.journal.length, (t.bay 6).processed)) (.brakeEnd 0)
    (atMs 20 (rent ride (driving7 (pulse7 .latch .brake) fun y => { readyBay y with state := .latching, processed := false }))) =
      some (none, 1, true) := by decide +kernel
theorem test_coast_end : see (fun t => (t.channels[0]).mode) (.coastEnd 0)
    (driving7 { pulse7 .latch .coast with result := some .done } latching) = some .idle := by decide +kernel
theorem test_battery_conversion : see (fun t => (t.battery, t.samples, t.scanSlot)) (.batteryConversion 615)
    { State.reset with scanSlot := 4 } = some (12300, [12300], 0) := by decide
theorem test_another_slot_converts_nothing : see (fun t => (t.currents[1], t.scanSlot)) (.currentConversion 1 1000) State.reset =
    some (0, 0) := by decide
theorem test_band_evaluation : see (fun t => (t.band, t.changes.station.band)) .bandEvaluation
    { State.reset with samples := List.replicate 16 12300 } = some (.low, true) := by decide +kernel
theorem test_clock_second : see (fun t => t.clock) .clockSecond { State.reset with clock := ⟨1200040, 59, 0, true, true⟩ } =
    some ⟨1200041, 0, 0, true, false⟩ := by decide
theorem test_minute_event_holds : see (fun t => t.clock.minute) .minuteEvent
    { State.reset with clock := ⟨4294967295, 59, 0, true, true⟩ } = some 4294967295 := by decide
theorem test_lamp_phase : see (fun t => (t.bay 6).lampPhase) (.lampPhase 6)
    (atMs 1700 (withBay 6 (fun y => { y with lamp := .double, lampPhase := 3 }) State.reset)) = some 0 := by decide
theorem test_lamp_phase_waits : see (fun t => (t.bay 6).lampPhase) (.lampPhase 6)
    (atMs 1699 (withBay 6 (fun y => { y with lamp := .double, lampPhase := 3 }) State.reset)) = some 3 := by decide
theorem test_byte_received : see (fun t => t.rx) (.byteReceived 0xC3) { State.reset with ms := 5 } = some (.length 5) := by decide
theorem test_backup_supply_loss : see (fun t => t.backupValid) .backupSupplyLoss { State.reset with mainPower := false } =
    some false := by decide +kernel

/-! ### Time: an event acts only when it is due, and a step with no command waiting takes it (R179, R180, R185, log 37) -/

/-- The commands a step with none waiting leaves in the queue. -/
def idled (s : State) : List Instr :=
  match step s with
  | .next t => t.pending
  | .fault _ => []
  | .refused _ => []

theorem test_a_timer_due_is_taken : idled (atMs 5000 (withBay 0
    (fun y => { y with pendingTag := some ⟨⟨1, .standard, 0⟩, 5000⟩ }) State.reset)) = [.pendingTagExpiry 0] := by decide +kernel
theorem test_a_timer_not_due_waits : idled (atMs 4999 (withBay 0
    (fun y => { y with pendingTag := some ⟨⟨1, .standard, 0⟩, 5000⟩ }) State.reset)) = [] := by decide +kernel
theorem test_set_time_before_a_boundary : (see (fun t => t.clock) (.setTime 1200040 30) { State.reset with
    clock := ⟨1200040, 59, 0, true, true⟩ }) = some ⟨1200040, 30, 0, true, false⟩ := by decide
theorem test_no_boundary_no_minute : see (fun t => t.clock) .minuteEvent { State.reset with clock := ⟨7, 59, 0, true, false⟩ } =
    some ⟨7, 59, 0, true, false⟩ := by decide
theorem test_a_waiting_return_fixes_its_minute : see (fun t => ((t.bay 0).arrival, (t.bay 0).processed)) (.bikeTag 1 9 1 50)
    (withBay 0 (fun y => { y with
      state := .fault, presence := .present, held := some ⟨900, 0, 77, .standard, 0⟩ }) open7) = some (some 1000, false) := by
  decide +kernel
theorem test_no_refresh_no_connect_end : see (fun t => (t.pulse? 0).map Pulse.phase) (.connectEnd 0)
    (driving7 (unrefreshed .latch .connect) latching) = some (some .connect) := by decide +kernel
theorem test_a_refresh_of_the_count_ends_connect : see (fun t => ((t.pulse? 0).map Pulse.phase, t.selectBits 6)) (.connectEnd 0)
    { driving7 (unrefreshed .latch .connect) latching with refreshDue := true } =
      some (some .deadtime1, [false, false, true, true]) := by decide +kernel
theorem test_no_evaluation_off_its_count : see (fun t => t.band) .bandEvaluation
    (atMs 137 { State.reset with samples := List.replicate 16 12300 }) = some .critical := by decide +kernel
theorem test_brownout_joins_no_channel : (see (fun t => ((t.pulse? 0).map Pulse.phase, t.selectBits 6)) .bandEvaluation
    { driving7 (unrefreshed .latch .connect) latching with band := .low, samples := List.replicate 16 9700 }) =
      some (some .coast, [false, false, false, false]) := by decide +kernel
theorem test_a_restart_keeps_the_chain : see (fun t => (t.pulse? 0, t.selectBits 6)) (.replyComplete 0)
    (replying 0x83 (carrying (driving7 (pulse7 .latch .kick) latching))) = some (none, [false, false, true, false]) := by
  decide +kernel
theorem test_the_next_refresh_parts_it : (match step { carrying State.reset with refreshDue := true, evaluationDue := false } with
    | .next t => t.selectBits 6
    | .fault _ => []
    | .refused _ => []) = [false, false, false, false] := by decide +kernel

/-- Every frame of HELLO's bytes is answered, and the reply's CHECK is 0xAC with keys 0 and 1 present (spec 11). -/
theorem test_hello_exchange : (match feed (Frame.frame [0x01]) ((State.reset.setKey 0 (some 1)).setKey 1 (some 2)) with
    | .next t => t.reply.map fun r => Frame.checkByte (r.kind :: r.payload)
    | .fault _ => none
    | .refused _ => none) = some 0xAC := by decide +kernel

/-! ### Witnesses: for the hypotheses of each statement a state and operands that meet them, clause by clause -/

theorem accepting_reset : State.reset.accepting := ⟨rfl, rfl, rfl⟩
theorem works_reset : State.reset.works := ⟨rfl, rfl⟩
theorem accepting_open7 : open7.accepting := ⟨rfl, rfl, rfl⟩
theorem works_driving7 (p : Pulse) (f : Bay → Bay) : (driving7 p f).works := ⟨rfl, rfl⟩

/-- A state that meets every invariant with something in each table: a journal record, an OPEN rental and a CASUAL one in
RELEASED with its HELD entry, a held return, a deny list, a set tariff, a bay whose pulse runs and one whose request waits. -/
def busy : State := withBay 9 (fun y => { y with
    held := some ⟨900, 9, 77, .standard, 0⟩, state := .unlatching, latch := .closed, link := .readiness, driveStage := .queued
    lamp := .slow })
  ((rent ride { carrying (driving7 (pulse7 .latch .kick) latching) with
    clock := ⟨1000, 0, 0, true, true⟩, tariffs := State.reset.tariffs.set 0 (some tariff0)
    journal := [.staffRemoval ⟨5, 2, 0, none⟩], cursor := 1, heldOrder := [9]
    deny := [⟨300, 4, some 1200000⟩, ⟨410, 9, none⟩], spent := [⟨61204, 7, 1110, .finalized⟩, ⟨5, 8, 1110, .held⟩]
    queue := [⟨9, .unlatchReady, 3⟩], nextOrder := 4
    samples := [12300, 12280], pending := [.clockSecond] }).setRental 4 (some holder))

theorem tariff0_inRange : tariff0.inRange := by unfold Tariff.inRange tariff0; decide
theorem ride_legal : ride.legal := ⟨by decide, tariff0_inRange, by decide⟩
theorem holder_legal : holder.legal := ⟨by decide, tariff0_inRange, by decide⟩

theorem busy_rental (k : Fin 64) (r : Rental) (h : busy.rentals[k] = some r) : k = 3 ∧ r = ride ∨ k = 4 ∧ r = holder := by
  have e : ∀ k : Fin 64, busy.rentals[k] = if k = 3 then some ride else if k = 4 then some holder else none := by
    decide +kernel
  rw [e] at h
  split at h
  · exact .inl ⟨by assumption, by cases h; rfl⟩
  · split at h
    · exact .inr ⟨by assumption, by cases h; rfl⟩
    · cases h

theorem witness_StepKeepsTheJournalBounds : JournalKept busy ∧ ∃ t, step busy = .next t :=
  ⟨⟨by decide +kernel, by decide, by decide, by decide, by decide⟩, _, rfl⟩

theorem busy_lists : ListsKept busy :=
  ⟨by decide, by decide, by unfold DenyEntry.legal; decide, by decide, by decide⟩

theorem busy_spent : SpentKept busy := by
  refine ⟨by decide, ?_, ?_, ?_⟩
  · intro k r h hr
    rcases busy_rental k r h with ⟨-, rfl⟩ | ⟨-, rfl⟩
    · exact absurd rfl hr.1
    · exact ⟨⟨5, 8, 1110, .held⟩, by decide, rfl, rfl, rfl⟩
  · intro e he h
    have : e = ⟨5, 8, 1110, .held⟩ := by
      revert h; revert e; decide
    exact ⟨4, holder, by decide +kernel, ⟨by decide, rfl⟩, by rw [this]; rfl, by rw [this]; rfl⟩
  · intro j k r x hj hk hr hx _ _
    rcases busy_rental j r hj with ⟨-, rfl⟩ | ⟨rfl, -⟩
    · exact absurd rfl hr.1
    · rcases busy_rental k x hk with ⟨-, rfl⟩ | ⟨rfl, -⟩
      · exact absurd rfl hx.1
      · rfl

theorem witness_StepKeepsTheListBounds : ListsKept busy ∧ SpentKept busy ∧ ∃ t, step busy = .next t :=
  ⟨busy_lists, busy_spent, _, rfl⟩

theorem busy_tariffs (p : Fin 3) (t : Tariff) (h : busy.tariffs[p] = some t) : t.inRange := by
  have e : ∀ p : Fin 3, busy.tariffs[p] = if p = 0 then some tariff0 else none := by decide
  rw [e] at h
  split at h
  · cases h; exact tariff0_inRange
  · cases h

theorem busy_names : NamesKept open7 ∧ (open7.bay 6).names 40211 = true := by
  have e : ∀ b : BayIx, b ≠ 6 → (open7.bay b).identity = none ∧ (open7.bay b).pendingTag = none := by decide +kernel
  have n : ∀ (b : BayIx) (bike : Nat), (open7.bay b).names bike = true → b = 6 := by
    intro b bike h
    by_cases hb : b = 6
    · exact hb
    · obtain ⟨h1, h2⟩ := e b hb
      simp [Bay.names, h1, h2] at h
  exact ⟨⟨fun b o bike h k => by rw [n b bike h, n o bike k]⟩, by decide⟩

theorem witness_StepKeepsTheStoredRanges : RangesKept busy ∧ RentalsKept busy ∧ (∃ t, step busy = .next t) ∧
    NamesKept open7 ∧ ∃ t, step open7 = .next t := by
  refine ⟨⟨?_, ?_, ?_, ?_, busy_tariffs, by decide, by decide, by decide, by decide⟩, ⟨busy_tariffs, ?_⟩, ⟨_, rfl⟩,
    busy_names.1, _, rfl⟩
  · unfold Settings.inRange; decide
  · unfold Profile.inRange; decide
  · unfold Profile.inRange; decide
  · unfold Thresholds.inOrder; decide
  · intro k r h
    rcases busy_rental k r h with ⟨-, rfl⟩ | ⟨-, rfl⟩
    · exact ride_legal
    · exact holder_legal

theorem busy_pulse (c : Fin 4) (p : Pulse) (h : busy.pulse? c = some p) : c = 0 ∧ p = pulse7 .latch .kick := by
  have e : ∀ c : Fin 4, busy.pulse? c = if c = 0 then some (pulse7 .latch .kick) else none := by decide
  rw [e] at h
  split at h
  · exact ⟨by assumption, by cases h; rfl⟩
  · cases h

theorem busy_chain (b : BayIx) (c : Fin 4) (h : (busy.chain[b]).channel = some c) : b = 6 := by
  revert h b c; decide +kernel

theorem busy_drive : DriveKept busy := by
  refine ⟨?_, ?_, ?_, ?_, by decide, by decide, by decide, ?_, fun b o c h k => by
    rw [busy_chain b c h, busy_chain o c k]⟩
  · unfold Profile.inRange; decide
  · unfold Profile.inRange; decide
  · intro c d p q hc hd _
    rw [(busy_pulse c p hc).1, (busy_pulse d q hd).1]
  · intro c p hc
    rw [(busy_pulse c p hc).2]
    unfold Profile.inRange; decide
  · intro c p hc _
    rw [(busy_pulse c p hc).1, (busy_pulse c p hc).2]
    decide +kernel

theorem busy_tied : RequestsTied busy where
  bays b := ⟨by revert b; decide +kernel, by revert b; decide +kernel, by revert b; decide +kernel,
    by revert b; decide +kernel, by revert b; decide +kernel, by revert b; decide +kernel⟩
  queued := by decide +kernel
  queueOne := by decide
  stands := by decide +kernel
  driving c p h _ := by
    rw [(busy_pulse c p h).2]
    exact ⟨by decide +kernel, by show (busy.bay 6).state = .latching; decide +kernel⟩
  driven b h := by
    have e : ∀ b, (busy.bay b).driveStage = .driving → b = 6 := by decide +kernel
    exact ⟨0, pulse7 .latch .kick, rfl, rfl, (e b h).symm⟩
  oneBay c d p q hc hd _ := by rw [(busy_pulse c p hc).1, (busy_pulse d q hd).1]
  shorted c p h hs := by rw [(busy_pulse c p h).2] at hs; cases hs

theorem witness_StepKeepsTheDriveBounds : DriveKept busy ∧ busy.mainPower = true ∧ RequestsTied busy ∧
    LampsFollow busy ∧ (∃ t, step busy = .next t ∧ t.mainPower = true) ∧
    ({ State.reset with mainPower := false }).mainPower = false ∧ LampsFollow { State.reset with mainPower := false } :=
  ⟨busy_drive, rfl, busy_tied, fun b => (busy_tied.bays b).lamp, ⟨_, rfl, by decide +kernel⟩, rfl, fun b => by
    revert b; decide +kernel⟩

/-- The part after reset with a time base remainder and a phase of the clock. -/
def ticking (remainder phase : Nat) : State :=
  { State.reset with msRemainder := remainder, evaluationDue := false, clock := ⟨0, 0, phase, false, false⟩ }

theorem witness_StepRunsFrontOrPassesOnePeriod :
    ((ticking 31767 32766).pending = [] ∧ (ticking 31767 32766).due = [] ∧ (ticking 31767 32766).works ∧
      (ticking 31767 32766).clock.phase + 1 < 32768 ∧ (ticking 31767 32766).msRemainder + 1000 < 32768) ∧
    ((ticking 31768 0).pending = [] ∧ (ticking 31768 0).due = [] ∧ (ticking 31768 0).works ∧
      (ticking 31768 0).clock.phase + 1 < 32768 ∧ 32768 ≤ (ticking 31768 0).msRemainder + 1000 ∧
      (ticking 31768 0).ms < maxCount ∧ (atMs 99 (ticking 31768 0)).due = [] ∧ (99 + 1) % 100 = 0) ∧
    ((ticking 0 32767).due = [] ∧ (ticking 0 32767).mainPower = true ∧ 32768 ≤ (ticking 0 32767).clock.phase + 1) ∧
    ({ driving7 (pulse7 .latch .deadtime1) latching with pending := [] }).due ≠ [] ∧
    ({ ticking 31767 32766 with refreshDue := true }).due = [] := by
  refine ⟨⟨rfl, ?_, ⟨rfl, rfl⟩, ?_, ?_⟩, ⟨rfl, ?_, ⟨rfl, rfl⟩, ?_, ?_, ?_, ?_, rfl⟩, ⟨?_, rfl, ?_⟩, ?_, ?_⟩ <;> decide +kernel

theorem witness_RequestFrameRoundTrip :
    Frame.encodeRequest (.setTime 0xFFFFFFFF 59) = some (0x10, [0xFF, 0xFF, 0xFF, 0xFF, 59]) := by decide

theorem witness_FrameBytesRunTheRequest :
    Frame.encodeRequest (.bayService 32 1) = some (0x41, [32, 1]) ∧ State.reset.accepting ∧ State.reset.rx = .hunt :=
  ⟨rfl, accepting_reset, rfl⟩

/-- The sum of a frame that CompleteFramesAreCheckedInOrder judges. -/
def frameSum (kind : Byte) (payload : List Byte) (check : Byte) : Byte :=
  BitVec.ofNat 8 (payload.length + 1) + Frame.sum (kind :: payload) + check

theorem witness_CompleteFramesAreCheckedInOrder :
    (List.replicate 239 (0 : Byte)).length ≤ 239 ∧ frameSum 0x01 (List.replicate 239 0) 0 ≠ 0 ∧
    frameSum 0x7F [] 0x80 = 0 ∧ Frame.rowOf 0x7F = none ∧
    frameSum 0x01 [0] 0xFD = 0 ∧ (Frame.rowOf 0x01).map Frame.Row.length = some 0 ∧
    frameSum 0x01 [] 0xFE = 0 ∧ Frame.encodeRequest .hello = some (0x01, []) := by decide +kernel

theorem witness_BytesMoveTheReceiveState :
    ({ State.reset with rx := .length 3, ms := 13 }).works ∧
    ({ State.reset with rx := .length 3, ms := 13 }).ms ≤ 3 + 10 ∧
    3 + 10 ≤ ({ State.reset with rx := .length 3, ms := 13 }).ms ∧
    ({ State.reset with rx := .body 1 [] 3, ms := 12 }).ms < 3 + 10 ∧
    ({ State.reset with rx := .body 1 [] 3, ms := 13 }).rx = .body 1 [] 3 ∧
    ({ State.reset with rx := .body 1 [] 3, ms := 14 }).rx.lastAt? = some 3 ∧
    3 + 10 < ({ State.reset with rx := .body 1 [] 3, ms := 14 }).ms ∧ State.reset.rx = .hunt ∧
    ({ State.reset with rx := .check [1] 3, ms := 13 }).rx = .check [1] 3 ∧
    ({ State.reset with rx := .check [1] 3, ms := 13 }).ms ≤ 3 + 10 ∧ bodyLengthOk [1] = true :=
  ⟨⟨rfl, rfl⟩, by decide, by decide, by decide, rfl, rfl, by decide, rfl, rfl, by decide, by decide⟩

theorem witness_FramesDuringAReplyAreDropped :
    (replying 0x81 State.reset).works ∧ (replying 0x81 State.reset).reply = some ⟨0x81, [0]⟩ ∧
    bodyLengthOk (List.replicate 240 0) = true ∧ bodyLengthOk [0] = true ∧
    Frame.encodeRequest .status = some (0x02, []) ∧ (0x81 : Byte) ≠ 0x83 :=
  ⟨⟨rfl, rfl⟩, rfl, by decide +kernel, by decide, rfl, by decide⟩

theorem witness_RestartIsMadeAfterItsReply :
    open7.accepting ∧ (replying 0x83 open7).works ∧ (replying 0x83 open7).reply = some ⟨0x83, [0]⟩ :=
  ⟨accepting_open7, ⟨rfl, rfl⟩, rfl⟩

theorem witness_HelloAndStatusReplies : open7.accepting := accepting_open7

theorem witness_StoredValueQueries :
    open7.accepting ∧ open7.tariffs[(0 : Fin 3)] = some tariff0 ∧ open7.tariffs[(2 : Fin 3)] = none ∧
    3 < (4 : Byte).toNat ∧ (3 : Byte) ≠ 1 ∧ (3 : Byte) ≠ 2 := ⟨accepting_open7, by decide, by decide, by decide, by decide, by decide⟩

/-- A deny list of 1024 entries. -/
def fullDeny : List DenyEntry := (List.range 1024).map fun n => ⟨n + 1, 15, none⟩

theorem lists_of_deny (n : Nat) (h : n ≤ 1024) :
    ListsKept { State.reset with deny := (List.range n).map fun n => ⟨n + 1, 15, none⟩ } := by
  refine ⟨?_, ?_, ?_, .nil, Nat.zero_le _⟩
  · show List.Pairwise _ ((List.range n).map _)
    rw [List.pairwise_map]
    refine List.pairwise_lt_range.imp ?_
    intro a b hab
    simp only
    omega
  · simpa using h
  · intro e he
    obtain ⟨k, hk, rfl⟩ := List.mem_map.mp he
    have := List.mem_range.mp hk
    exact ⟨by simp, by simp; omega, by simp, by simp, by simp⟩

theorem witness_DenyLookupReply :
    busy.accepting ∧ ListsKept busy ∧ busy.deny[0]? = some ⟨300, 4, some 1200000⟩ ∧ (300 : BitVec 32).toNat = 300 ∧
    ({ busy with clock := ⟨1199999, 0, 0, true, false⟩ }).clock.minute < 1200000 ∧
    ({ busy with clock := ⟨1200000, 0, 0, true, false⟩ }).clock.isSet = true ∧
    1200000 ≤ ({ busy with clock := ⟨1200000, 0, 0, true, false⟩ }).clock.minute ∧ (∀ e ∈ busy.deny, e.rider ≠ 301) :=
  ⟨⟨rfl, rfl, rfl⟩, busy_lists, rfl, by decide, by decide, rfl, by decide, by decide⟩

theorem witness_RentalQueryReply :
    busy.accepting ∧ ((0 : Byte) ≠ 1 ∧ (0 : Byte) ≠ 2) ∧ busy.rentals[(3 : Fin 64)] = some ride ∧
    ride.bike = (40211 : BitVec 32).toNat ∧ ride.rider = (61204 : BitVec 32).toNat :=
  ⟨⟨rfl, rfl, rfl⟩, by decide, by decide, by decide, by decide⟩

theorem witness_BayQueryReply :
    open7.accepting ∧ (32 : Byte).toNat = (31 : Fin 32).val + 1 ∧ (7 : Byte).toNat = (6 : Fin 32).val + 1 ∧
    (open7.bay 6).identity = some ⟨40211, .electric, 64⟩ ∧ 32 < (33 : Byte).toNat :=
  ⟨accepting_open7, by decide, by decide, by decide, by decide⟩

theorem witness_ChangesGetTakesEveryEntry :
    (open7.postBay 31 .held).accepting ∧ ((open7.postBay 31 .held).changes.bays[(31 : Fin 32)]).any = true :=
  ⟨⟨rfl, rfl, rfl⟩, by decide⟩

theorem witness_SetTimeSetsTheClock : busy.accepting ∧ 59 < (60 : Byte).toNat ∧ (59 : Byte).toNat ≤ 59 :=
  ⟨⟨rfl, rfl, rfl⟩, by decide, by decide⟩

theorem witness_SecondsAndMinuteEvents :
    let at' := fun (k : Clock) => { open7 with clock := k }
    (open7.mainPower = true ∧ open7.clock.boundary = false) ∧ (at' ⟨1000, 58, 0, true, true⟩).works ∧
    ((at' ⟨1000, 58, 0, true, true⟩).clock.boundary = true ∧ (at' ⟨1000, 58, 0, true, true⟩).clock.second < 59) ∧
    (59 ≤ (at' ⟨0, 59, 0, false, true⟩).clock.second ∧ (at' ⟨0, 59, 0, false, true⟩).clock.isSet = false) ∧
    (59 ≤ (at' ⟨4294967295, 59, 0, true, true⟩).clock.second ∧ (at' ⟨4294967295, 59, 0, true, true⟩).works) ∧
    (({ at' ⟨1000, 59, 0, true, true⟩ with mainPower := false }).mainPower = false ∧
      ({ at' ⟨1000, 59, 0, true, true⟩ with mainPower := false }).backupValid = true) :=
  ⟨⟨rfl, rfl⟩, ⟨rfl, rfl⟩, ⟨rfl, by decide⟩, ⟨by decide, rfl⟩, ⟨by decide, rfl, rfl⟩, ⟨rfl, rfl⟩⟩

theorem witness_SettingsSetClamps : open7.accepting := accepting_open7

theorem witness_KeyLoadAndDrop :
    open7.accepting ∧ 3 < (4 : Byte).toNat ∧ (3 : Byte).toNat = (3 : Fin 4).val :=
  ⟨accepting_open7, by decide, by decide⟩

theorem witness_TariffSetClamps :
    open7.accepting ∧ 3 < (4 : Byte).toNat ∧ (3 : Byte).toNat = (2 : Fin 3).val + 1 :=
  ⟨accepting_open7, by decide, by decide⟩

theorem witness_CheckCodeComputation :
    Frame.boundBytes uncoded ≠ Frame.boundBytes { uncoded with plan := 2 } ∧
    ∀ j, j ≠ 12 → (Frame.boundBytes uncoded)[j]? = (Frame.boundBytes { uncoded with plan := 2 })[j]? := by
  refine ⟨by decide, fun j h => ?_⟩
  by_cases hj : j < 16
  · revert h; revert j; decide
  · have h1 : (Frame.boundBytes uncoded).length = 16 := by decide
    have h2 : (Frame.boundBytes { uncoded with plan := 2 }).length = 16 := by decide
    rw [List.getElem?_eq_none (by omega), List.getElem?_eq_none (by omega)]

theorem witness_ChargeComputation : ride.checkout = some 1000 ∧ 1 ≤ ride.tariff.period := by decide

theorem witness_ChargeBounds : ride.legal := ride_legal

theorem witness_DenyAddOutcomes :
    State.reset.accepting ∧ (15 : Byte).toNat ≤ 15 ∧ 15 < (16 : Byte).toNat ∧
    ListsKept { State.reset with deny := (List.range 1023).map fun n => ⟨n + 1, 15, none⟩ } ∧
    ListsKept { State.reset with deny := (List.range 1024).map fun n => ⟨n + 1, 15, none⟩ } ∧
    (∃ x : DenyEntry, x ∈ ((List.range 1024).map fun n => (⟨n + 1, 15, none⟩ : DenyEntry)) ∧ x.rider = 1024) ∧
    (∀ x ∈ ((List.range 1024).map fun n => (⟨n + 1, 15, none⟩ : DenyEntry)), x.rider ≠ 1025) :=
  ⟨accepting_reset, by decide, by decide, lists_of_deny 1023 (by decide), lists_of_deny 1024 (by decide),
    ⟨⟨1024, 15, none⟩, by simp, rfl⟩, by simp; intros; omega⟩

theorem witness_DenyRemoveAndClear :
    busy.accepting ∧ ListsKept busy ∧ busy.deny = [⟨300, 4, some 1200000⟩] ++ ⟨410, 9, none⟩ :: [] ∧
    (410 : BitVec 32).toNat = 410 ∧ ∀ e ∈ busy.deny, e.rider ≠ (301 : BitVec 32).toNat :=
  ⟨⟨rfl, rfl, rfl⟩, busy_lists, rfl, by decide, by decide⟩

theorem open7_lists : ListsKept open7 := ⟨by decide, by decide, fun _ h => (by cases h), by decide, by decide⟩

theorem witness_PresentAnswersTheFirstFailingStep :
    open7.accepting ∧ ListsKept open7 ∧ (admissionFailures 7 token0 open7).head? = none ∧
    (admissionFailures 33 token0 open7).head? = some .badBay ∧
    (admissionFailures 7 uncoded open7).head? = some .codeMismatch ∧
    (admissionFailures 7 token0 { open7 with clock := ⟨1110, 0, 0, true, false⟩ }).head? = some .expired ∧
    (admissionFailures 7 token0 { open7 with clock := ⟨994, 0, 0, true, false⟩ }).head? = some .notYet ∧
    (admissionFailures 7 token0 { open7 with deny := [⟨61204, 4, none⟩] }).head? = some .denied ∧
    (admissionFailures 7 token0 (rent (offered .pending) open7)).head? = some .alreadyRiding ∧
    (admissionFailures 7 token0 { open7 with band := .critical }).head? = some .powerLow :=
  ⟨accepting_open7, open7_lists, by decide +kernel, by decide +kernel, by decide +kernel, by decide +kernel,
    by decide +kernel, by decide +kernel, by decide +kernel, by decide +kernel⟩

theorem witness_PresentAcceptance : open7.accepting ∧ ListsKept open7 ∧ admissionFailures 7 token0 open7 = [] :=
  ⟨accepting_open7, open7_lists, by decide +kernel⟩

/-- Bay 1 under test with a change, in a station where bay 7 holds bike 40211. -/
def at1 (f : Bay → Bay) : State := withBay 0 f open7

theorem witness_BikeTagOutcomes :
    (at1 id).accepting ∧ (1 : Byte).toNat = (0 : Fin 32).val + 1 ∧ (9 : BitVec 24) ≠ 0 ∧
    (2 : Byte) = BitVec.ofNat 8 BikeClass.electric.code ∧
    (6 : Fin 32) ≠ 0 ∧ ((at1 id).bay 6).identity = some ⟨40211, .electric, 64⟩ ∧
    ((at1 (fun y => { y with pendingTag := some ⟨⟨40211, .standard, 0⟩, 9⟩ })).bay 0).names 40211 = true ∧
    (∀ o : Fin 32, o ≠ 0 → ((at1 id).bay o).names 9 = false) ∧
    ((at1 fun y => { y with state := .fault }).bay 0).state = .fault ∧
    ((at1 fun y => { y with state := .fault }).bay 0).presence = .absent ∧ ((at1 id).bay 0).state = .vacant ∧
    ((at1 readyBay).bay 0).state ≠ .vacant ∧ ((at1 readyBay).bay 0).identity = some ⟨40211, .electric, 64⟩ ∧
    ((at1 latching).bay 0).state = .latching ∧ ((at1 latching).bay 0).identity = none ∧
    ((at1 latching).bay 0).alarms.unidentified = false ∧
    ((at1 fun y => { latching y with alarms := { noAlarms with unidentified := true } }).bay 0).alarms.unidentified = true :=
  ⟨⟨rfl, rfl, rfl⟩, by decide, by decide, by decide, by decide, by decide, by decide, by decide, by decide +kernel, by decide, by decide,
    by decide, by decide, by decide, by decide, by decide, by decide⟩

/-- Bay 1 docked and unidentified. -/
def docked1 (held : Option ForeignReturn) : State :=
  at1 fun y => { readyBay y with identity := none, processed := false, held := held, tagWindow := some 20000 }

theorem witness_TagAssignmentProcessesTheReturn :
    (docked1 none).accepting ∧ ((docked1 none).bay 0).state = .docked ∧ ((docked1 none).bay 0).identity = none ∧
    ((docked1 none).bay 0).processed = false ∧
    (∀ o : Fin 32, o ≠ 0 → ((docked1 none).bay o).names 9 = false) ∧
    (rent { ride with bike := 9 } (docked1 none)).rentals[(3 : Fin 64)] = some { ride with bike := 9 } ∧
    (∀ j : Fin 64, j ≠ 3 → (rent { ride with bike := 9 } (docked1 none)).rentals[j] = none) ∧
    (∀ j : Fin 64, (docked1 none).rentals[j] = none) ∧ ((docked1 none).bay 0).held = none ∧
    (docked1 none).committedSum + 1 ≤ 256 ∧
    256 < ({ docked1 none with journal := List.replicate 256 (.staffRemoval ⟨5, 2, 0, none⟩) }).committedSum + 1 ∧
    ({ docked1 none with journal := List.replicate 255 (.staffRemoval ⟨5, 2, 0, none⟩) }).committedSum + 1 = 256 ∧
    ((docked1 (some ⟨5, 0, 77, .standard, 0⟩)).bay 0).held ≠ none ∧
    (let y := (withBay 0 (fun y => { y with state := .fault }) (docked1 none)).bay 0;
      y.state = .fault ∧ y.presence = .present ∧ y.identity = none ∧ y.processed = false) :=
  ⟨⟨rfl, rfl, rfl⟩, by decide, by decide, by decide, by decide +kernel, by decide +kernel, by decide +kernel,
    by decide +kernel, by decide, by decide +kernel, by decide +kernel, by decide +kernel, by decide, by decide⟩

theorem witness_RentalCloseOutcomes :
    (rent ride open7).accepting ∧ (rent ride open7).rentals[(3 : Fin 64)] = some ride ∧
    (40211 : BitVec 24).toNat = ride.bike ∧ ride.stage = .opened ∧
    (∀ j : Fin 64, j ≠ 3 → (rent ride open7).rentals[j] = none) ∧ (rent ride open7).heldOrder = [] ∧
    (rent (offered .pending) open7).rentals[(3 : Fin 64)] = some (offered .pending) ∧ (offered .pending).stage ≠ .opened :=
  ⟨⟨rfl, rfl, rfl⟩, by decide, by decide, by decide, by decide +kernel, rfl, by decide, by decide⟩

theorem witness_BayServiceAndClear :
    open7.accepting ∧ 32 < (33 : Byte).toNat ∧ (32 : Byte).toNat = (31 : Fin 32).val + 1 ∧
    (open7.bay 31).state = .vacant ∧ (open7.bay 6).state = .docked ∧
    ((at1 fun y => { y with state := .fault }).bay 0).state = .fault ∧
    ((at1 fun y => { y with state := .service }).bay 0).state = .service ∧ ((at1 latching).bay 0).state = .latching :=
  ⟨accepting_open7, by decide, by decide, by decide, by decide, by decide, by decide, by decide⟩

/-- Bay 7 open for rent with a journal of n records. -/
def journalled (n : Nat) : State := { open7 with journal := List.replicate n (.staffRemoval ⟨5, 2, 0, none⟩) }

theorem witness_StaffUnlatchOutcomes :
    open7.accepting ∧ 32 < (33 : Byte).toNat ∧ (7 : Byte).toNat = (6 : Fin 32).val + 1 ∧
    (open7.bay 5).state ≠ .docked ∧ ((journalled 248).bay 6).state = .docked ∧ 248 ≤ (journalled 248).committedSum ∧
    (journalled 247).committedSum < 248 :=
  ⟨accepting_open7, by decide, by decide, by decide, by decide, by decide +kernel, by decide +kernel⟩

theorem witness_JournalReadReply :
    (journalled 5).accepting ∧ (journalled 5).cursor ≤ (journalled 5).journal.length ∧ 1 < (2 : Byte).toNat ∧
    4 < (5 : Byte).toNat ∧ (1 : Byte).toNat ≤ 1 ∧ 1 ≤ (4 : Byte).toNat ∧ (4 : Byte).toNat ≤ 4 :=
  ⟨⟨rfl, rfl, rfl⟩, by decide, by decide, by decide, by decide, by decide, by decide⟩

theorem witness_JournalReleaseDropsReadRecords :
    ({ journalled 5 with cursor := 4 }).accepting ∧
    ({ journalled 5 with cursor := 4 }).cursor ≤ ({ journalled 5 with cursor := 4 }).journal.length ∧
    ({ journalled 5 with cursor := 4 }).cursor < (5 : BitVec 16).toNat ∧ (4 : BitVec 16) ≠ 0 ∧
    (4 : BitVec 16).toNat ≤ ({ journalled 5 with cursor := 4 }).cursor ∧ (journalled 5).heldOrder = [] :=
  ⟨⟨rfl, rfl, rfl⟩, by decide, by decide, by decide, by decide, rfl⟩

/-- Bays 2 and 4 hold a return each behind which another waits; the journal holds n records. -/
def waitingReturns (two : Bool) (n : Nat) : State :=
  let bay := fun (i : Nat) (y : Bay) =>
    { readyBay y with processed := false, identity := some ⟨i, .standard, 50⟩, held := some ⟨900, 1, 77, .standard, 0⟩ }
  let s := withBay 1 (bay 501) { State.reset with
    journal := List.replicate n (.staffRemoval ⟨5, 2, 0, none⟩), heldOrder := if two then [3, 1] else [1] }
  if two then withBay 3 (bay 502) s else s

theorem waiting_kept (two : Bool) (n : Nat) (h : n ∈ [0, 191, 252, 254, 255, 256]) : JournalKept (waitingReturns two n) := by
  revert h two n
  have e : ∀ two : Bool, ∀ n ∈ [0, 191, 252, 254, 255, 256], (waitingReturns two n).committed ≤ 256 ∧
      (waitingReturns two n).cursor ≤ (waitingReturns two n).journal.length ∧ (waitingReturns two n).heldOrder.Nodup ∧
      (∀ b : BayIx, b ∈ (waitingReturns two n).heldOrder ↔ ((waitingReturns two n).bay b).held.isSome) ∧
      ((waitingReturns two n).journal.length ≤ 128 → (waitingReturns two n).highWaterArmed = true) := by decide +kernel
  intro two n h
  obtain ⟨a, b, c, d, f⟩ := e two n h
  exact ⟨a, b, c, d, f⟩

theorem witness_FlushWritesHeldReturnsInOrder :
    (JournalKept busy ∧ (∀ b : Fin 32, (busy.bay b).held.isSome → (busy.bay b).returnDue = false) ∧
      busy.heldOrder = [9] ∧ busy.committedSum < 256) ∧
    (∀ n ∈ [191, 254, 255, 256], JournalKept (waitingReturns false n) ∧ (waitingReturns false n).heldOrder = [1] ∧
      ((waitingReturns false n).bay 1).held = some ⟨900, 1, 77, .standard, 0⟩ ∧
      ((waitingReturns false n).bay 1).returnDue = true ∧
      ((waitingReturns false n).bay 1).identity = some ⟨501, .standard, 50⟩ ∧
      (∀ k : Fin 64, (waitingReturns false n).rentals[k] = none) ∧ (waitingReturns false n).committedSum = n) ∧
    (∀ n ∈ [0, 252], JournalKept (waitingReturns true n) ∧ (waitingReturns true n).heldOrder = [3, 1] ∧
      ((waitingReturns true n).bay 3).returnDue = true ∧ ((waitingReturns true n).bay 1).returnDue = true ∧
      (waitingReturns true n).committedSum + 4 ≤ 256) := by
  refine ⟨⟨witness_StepKeepsTheJournalBounds.1, by decide +kernel, rfl, by decide +kernel⟩, ?_, ?_⟩
  · have e : ∀ n ∈ [191, 254, 255, 256], (waitingReturns false n).heldOrder = [1] ∧
        ((waitingReturns false n).bay 1).held = some ⟨900, 1, 77, .standard, 0⟩ ∧
        ((waitingReturns false n).bay 1).returnDue = true ∧
        ((waitingReturns false n).bay 1).identity = some ⟨501, .standard, 50⟩ ∧
        (∀ k : Fin 64, (waitingReturns false n).rentals[k] = none) ∧ (waitingReturns false n).committedSum = n := by
      decide +kernel
    exact fun n h => ⟨waiting_kept false n (by revert n; decide), e n h⟩
  · have e : ∀ n ∈ [0, 252], (waitingReturns true n).heldOrder = [3, 1] ∧
        ((waitingReturns true n).bay 3).returnDue = true ∧ ((waitingReturns true n).bay 1).returnDue = true ∧
        (waitingReturns true n).committedSum + 4 ≤ 256 := by decide +kernel
    exact fun n h => ⟨waiting_kept true n (by revert n; decide), e n h⟩

theorem witness_ProfileSetClamps : open7.accepting ∧ (0 : Byte) ≠ 1 ∧ (0 : Byte) ≠ 2 :=
  ⟨accepting_open7, by decide, by decide⟩

/-- Bay 7 open for rent with channel 4 disabled. -/
def disabled4 : State := { open7 with channels := open7.channels.set 3 ⟨.disabled, 0, 2⟩ }

theorem witness_ChannelEnableOutcomes :
    disabled4.accepting ∧ 4 < (5 : Byte).toNat ∧ (4 : Byte).toNat = (3 : Fin 4).val + 1 ∧
    (disabled4.channels[(3 : Fin 4)]).mode = .disabled ∧ (disabled4.channels[(0 : Fin 4)]).mode ≠ .disabled ∧
    disabled4.queue = [] ∧ ({ disabled4 with queue := [⟨9, .unlatchReady, 3⟩] }).queue ≠ [] :=
  ⟨⟨rfl, rfl, rfl⟩, by decide, by decide, by decide, by decide, rfl, by decide⟩

theorem witness_GrantKeepsTheAllowance : busy.works ∧ busy.queue ≠ [] := ⟨⟨rfl, rfl⟩, by decide⟩

theorem witness_GrantChoosesByClassThenOrder :
    ({ busy with band := .low }).works ∧ DriveKept { busy with band := .low } ∧
    ({ busy with band := .low }).drivingCount < Band.low.allowance ∧
    (({ busy with band := .low }).channels[(1 : Fin 4)]).mode = .idle ∧
    (∀ d : Fin 4, d < 1 → (({ busy with band := .low }).channels[d]).mode ≠ .idle) ∧
    (∃ q ∈ ({ busy with band := .low }).queue, Band.low.admits q.kind = true ∧
      ({ busy with band := .low }).bayHeld q.bay = false) :=
  ⟨⟨rfl, rfl⟩, ⟨busy_drive.latch, busy_drive.unlatch, busy_drive.oneBay, busy_drive.profiles, busy_drive.counts,
    busy_drive.ordered, busy_drive.below, busy_drive.carried, busy_drive.oneChain⟩, by decide, by decide, by decide, ⟨9, .unlatchReady, 3⟩, by decide, by decide,
    by decide⟩

theorem driving7_pulse (p : Pulse) (f : Bay → Bay) (c : Fin 4) (q : Pulse) (h : (driving7 p f).pulse? c = some q) :
    c = 0 ∧ q = p := by
  have e : ∀ c : Fin 4, c ≠ 0 → (driving7 p f).channels[c] = idleChannel := by
    intro c hc
    match c with
    | 0 => exact absurd rfl hc
    | 1 => rfl
    | 2 => rfl
    | 3 => rfl
  by_cases hc : c = 0
  · subst hc; cases h; exact ⟨rfl, rfl⟩
  · unfold State.pulse? at h; rw [e c hc] at h; cases h

theorem witness_PulsePhasesFollowInOrder (p : Pulse) :
    ((driving7 p latching).works ∧ (driving7 p latching).pulse? 0 = some p) ∧
    ((pulse7 .latch .kick).kickStart + (pulse7 .latch .kick).profile.kickTime ≤ (atMs 60 (driving7 p latching)).ms ∧
      (atMs 59 (driving7 p latching)).ms < (pulse7 .latch .kick).kickStart + (pulse7 .latch .kick).profile.kickTime) ∧
    (0 < (pulse7 .latch .deadtime2).profile.brakeTime ∧
      ({ defaultLatchProfile with brakeTime := 0 }).brakeTime = 0 ∧
      ({ pulse7 .latch .deadtime2 with shorted := true }).shorted = true) ∧
    ((∀ (d : Fin 4) (q : Pulse), (driving7 (pulse7 .latch .connect) latching).pulse? d = some q → q.bay = 6 → d = 0) ∧
      ∀ (d : Fin 4) (q : Pulse), (driving7 (pulse7 .latch .connect) latching).pulse? d = some q → q.bay = 5 →
        q.phase = .coast) ∧
    (let s := driving7 (pulse7 .latch .connect) latching;
      s.pulse? 0 = some (pulse7 .latch .connect) ∧ s.refreshDue = false ∧ (pulse7 .latch .connect).refreshed = true ∧
      ({ s with refreshDue := true }).refreshDue = true ∧ (unrefreshed .latch .connect).refreshed = false) :=
  ⟨⟨works_driving7 p _, rfl⟩, ⟨Nat.le_refl 60, Nat.lt_succ_self 59⟩, ⟨by decide, rfl, rfl⟩,
    ⟨fun d q h _ => (driving7_pulse _ _ d q h).1, fun d q h k => by
      rw [(driving7_pulse _ _ d q h).2] at k; exact absurd k (by decide)⟩, ⟨rfl, rfl, rfl, rfl, rfl⟩⟩

/-- A station whose channel 1 drives a LATCH pulse for bay 7 with stall and short counts. -/
def counted (stall short : Nat) : State :=
  { driving7 (pulse7 .latch .hold) latching with
    channels := State.reset.channels.set 0 ⟨.driving (pulse7 .latch .hold), stall, short⟩ }

theorem witness_DrivesEndOnStallLimitOrShort (stall short ms : Nat) :
    ((atMs ms (counted stall short)).works ∧ (atMs ms (counted stall short)).pulse? 0 = some (pulse7 .latch .hold) ∧
      ((counted stall short).channels[(0 : Fin 4)]).stall = stall ∧ ((counted stall short).channels[(0 : Fin 4)]).short = short ∧
      (atMs ms (counted stall short)).ms = ms) ∧
    (pulse7 .latch .hold).profile.stallTime = 20 ∧
    (pulse7 .latch .hold).kickStart + (pulse7 .latch .hold).profile.travelLimit = 400 ∧
    (let y := (withBay 6 (fun y => { y with latchDue := true }) (counted 0 0)).bay 6;
      y.state = .latching ∧ y.driveStage = .driving ∧ y.latch = .opened ∧ y.latchDue = true ∧ y.presenceDue = false) ∧
    (∀ d : Fin 4, d ≠ 0 → (counted 0 0).pulse? d = none) :=
  ⟨⟨⟨rfl, rfl⟩, rfl, rfl, rfl, rfl⟩, rfl, rfl, ⟨rfl, rfl, rfl, rfl, rfl⟩, by decide⟩

theorem witness_CurrentConversionCounts :
    (counted 19 1).works ∧ (counted 19 1).pulse? 0 = some (pulse7 .latch .hold) ∧
    ((counted 19 1).channels[(0 : Fin 4)]).short < 2 ∧
    ((counted 19 1).channels[(0 : Fin 4)]).stall < (pulse7 .latch .hold).profile.stallTime ∧
    ((counted 19 2).channels[(0 : Fin 4)]).short = 2 ∧ (counted 20 1).pulse? 0 = some (pulse7 .latch .hold) ∧
    (pulse7 .latch .hold).profile.stallTime ≤ ((counted 20 1).channels[(0 : Fin 4)]).stall ∧
    (∀ p, (counted 19 1).pulse? 1 = some p → p.phase ≠ .kick ∧ p.phase ≠ .hold) ∧
    (counted 19 1).scanSlot = (0 : Fin 4).castSucc ∧ (counted 19 1).scanSlot ≠ (1 : Fin 4).castSucc ∧
    ({ counted 19 1 with scanSlot := 1 }).scanSlot = (1 : Fin 4).castSucc ∧
    ({ counted 19 1 with resetHeld := true }).mainPower = true ∧ ({ counted 19 1 with resetHeld := true }).resetHeld = true :=
  ⟨⟨rfl, rfl⟩, rfl, by decide, by decide, by decide, rfl, by decide, fun _ h => (by cases h), rfl, by decide, rfl, rfl, rfl⟩

/-- The bay of a pulse at the end of BRAKE. -/
def braking (k : DriveKind) (f : Bay → Bay) : State := driving7 (pulse7 k .brake) f

/-- The pulse of the rental in slot 4 at the end of BRAKE, with its bay. -/
def brakingRental (f : Bay → Bay) : State :=
  atMs 20 (rent (offered .pending) (braking .unlatchRental fun y => f (unlatching (.rental 3) y)))

theorem witness_BrakeEndReportsTheResult :
    let s := fun (k : DriveKind) (f : Bay → Bay) => atMs 20 (braking k f)
    let b := fun (k : DriveKind) (f : Bay → Bay) => (braking k f).bay 6
    let r := fun (f : Bay → Bay) => (brakingRental f).bay 6
    ((s .latch latching).works ∧ (s .latch latching).pulse? 0 = some (pulse7 .latch .brake) ∧
      (pulse7 .latch .brake).brakeStart + (pulse7 .latch .brake).profile.brakeTime = (s .latch latching).ms ∧
      (atMs 19 (braking .latch latching)).ms < (pulse7 .latch .brake).brakeStart + (pulse7 .latch .brake).profile.brakeTime) ∧
    ((b .latch latching).driveStage = .driving ∧ (b .latch latching).presenceChanged = false ∧
      (b .latch latching).state = .latching ∧ (b .latch latching).latch = .opened ∧ (b .latch latching).attempts < 2 ∧
      (b .latch latching).link = .unlinked ∧ (b .latch fun y => { latching y with latch := .closed }).latch = .closed ∧
      (b .latch fun y => { latching y with attempts := 2 }).attempts = 2) ∧
    (let y := b .unlatchStaff fun y => { unlatching .staff y with latch := .opened };
      y.latch = .opened ∧ y.state = .unlatching ∧ y.link = .staff) ∧
    ((b .unlatchStaff (unlatching .staff)).latch = .closed ∧ (b .unlatchStaff (unlatching .staff)).deadline ≠ .passed ∧
      (b .unlatchReady fun y => { unlatching .readiness y with deadline := .passed }).attempts < 2) ∧
    (let y := b .unlatchReady fun y => { y with state := .unlatching, link := .readiness };
      y.latch = .opened ∧ y.presence = .absent ∧ y.state = .unlatching) ∧
    ((brakingRental id).rentals[(3 : Fin 64)] = some (offered .pending) ∧ (brakingRental id).heldOrder = [] ∧
      (brakingRental id).works ∧ (brakingRental id).pulse? 0 = some (pulse7 .unlatchRental .brake)) ∧
    ((r fun y => { y with latch := .opened }).latch = .opened ∧ (r fun y => { y with latch := .opened }).link = .rental 3) ∧
    (let y := r fun y => { y with deadline := .passed };
      y.latch = .closed ∧ y.deadline = .passed ∧ y.presence = .present ∧ y.processed = true ∧ y.driveStage = .driving) ∧
    (let y := r fun y => { y with attempts := 2 };
      y.latch = .closed ∧ y.deadline ≠ .passed ∧ y.attempts = 2 ∧ y.state = .unlatching ∧ y.processed = true) ∧
    ((brakingRental id).hasRelease 6 ∧ (s .unlatchStaff fun y => { unlatching .staff y with attempts := 2 }).hasRelease 6 ∧
      2 ≤ (b .unlatchStaff fun y => { unlatching .staff y with attempts := 2 }).attempts ∧
      (b .unlatchStaff fun y => { unlatching .staff y with attempts := 2 }).processed = true) ∧
    (let y := b .unlatchReady fun y => { unlatching .readiness y with presence := .absent, attempts := 2 };
      y.latch = .closed ∧ y.presence = .absent ∧ y.attempts = 2 ∧ y.state = .unlatching ∧ y.link = .readiness) ∧
    (let y := b .latch fun y => { readyBay y with state := .latching, processed := false };
      y.state = .latching ∧ y.latch = .closed ∧ y.identity.isSome = true ∧ y.processed = false) ∧
    (let y := b .latch fun y => { readyBay y with state := .latching, latch := .opened, processed := false, attempts := 2 };
      2 ≤ y.attempts ∧ y.latch = .opened ∧ y.presence = .present ∧ y.identity.isSome = true ∧ y.link = .unlinked) ∧
    (b .latch fun y => { latching y with presenceChanged := true }).presenceChanged = true := by
  refine ⟨⟨⟨rfl, rfl⟩, rfl, rfl, ?_⟩, ?_, ?_, ?_, ?_, ⟨?_, rfl, ⟨rfl, rfl⟩, rfl⟩, ?_, ?_, ?_,
    ⟨.inr ⟨3, offered .pending, rfl, ?_, ?_⟩, .inl rfl, ?_, ?_⟩, ?_, ?_, ?_, rfl⟩ <;> decide +kernel

theorem witness_CoastEndFreesTheChannel (r : PulseResult) (short : Bool) :
    (let p := { pulse7 .latch .coast with result := some r, shorted := short };
      (driving7 p latching).works ∧ (driving7 p latching).pulse? 0 = some p ∧ (driving7 p latching).queue = [] ∧
      ({ driving7 p latching with band := .brownout }).band = .brownout ∧ ((driving7 p latching).bay 6).driveStage = .driving ∧
      ((driving7 p latching).bay 6).presenceChanged = false ∧ ((driving7 p latching).bay 6).attempts = 0 ∧
      ((driving7 p latching).bay 6).state = .latching) ∧
    (let p := { pulse7 .unlatchReady .coast with result := some r, shorted := short };
      ((driving7 p (unlatching .readiness)).bay 6).state = .unlatching ∧
      ((driving7 p (unlatching .readiness)).bay 6).link = .readiness) ∧
    (let p := { pulse7 .unlatchRental .coast with result := some r, shorted := short };
      let s := rent (offered .pending) { driving7 p (unlatching (.rental 3)) with band := .brownout };
      s.works ∧ s.pulse? 0 = some p ∧ (s.bay 6).link = .rental 3 ∧ s.rentals[(3 : Fin 64)] = some (offered .pending) ∧
      s.heldOrder = [] ∧ (s.bay 6).presence = .present ∧ (s.bay 6).processed = true ∧ (s.bay 6).driveStage = .driving ∧
      s.hasRelease 6 ∧ (s.bay 6).state = .unlatching ∧ s.refreshDue = false ∧ p.refreshed = true) ∧
    (({ driving7 (pulse7 .latch .coast) latching with refreshDue := true }).refreshDue = true ∧
      (unrefreshed .latch .coast).refreshed = false ∧ (unrefreshed .latch .coast).phase = .coast) ∧
    (let p := { pulse7 .unlatchRental .coast with result := some r, shorted := short };
      (∀ (d : Fin 4) (q : Pulse), (driving7 p latching).pulse? d = some q → q.bay = 6 → d = 0) ∧
      ((driving7 p fun y => { latching y with attempts := 2, processed := true }).bay 6).attempts = 2 ∧
      ((driving7 p fun y => { unlatching .readiness y with attempts := 2, presence := .absent }).bay 6).presence = .absent ∧
      ((driving7 p fun y => { unlatching (.rental 3) y with deadline := .passed }).bay 6).deadline = .passed ∧
      ((driving7 p fun y => { latching y with presenceChanged := true }).bay 6).presenceChanged = true ∧
      ((driving7 p fun y => { latching y with presenceChanged := true }).bay 6).driveStage = .driving) :=
  ⟨⟨works_driving7 _ _, rfl, rfl, rfl, rfl, rfl, rfl, rfl⟩, ⟨rfl, rfl⟩, ⟨⟨rfl, rfl⟩, rfl, rfl, rfl, rfl, rfl, rfl, rfl,
    .inr ⟨3, offered .pending, rfl, rfl, by decide⟩, rfl, rfl, rfl⟩, ⟨rfl, rfl, rfl⟩,
    fun d q h _ => (driving7_pulse _ _ d q h).1, rfl, rfl, rfl, rfl, rfl⟩

theorem witness_SupplySetStoresOrRefuses : open7.accepting := accepting_open7

theorem witness_BatterySamplesAreFiltered :
    (driving7 (pulse7 .latch .kick) latching).works ∧ (driving7 (pulse7 .latch .kick) latching).samples.length ≤ 16 ∧
    (driving7 (pulse7 .latch .kick) latching).pulse? 0 = some (pulse7 .latch .kick) ∧
    ({ State.reset with rejections := 199 }).rejections < 200 ∧ 200 ≤ ({ State.reset with rejections := 200 }).rejections ∧
    ({ State.reset with samples := List.replicate 16 12300 }).samples.length = 16 ∧
    (∀ c : Fin 4, State.reset.pulse? c = none) ∧
    State.reset.scanSlot ≠ 4 ∧ ({ driving7 (pulse7 .latch .kick) latching with scanSlot := 4 }).scanSlot = 4 ∧
    (({ State.reset with resetHeld := true }).mainPower = true ∧ ({ State.reset with resetHeld := true }).resetHeld = true) :=
  ⟨works_driving7 _ _, by decide, rfl, by decide, by decide, by decide, by decide, by decide, rfl, rfl, rfl⟩

/-- A station in a band whose filter holds sixteen samples of one value. -/
def filteredAt (b : Band) (mV : Nat) : State :=
  { driving7 (pulse7 .latch .connect) latching with band := b, samples := List.replicate 16 mV }

theorem witness_BandEvaluationMovesTheBand :
    ((filteredAt .normal 9700).works ∧ (filteredAt .normal 9700).evaluationDue = true ∧
      (atMs 137 (filteredAt .normal 9700)).evaluationDue = false ∧ (filteredAt .normal 11599).samples.sum / 16 = 11599 ∧
      defaultThresholds.critEnter ≤ 11599 ∧ 11599 < defaultThresholds.lowEnter ∧ Band.low.height < Band.normal.height) ∧
    16 ≤ (filteredAt .normal 9700).samples.length ∧ State.reset.samples.length < 16 ∧
    (filteredAt .normal 9700).samples.sum / (filteredAt .normal 9700).samples.length < defaultThresholds.brownEnter ∧
    Band.brownout.height < Band.normal.height ∧
    defaultThresholds.lowLeave ≤ (filteredAt .low 12000).samples.sum / (filteredAt .low 12000).samples.length ∧
    (filteredAt .low 11999).samples.sum / (filteredAt .low 11999).samples.length < defaultThresholds.lowLeave ∧
    (filteredAt .normal 9700).pulse? 0 = some (pulse7 .latch .connect) ∧
    ((counted 0 1).pulse? 0 = some (pulse7 .latch .hold) ∧ ((counted 0 1).channels[(0 : Fin 4)]).short < 2) ∧
    ((counted 0 2).pulse? 0 = some (pulse7 .latch .hold) ∧ ((counted 0 2).channels[(0 : Fin 4)]).short = 2) :=
  ⟨⟨⟨rfl, rfl⟩, rfl, rfl, by decide, by decide, by decide, by decide⟩, by decide, by decide, by decide, by decide, by decide,
    by decide, rfl, ⟨rfl, by decide⟩, rfl, rfl⟩

theorem witness_FifthDifferingSampleIsDue :
    State.reset.works ∧ samplePresence (bothClosed 31) 31 ≠ (State.reset.bay 31).presence ∧
    sampleLatch (bothClosed 31) 31 ≠ (State.reset.bay 31).latch ∧ samplePresence (bothClosed 31) 30 = (State.reset.bay 30).presence ∧
    (State.reset.bay 31).presenceDue = false ∧ (State.reset.bay 31).presenceAgree < 4 ∧
    ((withBay 31 (fun y => { y with presenceAgree := 4 }) State.reset).bay 31).presenceAgree = 4 :=
  ⟨works_reset, by decide, by decide, by decide, by decide, by decide, by decide⟩

/-- A bay whose presence level is due. -/
def due (y : Bay) : Bay := { y with presenceDue := true }

/-- A bay whose latch level is due. -/
def latchDue (y : Bay) : Bay := { y with latchDue := true }

theorem witness_ArrivalAtAVacantBay :
    (withBay 6 due State.reset).works ∧ ((withBay 6 due State.reset).bay 6).state = .vacant ∧
    ((withBay 6 due State.reset).bay 6).presence = .absent ∧ ((withBay 6 due State.reset).bay 6).presenceDue = true ∧
    ((withBay 6 due State.reset).bay 6).latchDue = false ∧ ((withBay 6 due State.reset).bay 6).latch = .opened ∧
    ((withBay 6 due State.reset).bay 5).presenceDue = false ∧ ((withBay 6 due State.reset).bay 5).latchDue = false ∧
    ((withBay 6 (fun y => { due y with latch := .closed }) State.reset).bay 6).latch = .closed ∧
    ((withBay 6 (fun y => latchDue (due y)) State.reset).bay 6).latchDue = true ∧
    ((withBay 6 latchDue State.reset).bay 6).presenceDue = false ∧ (∀ c : Fin 4, State.reset.pulse? c = none) :=
  ⟨⟨rfl, rfl⟩, by decide, by decide, by decide, by decide, by decide, by decide, by decide, by decide, by decide, by decide,
    by decide⟩

/-- A station whose bay 7 is in RELEASED for the rental of slot 4. -/
def releasing : State :=
  rent (offered .released) (withBay 6 (fun y => due (released (.rental 3) y))
    { open7 with spent := [⟨61204, 7, 1110, .held⟩] })

/-- Bay 7 with a presence level due. -/
def falling (f : Bay → Bay) : Bay := due (f (State.reset.bay 6))

theorem witness_RemovalOfAReleasedRental :
    (releasing.works ∧ (releasing.bay 6).state = .released ∧ (releasing.bay 6).presence = .present ∧
      (releasing.bay 6).presenceDue = true ∧ (releasing.bay 6).latchDue = false ∧ (releasing.bay 6).latch = .opened ∧
      (releasing.bay 6).link = .rental 3 ∧ releasing.rentals[(3 : Fin 64)] = some (offered .released) ∧
      (offered .released).stage = .released ∧ releasing.heldOrder = [] ∧ (releasing.bay 6).processed = true ∧
      (∀ c : Fin 4, releasing.pulse? c = none)) ∧
    ((withBay 6 latchDue releasing).bay 6).latchDue = true ∧
    ((withBay 6 (fun y => latchDue { y with presenceDue := false }) releasing).bay 6).presenceDue = false ∧
    (journalled 191).journal.length = 191 ∧ (journalled 191).highWaterArmed = true ∧
    (let y := falling fun y => { unlatching (.rental 3) y with driveStage := .driving };
      y.state = .unlatching ∧ y.driveStage = .driving ∧ y.presence = .present ∧ y.presenceDue = true ∧ y.latchDue = false) ∧
    (let y := falling (released .staff); y.link = .staff ∧ y.state = .released ∧ y.latch = .opened ∧ y.presence = .present) ∧
    (let y := falling fun y => { unlatching .staff y with driveStage := .retryWait, latch := .opened };
      y.link = .staff ∧ y.state = .unlatching ∧ y.driveStage = .retryWait ∧ y.latch = .opened) ∧
    (let y := falling fun y => { unlatching .readiness y with presence := .absent, driveStage := .driving };
      y.link = .readiness ∧ y.presence = .absent ∧ y.presenceDue = true ∧ y.driveStage = .driving) ∧
    (let y := falling fun y => { unlatching .readiness y with presence := .absent, driveStage := .queued, latch := .opened };
      y.driveStage = .queued ∧ y.latch = .opened) ∧
    (let y := falling fun y => { unlatching .readiness y with presence := .absent, driveStage := .queued, identity := none };
      y.link = .readiness ∧ y.presence = .absent ∧ y.driveStage = .queued ∧ y.latch = .closed ∧ y.identity = none) ∧
    (let y := falling fun y => { unlatching .unlinked y with presence := .absent, driveStage := .driving, presenceChanged := true };
      y.state = .unlatching ∧ y.link = .unlinked ∧ y.presenceDue = true ∧ y.latchDue = false) ∧
    (falling (unlatching .readiness)).presence = .present ∧
    (let y := falling fun y => { unlatching (.rental 3) y with driveStage := .queued };
      y.link = .rental 3 ∧ y.state = .unlatching ∧ y.driveStage = .queued ∧ y.latch = .closed) ∧
    (let y := falling fun y => { unlatching (.rental 3) y with driveStage := .retryWait, latch := .opened };
      y.link = .rental 3 ∧ y.driveStage = .retryWait ∧ y.latch = .opened) ∧
    (let s := withBay 6 (fun y => latchDue (released .staff y)) open7;
      (s.bay 6).link = .staff ∧ (s.bay 6).state = .released ∧ (s.bay 6).presence = .present ∧
        (s.bay 6).presenceDue = false ∧ (s.bay 6).latch = .opened ∧ (s.bay 6).processed = true) ∧
    releasing.hasRelease 6 ∧ (withBay 6 (fun y => latchDue (released .staff y)) open7).hasRelease 6 := by
  refine ⟨⟨⟨rfl, rfl⟩, ?_⟩, ?_, ?_, ?_, ?_, ?_, ?_, ?_, ?_, ?_, ?_, ?_, ?_, ?_, ?_, ?_, .inr ⟨3, offered .released, rfl, ?_, ?_⟩,
    .inl rfl⟩ <;> decide +kernel

theorem witness_UnrentedRemovalFromDocked :
    ((withBay 6 due open7).works ∧ ((withBay 6 due open7).bay 6).state = .docked ∧
      ((withBay 6 due open7).bay 6).presence = .present ∧ ((withBay 6 due open7).bay 6).presenceDue = true ∧
      ((withBay 6 due open7).bay 6).latchDue = false ∧ ((withBay 6 due open7).bay 6).latch = .closed ∧
      ((withBay 6 due open7).bay 6).identity.isSome = true) ∧
    (let y := (withBay 6 latchDue open7).bay 6; y.presenceDue = false ∧ y.latchDue = true ∧ y.presence = .present) ∧
    (let y := falling fun y => { latching y with driveStage := .retryWait };
      y.state = .latching ∧ y.presence = .present ∧ y.driveStage = .retryWait ∧ y.latch = .opened) ∧
    (let y := falling fun y => { latching y with driveStage := .driving };
      y.driveStage = .driving ∧ y.presence = .present ∧ y.presenceDue = true) ∧
    (let y := falling fun y => { latching y with driveStage := .driving, presence := .absent, presenceChanged := true };
      y.presence = .absent ∧ y.presenceDue = true ∧ y.presenceChanged = true) ∧
    (let y := latchDue { latching (State.reset.bay 6) with driveStage := .queued };
      y.driveStage = .queued ∧ y.presenceDue = false ∧ y.latch = .opened ∧ y.latchDue = true) ∧
    (let y := falling fun y => { readyBay y with state := .fault, processed := false };
      y.state = .fault ∧ y.presence = .present ∧ y.identity.isSome = true ∧ y.processed = false) ∧
    ((falling fun y => { y with state := .fault }).presence = .absent ∧
      (latchDue { State.reset.bay 6 with state := .service }).latchDue = true ∧
      (falling fun y => { y with state := .service }).presenceDue = true) ∧
    (let y := (withBay 6 (fun y => latchDue (due y)) open7).bay 6;
      y.state = .docked ∧ y.presence = .present ∧ y.presenceDue = true ∧ y.latch = .closed ∧ y.latchDue = true) ∧
    (let y := latchDue (falling fun y => { latching y with driveStage := .queued });
      y.state = .latching ∧ y.presenceDue = true ∧ y.latchDue = true ∧ y.driveStage = .queued) ∧
    (let y := latchDue (falling fun y => { readyBay y with state := .fault });
      y.state = .fault ∧ y.presenceDue = true ∧ y.latchDue = true) ∧ (∀ c : Fin 4, open7.pulse? c = none) := by
  refine ⟨⟨⟨rfl, rfl⟩, ?_⟩, ?_⟩ <;> decide +kernel

theorem witness_BayTimersExpire :
    (State.reset.works ∧ (atMs 20000 (docked1 none)).works ∧ ((atMs 20000 (docked1 none)).bay 0).tagWindow = some 20000 ∧
      (State.reset.bay 0).tagWindow = none ∧ (atMs 19999 (docked1 none)).ms < 20000) ∧
    ((at1 fun y => { y with pendingTag := some ⟨⟨9, .standard, 0⟩, 5000⟩ }).bay 0).pendingTag = some ⟨⟨9, .standard, 0⟩, 5000⟩ ∧
    (let y := (at1 fun y => { latching y with driveStage := .retryWait, retryDelay := some 2073 }).bay 0;
      y.state = .latching ∧ y.driveStage = .retryWait ∧ y.retryDelay = some 2073) ∧
    (let y := (driving7 (pulse7 .unlatchRental .kick) (unlatching (.rental 3))).bay 6;
      y.deadline = .running 8000 ∧ y.driveStage = .driving) ∧
    ((releasing.bay 6).state = .released ∧ (releasing.bay 6).takeWindow = some 30000) ∧
    (let y := (withBay 0 (fun y => { y with lamp := .double, lampPhase := 3, lampSince := 300 }) State.reset).bay 0;
      y.lamp = .double ∧ y.lampPhase = 3 ∧ y.lampSince + 1700 = (atMs 2000 State.reset).ms) ∧
    (let y := (at1 fun y => { unlatching (.rental 3) y with driveStage := .retryWait, retryDelay := some 2073 }).bay 0;
      y.state = .unlatching ∧ y.link = .rental 3 ∧ y.driveStage = .retryWait ∧ y.retryDelay = some 2073) ∧
    (let s := { withBay 0 (fun y => { y with lamp := .steady }) State.reset with refreshDue := true, evaluationDue := false };
      s.pending = [] ∧ s.due = [] ∧ s.refreshDue = true ∧ s.mainPower = true ∧ s.resetHeld = false) ∧
    (∀ c : Fin 4, State.reset.pulse? c = none) := by
  refine ⟨⟨works_reset, ⟨rfl, rfl⟩, ?_⟩, ?_⟩ <;> decide +kernel

/-- A station whose bay 7 waits in UNLATCHING for the rental of slot 4. -/
def waiting : State :=
  rent (offered .pending) (withBay 6 (fun y => { unlatching (.rental 3) y with driveStage := .queued })
    { open7 with queue := [⟨6, .unlatchRental, 0⟩], nextOrder := 1 })

theorem witness_ReleasesEndAtTheirTimers :
    ((atMs 30000 releasing).works ∧ 30000 ≤ (atMs 30000 releasing).ms ∧ (atMs 30000 releasing).heldOrder = [] ∧
      ((atMs 30000 releasing).bay 6).link = .rental 3 ∧ (atMs 30000 releasing).rentals[(3 : Fin 64)] = some (offered .released) ∧
      (offered .released).stage ≠ .opened ∧ ((atMs 30000 releasing).bay 6).state = .released ∧
      ((atMs 30000 releasing).bay 6).takeWindow = some 30000) ∧
    (atMs 8000 waiting).works ∧ 8000 ≤ (atMs 8000 waiting).ms ∧ (atMs 8000 waiting).heldOrder = [] ∧
    (let y := (atMs 8000 waiting).bay 6;
      y.link = .rental 3 ∧ y.state = .unlatching ∧ y.driveStage = .queued ∧ y.deadline = .running 8000 ∧
      y.presence = .present ∧ y.latch = .closed ∧ y.processed = true) ∧
    ((atMs 8000 waiting).rentals[(3 : Fin 64)] = some (offered .pending) ∧ (offered .pending).stage ≠ .opened) ∧
    (atMs 8000 waiting).hasRelease 6 ∧ (atMs 30000 (withBay 6 (released .staff) releasing)).hasRelease 6 ∧
    (let y := (atMs 30000 (withBay 6 (released .staff) releasing)).bay 6; y.state = .released ∧ y.takeWindow = some 30000) := by
  refine ⟨⟨⟨rfl, rfl⟩, ?_⟩, ⟨rfl, rfl⟩, ?_, ?_, ?_, ?_, .inr ⟨3, offered .pending, rfl, ?_, ?_⟩, .inl rfl, ?_⟩ <;> decide +kernel

theorem witness_ResetMakesAColdReset :
    ({ busy with resetHeld := true }).resetHeld = true ∧ ({ busy with resetHeld := true }).mainPower = true ∧
    ({ busy with resetHeld := true, mainPower := false }).mainPower = false ∧ busy.resetHeld = false ∧
    Frame.encodeRequest .hello = some (0x01, []) ∧ reachesStoppedPart (.coastEnd 0) = false := ⟨rfl, rfl, rfl, rfl, rfl, rfl⟩

theorem witness_PowerLossKeepsTheBackupDomain :
    busy.mainPower = true ∧ ({ busy with mainPower := false }).mainPower = false ∧
    reachesStoppedPart (.senseScan 0) = false := ⟨rfl, rfl, rfl⟩

theorem witness_PowerReturnRestartsThePart :
    busy.mainPower = true ∧ ({ busy with mainPower := false }).mainPower = false ∧
    ({ busy with mainPower := false }).backupValid = true ∧ ({ busy with mainPower := false }).resetHeld = false ∧
    ({ busy with mainPower := false, backupValid := false }).backupValid = false := ⟨rfl, rfl, rfl, rfl, rfl⟩

end Sys2Proof.Tests
end

section
/-! The drive bounds and the agreement of bays, queue and channels (O7). First what the operations at a bay leave alone, then
the agreement itself, stated so that it can be open at some bays while an operation works there. -/

namespace Sys2Proof.Machine

/-! ### What the operations at the bays leave alone -/

/-- `t` comes of `s` by work at the bays: only bay records, causes, journal, lists, rentals and the drive queue differ. -/
def AtBays (s t : State) : Prop :=
  t = { s with
    bays := t.bays, changes := t.changes, journal := t.journal, highWaterArmed := t.highWaterArmed
    heldOrder := t.heldOrder, rentals := t.rentals, spent := t.spent, queue := t.queue, nextOrder := t.nextOrder }

theorem AtBays.refl (s : State) : AtBays s s := rfl

theorem AtBays.trans {s t u : State} (h : AtBays s t) (k : AtBays t u) : AtBays s u := by
  unfold AtBays at *
  rw [k, h]

theorem AtBays.channels {s t : State} (h : AtBays s t) : t.channels = s.channels := by rw [h]
theorem AtBays.chain {s t : State} (h : AtBays s t) : t.chain = s.chain := by rw [h]
theorem AtBays.latchProfile {s t : State} (h : AtBays s t) : t.latchProfile = s.latchProfile := by rw [h]
theorem AtBays.unlatchProfile {s t : State} (h : AtBays s t) : t.unlatchProfile = s.unlatchProfile := by rw [h]
theorem AtBays.mainPower {s t : State} (h : AtBays s t) : t.mainPower = s.mainPower := by rw [h]
theorem AtBays.ms {s t : State} (h : AtBays s t) : t.ms = s.ms := by rw [h]
theorem AtBays.clock {s t : State} (h : AtBays s t) : t.clock = s.clock := by rw [h]
theorem AtBays.settings {s t : State} (h : AtBays s t) : t.settings = s.settings := by rw [h]

theorem AtBays.modBay (s : State) (b : BayIx) (f : Bay → Bay) : AtBays s (s.modBay b f) := rfl
theorem AtBays.postBay (s : State) (b : BayIx) (c : BayCause) : AtBays s (s.postBay b c) := rfl
theorem AtBays.changeState (b : BayIx) (n : BayState) (s : State) : AtBays s (changeState b n s) := by
  rw [AtBays, changeState_frame]
theorem AtBays.processReturn (b : BayIx) (s : State) : AtBays s (processReturn b s) := by
  rw [AtBays, processReturn_frame]
theorem AtBays.flush (s : State) : AtBays s (flush s) := by rw [AtBays, flush_frame]
theorem AtBays.enterDocked (b : BayIx) (s : State) : AtBays s (enterDocked b s) := by rw [AtBays, enterDocked_frame]
theorem AtBays.rederive (b : BayIx) (s : State) : AtBays s (rederive b s) := by rw [AtBays, rederive_frame]
theorem AtBays.discardRelease (b : BayIx) (o : LastOutcome) (s : State) : AtBays s (discardRelease b o s) := by
  rw [AtBays, discardRelease_frame]
theorem AtBays.removeBike (b : BayIx) (s : State) : AtBays s (removeBike b s) := by rw [AtBays, removeBike_frame]
theorem AtBays.postRequest (b : BayIx) (s : State) : AtBays s (postRequest b s) := by rw [AtBays, postRequest_frame]
theorem AtBays.withdrawRequest (b : BayIx) (s : State) : AtBays s (withdrawRequest b s) := rfl
theorem AtBays.enterLatching (b : BayIx) (s : State) : AtBays s (enterLatching b s) := by rw [AtBays, enterLatching_frame]
theorem AtBays.enterUnlatching (b : BayIx) (l : Link) (s : State) : AtBays s (enterUnlatching b l s) := by
  rw [AtBays, enterUnlatching_frame]

theorem AtBays.secured (b : BayIx) (s : State) : AtBays s (secured b s) := by
  refine .trans ?_ (.processReturn b _)
  rw [AtBays, startTagWindow_frame]

theorem AtBays.enterFault (b : BayIx) (s : State) : AtBays s (enterFault b s) := by
  unfold Machine.enterFault
  simp only
  split
  · exact (AtBays.changeState b _ s).trans (.secured b _)
  · exact .changeState b _ s

/-! ### The queue under the operations that post nothing -/

@[simp] theorem changeState_queue (b : BayIx) (n : BayState) (s : State) : (changeState b n s).queue = s.queue := by
  rw [changeState_frame]
@[simp] theorem processReturn_queue (b : BayIx) (s : State) : (processReturn b s).queue = s.queue := by
  rw [processReturn_frame]
@[simp] theorem secured_queue (b : BayIx) (s : State) : (secured b s).queue = s.queue := by
  rw [secured, processReturn_queue, startTagWindow_frame]
@[simp] theorem flush_queue (s : State) : (flush s).queue = s.queue := by rw [flush_frame]
@[simp] theorem enterDocked_queue (b : BayIx) (s : State) : (enterDocked b s).queue = s.queue := by rw [enterDocked_frame]
@[simp] theorem enterFault_queue (b : BayIx) (s : State) : (enterFault b s).queue = s.queue := by
  unfold enterFault; simp only; split <;> simp
@[simp] theorem discardRelease_queue (b : BayIx) (o : LastOutcome) (s : State) : (discardRelease b o s).queue = s.queue := by
  rw [discardRelease_frame]
@[simp] theorem removeBike_queue (b : BayIx) (s : State) : (removeBike b s).queue = s.queue := by rw [removeBike_frame]
@[simp] theorem modBay_queue (b : BayIx) (f : Bay → Bay) (s : State) : (s.modBay b f).queue = s.queue := rfl

@[simp] theorem changeState_nextOrder (b : BayIx) (n : BayState) (s : State) : (changeState b n s).nextOrder = s.nextOrder := by
  rw [changeState_frame]
@[simp] theorem processReturn_nextOrder (b : BayIx) (s : State) : (processReturn b s).nextOrder = s.nextOrder := by
  rw [processReturn_frame]
@[simp] theorem secured_nextOrder (b : BayIx) (s : State) : (secured b s).nextOrder = s.nextOrder := by
  rw [secured, processReturn_nextOrder, startTagWindow_frame]
@[simp] theorem flush_nextOrder (s : State) : (flush s).nextOrder = s.nextOrder := by rw [flush_frame]
@[simp] theorem enterDocked_nextOrder (b : BayIx) (s : State) : (enterDocked b s).nextOrder = s.nextOrder := by
  rw [enterDocked_frame]
@[simp] theorem enterFault_nextOrder (b : BayIx) (s : State) : (enterFault b s).nextOrder = s.nextOrder := by
  unfold enterFault; simp only; split <;> simp
@[simp] theorem discardRelease_nextOrder (b : BayIx) (o : LastOutcome) (s : State) :
    (discardRelease b o s).nextOrder = s.nextOrder := by rw [discardRelease_frame]
@[simp] theorem removeBike_nextOrder (b : BayIx) (s : State) : (removeBike b s).nextOrder = s.nextOrder := by
  rw [removeBike_frame]
@[simp] theorem modBay_nextOrder (b : BayIx) (f : Bay → Bay) (s : State) : (s.modBay b f).nextOrder = s.nextOrder := rfl

/-! ### The bay record under a withdrawal and an alarm -/

@[simp] theorem withdrawRequest_bay (b : BayIx) (s : State) :
    (withdrawRequest b s).bay b = { s.bay b with driveStage := .noRequest, retryDelay := none } :=
  State.modBay_bay_self _ _ _

theorem withdrawRequest_other (b o : BayIx) (s : State) (h : o ≠ b) : (withdrawRequest b s).bay o = s.bay o :=
  State.modBay_bay_ne _ _ b o h

@[simp] theorem raiseAlarm_bay (b : BayIx) (a : Alarm) (s : State) :
    (raiseAlarm b a s).bay b = { s.bay b with alarms := (s.bay b).alarms.add a } := by
  rw [raiseAlarm, State.postBay_bay, State.modBay_bay_self]

/-! ### What ties a bay to its request -/

/-- The items of a bay record that R12 ties together, with the lamp of R24. -/
def Bay.tie (y : Bay) : BayState × Link × DriveStage × Bool × LampPattern :=
  (y.state, y.link, y.driveStage, y.presenceChanged, y.lamp)

theorem Bay.tie_eq_iff (y z : Bay) : y.tie = z.tie ↔ y.state = z.state ∧ y.link = z.link ∧ y.driveStage = z.driveStage ∧
    y.presenceChanged = z.presenceChanged ∧ y.lamp = z.lamp := by
  simp [Bay.tie]

/-- A change of a bay record that leaves its tie leaves every bay's. -/
theorem modBay_tie (b o : BayIx) (f : Bay → Bay) (s : State) (h : (f (s.bay b)).tie = (s.bay b).tie) :
    ((s.modBay b f).bay o).tie = (s.bay o).tie := by
  by_cases e : o = b
  · subst e; rw [State.modBay_bay_self, h]
  · rw [State.modBay_bay_ne s f b o e]

@[simp] theorem raiseAlarm_tie (b o : BayIx) (a : Alarm) (s : State) : ((raiseAlarm b a s).bay o).tie = (s.bay o).tie := by
  rw [raiseAlarm, State.postBay_bay]
  exact modBay_tie b o _ s rfl

@[simp] theorem processReturn_tie (b o : BayIx) (s : State) : ((processReturn b s).bay o).tie = (s.bay o).tie := by
  by_cases e : o = b
  · subst e; rw [processReturn_bay]; rfl
  · rw [processReturn_other b o s e]

@[simp] theorem startTagWindow_tie (b o : BayIx) (s : State) : ((startTagWindow b s).bay o).tie = (s.bay o).tie := by
  by_cases e : o = b
  · subst e; rw [startTagWindow_bay]; rfl
  · rw [startTagWindow_other b o s e]

@[simp] theorem secured_tie (b o : BayIx) (s : State) : ((secured b s).bay o).tie = (s.bay o).tie := by
  rw [secured, processReturn_tie, startTagWindow_tie]

@[simp] theorem writeHeld_tie (b o : BayIx) (r : ForeignReturn) (s : State) :
    ((writeHeld b r s).bay o).tie = (s.bay o).tie := by
  unfold writeHeld
  rw [State.postBay_bay, modBay_tie b o _ _ rfl]
  exact congrArg Bay.tie (appendRecord_bay _ s o)

theorem flushFrom_tie (l : List BayIx) (o : BayIx) (s : State) : ((flushFrom l s).1.bay o).tie = (s.bay o).tie := by
  induction l generalizing s with
  | nil => rfl
  | cons b rest ih =>
    unfold flushFrom
    split
    · split
      · rw [ih, writeHeld_tie]
      · rfl
    · exact ih _

theorem processReturns_tie (l : List BayIx) (o : BayIx) (s : State) :
    ((l.foldl (fun t b => processReturn b t) s).bay o).tie = (s.bay o).tie := by
  induction l generalizing s with
  | nil => rfl
  | cons b rest ih => rw [List.foldl_cons, ih, processReturn_tie]

/-- The flush moves no bay (R130, R131). -/
@[simp] theorem flush_tie (o : BayIx) (s : State) : ((flush s).bay o).tie = (s.bay o).tie := by
  unfold flush
  rw [processReturns_tie, flushFrom_tie]

/-- A change of state moves state and lamp of a bay whose lamp stood in its state's pattern. -/
theorem changeState_tie (b : BayIx) (n : BayState) (s : State) (h : (s.bay b).lamp = (s.bay b).state.lamp) :
    ((changeState b n s).bay b).tie =
      (n, (s.bay b).link, (s.bay b).driveStage, (s.bay b).presenceChanged, n.lamp) := by
  rw [changeState_eq_entered, State.entered_bay]
  unfold Bay.changedTo Bay.tie
  split
  · rename_i e; rw [h, e]
  · rfl

theorem enterDocked_tie (b : BayIx) (s : State) (h : (s.bay b).lamp = (s.bay b).state.lamp) :
    ((enterDocked b s).bay b).tie =
      (.docked, (s.bay b).link, (s.bay b).driveStage, (s.bay b).presenceChanged, .off) := by
  rw [enterDocked, secured_tie, changeState_tie b _ s h]; rfl

theorem enterFault_tie (b : BayIx) (s : State) (h : (s.bay b).lamp = (s.bay b).state.lamp) :
    ((enterFault b s).bay b).tie =
      (.fault, (s.bay b).link, (s.bay b).driveStage, (s.bay b).presenceChanged, .fast) := by
  unfold enterFault
  simp only
  split
  · rw [secured_tie, changeState_tie b _ s h]; rfl
  · rw [changeState_tie b _ s h]; rfl

theorem enterFault_other (b o : BayIx) (s : State) (h : o ≠ b) : ((enterFault b s).bay o) = s.bay o := by
  unfold enterFault secured
  simp only
  split
  · rw [processReturn_other b o _ h, startTagWindow_other b o _ h, changeState_other b o _ _ h]
  · rw [changeState_other b o _ _ h]

/-- The end of a release drops the link and moves nothing else. -/
theorem endRelease_tie (b : BayIx) (x : LastOutcome) (s : State) : ((endRelease b x s).bay b).tie =
    ((s.bay b).state, .unlinked, (s.bay b).driveStage, (s.bay b).presenceChanged, (s.bay b).lamp) := by
  unfold endRelease
  rw [State.postBay_bay, State.modBay_bay_self]
  rfl

theorem removeRental_bay (k : Fin 64) (r : Rental) (s : State) (o : BayIx) : (removeRental k r s).bay o = s.bay o := by
  rw [removeRental_frame]; rfl

/-- A discard at a bay moves its link only. -/
theorem discardRelease_tie (b : BayIx) (x : LastOutcome) (s : State) : ∃ l : Link,
    ((discardRelease b x s).bay b).tie =
      ((s.bay b).state, l, (s.bay b).driveStage, (s.bay b).presenceChanged, (s.bay b).lamp) ∧
    ((s.bay b).link ≠ .readiness → l = .unlinked) := by
  unfold discardRelease
  split
  · split
    · refine ⟨.unlinked, ?_, fun _ => rfl⟩
      rw [flush_tie, endRelease_tie, removeRental_bay]
    · exact ⟨.unlinked, endRelease_tie b x s, fun _ => rfl⟩
  · refine ⟨.unlinked, ?_, fun _ => rfl⟩
    rw [flush_tie, endRelease_tie]
  · rename_i e; exact ⟨.unlinked, by simp [Bay.tie, e], fun _ => rfl⟩
  · rename_i e; exact ⟨.readiness, by simp [Bay.tie, e], fun h => absurd e h⟩

theorem discardRelease_tie_other (b o : BayIx) (x : LastOutcome) (s : State) (h : o ≠ b) :
    ((discardRelease b x s).bay o).tie = (s.bay o).tie := by
  unfold discardRelease
  split
  · split
    · rw [flush_tie, endRelease_other b o x _ h, removeRental_bay]
    · rw [endRelease_other b o x s h]
  · rw [flush_tie, endRelease_other b o x s h]
  · rfl
  · rfl

theorem openRental_bay (k : Fin 64) (r : Rental) (s : State) (o : BayIx) : (openRental k r s).bay o = s.bay o := by
  rw [openRental_frame]; rfl

/-- A removal drops the link, clears the bike and stops the release's timers. -/
theorem removeBike_bay (b : BayIx) (s : State) : (removeBike b s).bay b = { s.bay b with
    lastOutcome := .checkedOut, deadline := .stopped, takeWindow := none, link := .unlinked
    identity := none, arrival := none, processed := false } := by
  unfold removeBike endRelease
  simp only [State.modBay_bay_self, State.postBay_bay]
  split
  · split
    · rw [openRental_bay]; rfl
    · rfl
  · rw [appendRecord_bay]; rfl
  · rfl
  · rfl

theorem removeBike_other (b o : BayIx) (s : State) (h : o ≠ b) : (removeBike b s).bay o = s.bay o := by
  unfold removeBike
  simp only
  rw [State.modBay_bay_ne _ _ b o h, endRelease_other b o _ _ h]
  split
  · split
    · rw [openRental_bay]
    · rfl
  · rw [appendRecord_bay]
  · rfl
  · rfl

end Sys2Proof.Machine
end

section
/-! The agreement of bays, queue and channels, bay by bay, while the bays of a list stand open. -/

namespace Sys2Proof.Machine

/-- What a channel drives: the pulse of each channel, as `State.pulse?` gives it. -/
abbrev Pulses := Fin 4 → Option Pulse

/-- A bay's record agrees with the queue and with the pulses on its request (R12, R138, R159). -/
structure Bay.Agrees (y : Bay) (P : Pulses) (queue : List DriveRequest) (o : BayIx) : Prop where
  tied    : y.Tied
  queued  : ∀ q ∈ queue, q.bay = o → y.driveStage = .queued ∧ y.requestKind = some q.kind
  stands  : y.driveStage = .queued → ∃ q ∈ queue, q.bay = o
  driving : ∀ c p, P c = some p → p.waiting = true → p.bay = o → y.driveStage = .driving ∧ y.fits p.kind
  driven  : y.driveStage = .driving → ∃ c p, P c = some p ∧ p.waiting = true ∧ p.bay = o

/-- Bays, queue and pulses agree but for the bays of `free`, which hold no request in the queue and no pulse; their lamps
follow. -/
structure TiedBut (free : List BayIx) (P : Pulses) (s : State) : Prop where
  agrees   : ∀ o, o ∉ free → (s.bay o).Agrees P s.queue o
  unqueued : ∀ q ∈ s.queue, q.bay ∉ free
  unheld   : ∀ c p, P c = some p → p.waiting = true → p.bay ∉ free
  lamps    : ∀ o ∈ free, (s.bay o).lamp = (s.bay o).state.lamp
  queueOne : s.queue.Pairwise fun x y => x.bay ≠ y.bay

/-- The pulses agree among themselves: one for each bay, and a short on its way to COAST (R138, R154). -/
structure PulsesTied (P : Pulses) : Prop where
  oneBay  : ∀ c d p q, P c = some p → P d = some q → p.bay = q.bay → c = d
  shorted : ∀ c p, P c = some p → p.shorted = true → p.result = some .jam ∧ (p.phase = .deadtime2 ∨ p.phase = .coast)

theorem requestsTied_iff (s : State) : RequestsTied s ↔ TiedBut [] s.pulse? s ∧ PulsesTied s.pulse? where
  mp h := ⟨{
      agrees := fun o _ => {
        tied := h.bays o
        queued := fun q m e => e ▸ h.queued q m
        stands := h.stands o
        driving := fun c p k w e => e ▸ h.driving c p k w
        driven := h.driven o }
      unqueued := fun _ _ => List.not_mem_nil
      unheld := fun _ _ _ _ => List.not_mem_nil
      lamps := fun _ m => absurd m List.not_mem_nil
      queueOne := h.queueOne }, ⟨h.oneBay, h.shorted⟩⟩
  mpr h := {
    bays := fun o => (h.1.agrees o List.not_mem_nil).tied
    queued := fun q m => (h.1.agrees q.bay List.not_mem_nil).queued q m rfl
    queueOne := h.1.queueOne
    stands := fun o => (h.1.agrees o List.not_mem_nil).stands
    driving := fun c p k w => (h.1.agrees p.bay List.not_mem_nil).driving c p k w rfl
    driven := fun o => (h.1.agrees o List.not_mem_nil).driven
    oneBay := h.2.oneBay
    shorted := h.2.shorted }

theorem RequestsTied.lampsFollow {s : State} (h : RequestsTied s) : LampsFollow s := fun b => (h.bays b).lamp

/-! ### The tie decides -/

theorem Bay.requestKind_of_tie {y z : Bay} (h : z.tie = y.tie) : z.requestKind = y.requestKind := by
  obtain ⟨h1, h2, -, -, -⟩ := (Bay.tie_eq_iff z y).mp h
  simp only [Bay.requestKind, h1, h2]

theorem Bay.fits_of_tie {y z : Bay} (h : z.tie = y.tie) (k : DriveKind) : z.fits k ↔ y.fits k := by
  obtain ⟨h1, h2, -, -, -⟩ := (Bay.tie_eq_iff z y).mp h
  cases k <;> simp only [Bay.fits, h1, h2]

theorem Bay.Tied.of_tie {y z : Bay} (h : z.tie = y.tie) (t : y.Tied) : z.Tied := by
  obtain ⟨h1, h2, h3, h4, h5⟩ := (Bay.tie_eq_iff z y).mp h
  constructor <;> simp only [h1, h2, h3, h4, h5]
  · exact t.request
  · exact t.linked
  · exact t.dropped
  · exact t.released
  · exact t.changed
  · exact t.lamp

/-- Agreement rests on the tie and on the requests that stand in the queue for the bay. -/
theorem Bay.Agrees.of_tie {y z : Bay} {P : Pulses} {l m : List DriveRequest} {o : BayIx} (a : y.Agrees P l o)
    (h : z.tie = y.tie) (hq : ∀ q, q.bay = o → (q ∈ m ↔ q ∈ l)) : z.Agrees P m o := by
  have hs := ((Bay.tie_eq_iff z y).mp h).2.2.1
  refine ⟨a.tied.of_tie h, ?_, ?_, ?_, ?_⟩
  · intro q k e
    rw [hs, Bay.requestKind_of_tie h]
    exact a.queued q ((hq q e).mp k) e
  · intro k
    obtain ⟨q, hm, e⟩ := a.stands (hs ▸ k)
    exact ⟨q, (hq q e).mpr hm, e⟩
  · intro c p k w e
    rw [hs, Bay.fits_of_tie h]
    exact a.driving c p k w e
  · intro k
    exact a.driven (hs ▸ k)

/-- A state whose queue and ties stand agrees as before. -/
theorem TiedBut.of_tie {l : List BayIx} {P : Pulses} {s t : State} (h : TiedBut l P s) (hq : t.queue = s.queue)
    (ht : ∀ o, (t.bay o).tie = (s.bay o).tie) : TiedBut l P t where
  agrees o m := (h.agrees o m).of_tie (ht o) fun q _ => by rw [hq]
  unqueued := by rw [hq]; exact h.unqueued
  unheld := h.unheld
  lamps o m := by
    obtain ⟨h1, -, -, -, h5⟩ := (Bay.tie_eq_iff _ _).mp (ht o)
    rw [h5, h1, h.lamps o m]
  queueOne := by rw [hq]; exact h.queueOne

/-- Work at an open bay that keeps its lamp in the state's pattern leaves the agreement of the others. -/
theorem TiedBut.at_open {b : BayIx} {l : List BayIx} {P : Pulses} {s t : State} (h : TiedBut (b :: l) P s)
    (hq : t.queue = s.queue) (ht : ∀ o, o ≠ b → (t.bay o).tie = (s.bay o).tie)
    (hl : (t.bay b).lamp = (t.bay b).state.lamp) : TiedBut (b :: l) P t where
  agrees o m := (h.agrees o m).of_tie (ht o fun e => m (e ▸ List.mem_cons_self)) fun q _ => by rw [hq]
  unqueued := by rw [hq]; exact h.unqueued
  unheld := h.unheld
  lamps o m := by
    by_cases e : o = b
    · rw [e]; exact hl
    · obtain ⟨h1, -, -, -, h5⟩ := (Bay.tie_eq_iff _ _).mp (ht o e)
      rw [h5, h1, h.lamps o m]
  queueOne := by rw [hq]; exact h.queueOne

theorem TiedBut.modBay {b : BayIx} {l : List BayIx} {P : Pulses} {s : State} (h : TiedBut (b :: l) P s) (f : Bay → Bay)
    (hl : (f (s.bay b)).lamp = (f (s.bay b)).state.lamp) : TiedBut (b :: l) P (s.modBay b f) :=
  h.at_open rfl (fun o e => by rw [State.modBay_bay_ne s f b o e]) (by rw [State.modBay_bay_self]; exact hl)

/-- An open bay whose record holds no request, or waits for its retry, closes. -/
theorem TiedBut.close {b : BayIx} {l : List BayIx} {P : Pulses} {s : State} (h : TiedBut (b :: l) P s)
    (t : (s.bay b).Tied) (d : (s.bay b).driveStage = .noRequest ∨ (s.bay b).driveStage = .retryWait) : TiedBut l P s where
  agrees o m := by
    by_cases e : o = b
    · subst e
      refine ⟨t, ?_, ?_, ?_, ?_⟩
      · intro q k e
        exact absurd (e ▸ List.mem_cons_self) (h.unqueued q k)
      · intro k; simp [k] at d
      · intro c p k w e
        exact absurd (e ▸ List.mem_cons_self) (h.unheld c p k w)
      · intro k; simp [k] at d
    · exact h.agrees o (by simp [e, m])
  unqueued q m k := h.unqueued q m (List.mem_cons_of_mem _ k)
  unheld c p k w m := h.unheld c p k w (List.mem_cons_of_mem _ m)
  lamps o m := h.lamps o (List.mem_cons_of_mem _ m)
  queueOne := h.queueOne

/-- An open bay that posts the request of its state and link closes (R12, R139). -/
theorem TiedBut.close_posted {b : BayIx} {l : List BayIx} {P : Pulses} {s t : State} (h : TiedBut (b :: l) P s)
    (nl : b ∉ l) (k : DriveKind) (n : Nat) (hq : t.queue = s.queue ++ [⟨b, k, n⟩])
    (ht : ∀ o, o ≠ b → (t.bay o).tie = (s.bay o).tie) (td : (t.bay b).Tied)
    (hs : (t.bay b).driveStage = .queued) (hk : (t.bay b).requestKind = some k) : TiedBut l P t where
  agrees o m := by
    by_cases e : o = b
    · subst e
      refine ⟨td, ?_, ?_, ?_, ?_⟩
      · intro q hm e
        rw [hq, List.mem_append, List.mem_singleton] at hm
        rcases hm with hm | rfl
        · exact absurd (e ▸ List.mem_cons_self) (h.unqueued q hm)
        · exact ⟨hs, hk⟩
      · intro _
        exact ⟨_, by rw [hq]; exact List.mem_append_right _ List.mem_cons_self, rfl⟩
      · intro c p k w e
        exact absurd (e ▸ List.mem_cons_self) (h.unheld c p k w)
      · intro k; simp [hs] at k
    · refine (h.agrees o (by simp [e, m])).of_tie (ht o e) fun q eq => ?_
      have : q ≠ ⟨b, k, n⟩ := fun x => e (by rw [← eq, x])
      simp [hq, this]
  unqueued q m := by
    rw [hq, List.mem_append, List.mem_singleton] at m
    rcases m with m | rfl
    · exact fun k => h.unqueued q m (List.mem_cons_of_mem _ k)
    · exact nl
  unheld c p k w m := h.unheld c p k w (List.mem_cons_of_mem _ m)
  lamps o m := by
    have e : o ≠ b := fun e => nl (e ▸ m)
    obtain ⟨h1, -, -, -, h5⟩ := (Bay.tie_eq_iff _ _).mp (ht o e)
    rw [h5, h1, h.lamps o (List.mem_cons_of_mem _ m)]
  queueOne := by
    rw [hq, List.pairwise_append]
    refine ⟨h.queueOne, List.pairwise_singleton _ _, fun x mx y my => ?_⟩
    rw [List.mem_singleton] at my
    rw [my]
    exact fun e => h.unqueued x mx (e ▸ List.mem_cons_self)

/-- A bay that no pulse drives opens once its request has been taken from the queue. -/
theorem TiedBut.open_withdraw {b : BayIx} {P : Pulses} {s : State} (h : TiedBut [] P s)
    (d : (s.bay b).driveStage ≠ .driving) : TiedBut [b] P (withdrawRequest b s) where
  agrees o m := by
    have e : o ≠ b := fun e => m (e ▸ List.mem_cons_self)
    refine (h.agrees o List.not_mem_nil).of_tie (congrArg Bay.tie (withdrawRequest_other b o s e)) fun q eq => ?_
    have : q.bay ≠ b := eq ▸ e
    simp [withdrawRequest, this]
  unqueued q m := by
    have : q.bay ≠ b := of_decide_eq_true (List.mem_filter.mp m).2
    simpa using this
  unheld c p k w m := by
    rw [List.mem_singleton] at m
    exact d ((h.agrees b List.not_mem_nil).driving c p k w m).1
  lamps o m := by
    rw [List.mem_singleton] at m
    subst m
    rw [withdrawRequest_bay]
    exact (h.agrees o List.not_mem_nil).tied.lamp
  queueOne := h.queueOne.filter _

/-- A bay with no request in the queue and none in flight is open. -/
theorem TiedBut.open_idle {b : BayIx} {P : Pulses} {s : State} (h : TiedBut [] P s)
    (d : (s.bay b).driveStage = .noRequest ∨ (s.bay b).driveStage = .retryWait) : TiedBut [b] P s where
  agrees o _ := h.agrees o List.not_mem_nil
  unqueued q m k := by
    rw [List.mem_singleton] at k
    have := ((h.agrees b List.not_mem_nil).queued q m k).1
    simp [this] at d
  unheld c p k w m := by
    rw [List.mem_singleton] at m
    have := ((h.agrees b List.not_mem_nil).driving c p k w m).1
    simp [this] at d
  lamps o _ := (h.agrees o List.not_mem_nil).tied.lamp
  queueOne := h.queueOne

/-- A bay whose pulse has been reported or freed is open: seen from the pulses without it, nothing waits for the bay. -/
theorem TiedBut.open_driven {b : BayIx} {P Q : Pulses} {s : State} (h : TiedBut [] P s)
    (d : (s.bay b).driveStage = .driving) (un : ∀ c p, Q c = some p → p.waiting = true → p.bay ≠ b)
    (same : ∀ c p, p.bay ≠ b → (Q c = some p ↔ P c = some p)) : TiedBut [b] Q s where
  agrees o m := by
    have e : o ≠ b := fun e => m (e ▸ List.mem_cons_self)
    have a := h.agrees o List.not_mem_nil
    refine ⟨a.tied, a.queued, a.stands, ?_, ?_⟩
    · intro c p k w eo
      exact a.driving c p ((same c p (eo ▸ e)).mp k) w eo
    · intro k
      obtain ⟨c, p, hp, w, eo⟩ := a.driven k
      exact ⟨c, p, (same c p (eo ▸ e)).mpr hp, w, eo⟩
  unqueued q m k := by
    rw [List.mem_singleton] at k
    have := ((h.agrees b List.not_mem_nil).queued q m k).1
    rw [d] at this
    cases this
  unheld c p k w m := un c p k w (List.mem_singleton.mp m)
  lamps o _ := (h.agrees o List.not_mem_nil).tied.lamp
  queueOne := h.queueOne

/-! ### Entries and re-derivation close an open bay -/

/-- A resting record is tied: no request, no link, a state that holds none. -/
theorem Bay.Tied.of_rest {y : Bay} {st : BayState} (h : y.tie = (st, .unlinked, .noRequest, false, st.lamp))
    (h1 : st ≠ .latching) (h2 : st ≠ .unlatching) (h3 : st ≠ .released) : y.Tied := by
  simp only [Bay.tie, Prod.mk.injEq] at h
  obtain ⟨e1, e2, e3, e4, e5⟩ := h
  constructor <;> simp_all

/-- A bay in LATCHING with its request is tied. -/
theorem Bay.Tied.of_latching {y : Bay} {d : DriveStage} (h : y.tie = (.latching, .unlinked, d, false, .slow))
    (hd : d ≠ .noRequest) : y.Tied := by
  simp only [Bay.tie, Prod.mk.injEq] at h
  obtain ⟨e1, e2, e3, e4, e5⟩ := h
  constructor <;> simp_all [BayState.lamp]

/-- A bay in UNLATCHING under a link with its request is tied. -/
theorem Bay.Tied.of_unlatching {y : Bay} {d : DriveStage} {l : Link} (h : y.tie = (.unlatching, l, d, false, .slow))
    (hd : d ≠ .noRequest) (hl : l ≠ .unlinked) : y.Tied := by
  simp only [Bay.tie, Prod.mk.injEq] at h
  obtain ⟨e1, e2, e3, e4, e5⟩ := h
  constructor <;> simp_all [BayState.lamp]

section
variable {b : BayIx} {l : List BayIx} {P : Pulses} {s : State}

theorem TiedBut.changeState (h : TiedBut (b :: l) P s) (n : BayState) : TiedBut (b :: l) P (changeState b n s) := by
  have e := changeState_tie b n s (h.lamps b List.mem_cons_self)
  simp only [Bay.tie, Prod.mk.injEq] at e
  refine h.at_open (by simp) (fun o ne => by rw [changeState_other b o n s ne]) ?_
  rw [e.1, e.2.2.2.2]

theorem TiedBut.enterDocked (h : TiedBut (b :: l) P s) (h1 : (s.bay b).link = .unlinked)
    (h2 : (s.bay b).driveStage = .noRequest) (h3 : (s.bay b).presenceChanged = false) :
    TiedBut l P (enterDocked b s) := by
  have e := enterDocked_tie b s (h.lamps b List.mem_cons_self)
  rw [h1, h2, h3] at e
  have t : ((Machine.enterDocked b s).bay b).Tied := .of_rest e (by simp) (by simp) (by simp)
  refine (h.at_open (by simp) (fun o ne => by rw [enterDocked_other b o s ne]) t.lamp).close t (.inl ?_)
  exact ((Prod.mk.injEq ..).mp ((Prod.mk.injEq ..).mp ((Prod.mk.injEq ..).mp e).2).2).1

theorem TiedBut.enterFault (h : TiedBut (b :: l) P s) (h1 : (s.bay b).link = .unlinked)
    (h2 : (s.bay b).driveStage = .noRequest) (h3 : (s.bay b).presenceChanged = false) :
    TiedBut l P (enterFault b s) := by
  have e := enterFault_tie b s (h.lamps b List.mem_cons_self)
  rw [h1, h2, h3] at e
  have t : ((Machine.enterFault b s).bay b).Tied := .of_rest e (by simp) (by simp) (by simp)
  refine (h.at_open (by simp) (fun o ne => by rw [enterFault_other b o s ne]) t.lamp).close t (.inl ?_)
  exact ((Prod.mk.injEq ..).mp ((Prod.mk.injEq ..).mp ((Prod.mk.injEq ..).mp e).2).2).1

/-- The tie of a bay that has posted is queued. -/
theorem postRequest_tie (b : BayIx) (s : State) (k : DriveKind) (h : (s.bay b).requestKind = some k) :
    ((postRequest b s).bay b).tie =
      ((s.bay b).state, (s.bay b).link, .queued, (s.bay b).presenceChanged, (s.bay b).lamp) := by
  rw [postRequest_some b s k h]
  simp [State.bay, Bay.tie]

/-- A posting closes an open bay whose record is tied once it is queued. -/
theorem TiedBut.postRequest (h : TiedBut (b :: l) P s) (nl : b ∉ l) (k : DriveKind)
    (hk : (s.bay b).requestKind = some k)
    (td : ∀ y : Bay, y.tie = ((s.bay b).state, (s.bay b).link, .queued, (s.bay b).presenceChanged, (s.bay b).lamp) → y.Tied) :
    TiedBut l P (postRequest b s) := by
  have e := postRequest_tie b s k hk
  have e' : ((Machine.postRequest b s).bay b).driveStage = .queued ∧
      ((Machine.postRequest b s).bay b).state = (s.bay b).state ∧
      ((Machine.postRequest b s).bay b).link = (s.bay b).link := by
    simp only [Bay.tie, Prod.mk.injEq] at e
    exact ⟨e.2.2.1, e.1, e.2.1⟩
  refine h.close_posted nl k s.nextOrder ?_ (fun o ne => by rw [postRequest_other b o s ne]) (td _ e) e'.1 ?_
  · rw [postRequest_some b s k hk]
  · rw [← hk]; simp only [Bay.requestKind, e'.2.1, e'.2.2]

theorem TiedBut.enterLatching (h : TiedBut (b :: l) P s) (nl : b ∉ l) (hc : (s.bay b).presenceChanged = false) :
    TiedBut l P (enterLatching b s) := by
  have e := changeState_tie b .latching s (h.lamps b List.mem_cons_self)
  simp only [Bay.tie, Prod.mk.injEq] at e
  obtain ⟨e1, -, -, e4, e5⟩ := e
  unfold Machine.enterLatching
  refine ((h.changeState .latching).modBay _ (by rw [e1, e5])).postRequest nl .latch ?_ fun y hy => ?_
  · simp [Bay.requestKind]
  · simp only [State.modBay_bay_self, changeState_state, e4, e5, hc] at hy
    exact .of_latching hy (by simp)

theorem TiedBut.enterUnlatching (h : TiedBut (b :: l) P s) (nl : b ∉ l) (hc : (s.bay b).presenceChanged = false)
    (k : Link) (hk : k ≠ .unlinked) : TiedBut l P (enterUnlatching b k s) := by
  have e := changeState_tie b .unlatching s (h.lamps b List.mem_cons_self)
  simp only [Bay.tie, Prod.mk.injEq] at e
  obtain ⟨e1, -, -, e4, e5⟩ := e
  obtain ⟨x, hx⟩ : ∃ x, ∀ y : Bay, y.state = .unlatching → y.link = k → y.requestKind = some x := by
    cases k with
    | unlinked => exact absurd rfl hk
    | rental j => exact ⟨.unlatchRental, fun y a c => by simp [Bay.requestKind, a, c]⟩
    | staff => exact ⟨.unlatchStaff, fun y a c => by simp [Bay.requestKind, a, c]⟩
    | readiness => exact ⟨.unlatchReady, fun y a c => by simp [Bay.requestKind, a, c]⟩
  unfold Machine.enterUnlatching
  refine ((h.changeState .unlatching).modBay _ (by rw [e1, e5])).postRequest nl x ?_ fun y hy => ?_
  · exact hx _ (by simp) (by simp)
  · simp only [State.modBay_bay_self, changeState_state, e4, e5, hc] at hy
    exact .of_unlatching hy (by simp) hk

/-- What re-derivation clears of the record (R17). -/
theorem Bay.rederived_cleared (m : Nat) (y : Bay) : (y.rederived m).link = .unlinked ∧
    (y.rederived m).driveStage = .noRequest ∧ (y.rederived m).presenceChanged = false ∧
    (y.rederived m).state = y.state ∧ (y.rederived m).lamp = y.lamp := by
  unfold Bay.rederived
  simp only
  split <;> exact ⟨rfl, rfl, rfl, rfl, rfl⟩

/-- Re-derivation closes an open bay (R17). -/
theorem TiedBut.rederive (h : TiedBut (b :: l) P s) (nl : b ∉ l) : TiedBut l P (rederive b s) := by
  obtain ⟨h1, h2, h3, h4, h5⟩ := Bay.rederived_cleared s.clock.minute (s.bay b)
  have o := h.modBay (Bay.rederived s.clock.minute) (by rw [h4, h5]; exact h.lamps b List.mem_cons_self)
  have e := State.modBay_bay_self s b (Bay.rederived s.clock.minute)
  unfold Machine.rederive
  simp only
  split
  · exact o.enterDocked (by rw [e, h1]) (by rw [e, h2]) (by rw [e, h3])
  · exact o.enterLatching nl (by rw [e, h3])
  · have t := changeState_tie b .vacant _ (o.lamps b List.mem_cons_self)
    rw [e, h1, h2, h3] at t
    refine (o.changeState .vacant).close (.of_rest t (by simp) (by simp) (by simp)) (.inl ?_)
    simp only [Bay.tie, Prod.mk.injEq] at t
    exact t.2.2.1
  · exact o.enterUnlatching nl (by rw [e, h3]) .readiness (by simp)

/-- A discard at an open bay leaves it open. -/
theorem TiedBut.discardRelease (h : TiedBut (b :: l) P s) (x : LastOutcome) :
    TiedBut (b :: l) P (discardRelease b x s) := by
  obtain ⟨k, e, -⟩ := discardRelease_tie b x s
  simp only [Bay.tie, Prod.mk.injEq] at e
  refine h.at_open (by simp) (fun o ne => discardRelease_tie_other b o x s ne) ?_
  rw [e.1, e.2.2.2.2]
  exact h.lamps b List.mem_cons_self

end

/-- The flush leaves the agreement (R130, R131). -/
theorem TiedBut.flush {l : List BayIx} {P : Pulses} {s : State} (h : TiedBut l P s) : TiedBut l P (flush s) :=
  h.of_tie (by simp) (fun o => by simp)

theorem TiedBut.processReturn {l : List BayIx} {P : Pulses} {s : State} (h : TiedBut l P s) (b : BayIx) :
    TiedBut l P (processReturn b s) :=
  h.of_tie (by simp) (fun o => by simp)

end Sys2Proof.Machine
end

section
/-! Every operation that a bay event or a request makes at one bay keeps the agreement of bays, queue and pulses. -/

namespace Sys2Proof.Machine

/-! ### Completions -/

/-- A tied bay that holds a request stays tied when its request passes to another stage, none in flight. -/
theorem Bay.Tied.restage {y z : Bay} {d : DriveStage} (t : y.Tied) (h : z.tie = (y.state, y.link, d, false, y.lamp))
    (hs : y.state = .latching ∨ y.state = .unlatching) (hl : y.state = .unlatching → y.link ≠ .unlinked)
    (hd : d ≠ .noRequest) : z.Tied := by
  have lamp := t.lamp
  rcases hs with hs | hs
  · have link : y.link = .unlinked := by
      by_contra hc
      rcases t.linked hc with e | e <;> rw [hs] at e <;> cases e
    rw [lamp, hs, link] at h
    exact .of_latching h hd
  · rw [lamp, hs] at h
    exact .of_unlatching h hd (hl hs)

/-- A bay with a request and the mark clear has its link in UNLATCHING. -/
theorem Bay.Tied.link_of_unmarked {y : Bay} (t : y.Tied) (hc : y.presenceChanged = false) (hs : y.state = .unlatching) :
    y.link ≠ .unlinked := fun hl => by
  have := (t.dropped hs hl).2
  rw [hc] at this
  cases this

section
variable {b : BayIx} {P : Pulses} {s : State}

/-- A bay that fits a kind is in LATCHING or UNLATCHING. -/
theorem Bay.fits.moving {y : Bay} {k : DriveKind} (f : y.fits k) : y.state = .latching ∨ y.state = .unlatching := by
  cases k with
  | latch => exact .inl f
  | unlatchRental => exact .inr f.1
  | unlatchStaff => exact .inr f.1
  | unlatchReady => exact .inr f.1

theorem TiedBut.clearStage (h : TiedBut [b] P s) : TiedBut [b] P (clearStage b s) :=
  h.modBay _ (h.lamps b List.mem_cons_self)

@[simp] theorem clearStage_bay (b : BayIx) (s : State) :
    (clearStage b s).bay b = { s.bay b with driveStage := .noRequest } := by simp [Machine.clearStage]

/-- A JAM leaves the bay waiting for its retry or in FAULT (R16). -/
theorem TiedBut.retryOrFault (h : TiedBut [b] P s) (t : (s.bay b).Tied)
    (hs : (s.bay b).state = .latching ∨ (s.bay b).state = .unlatching) (hc : (s.bay b).presenceChanged = false)
    (cause : FaultCause) : TiedBut [] P (retryOrFault b cause s) := by
  have lamp := h.lamps b List.mem_cons_self
  unfold Machine.retryOrFault
  simp only
  split
  · refine (h.modBay _ lamp).close ?_ ?_
    · rw [State.modBay_bay_self]
      exact t.restage (d := .retryWait) (by rw [← hc]; rfl) hs (t.link_of_unmarked hc) (by simp)
    · rw [State.modBay_bay_self]; exact .inr rfl
  · have o := (h.modBay (fun y => { y with
        faultCause := some cause, driveStage := .noRequest, attempts := 0, takeWindow := none, tagWindow := none
        deadline := .stopped, retryDelay := none, pendingTag := none }) lamp)
    obtain ⟨l, e, -⟩ := discardRelease_tie b .jammed (s.modBay b (fun y => { y with
        faultCause := some cause, driveStage := .noRequest, attempts := 0, takeWindow := none, tagWindow := none
        deadline := .stopped, retryDelay := none, pendingTag := none }))
    simp only [Bay.tie, Prod.mk.injEq, State.modBay_bay_self] at e
    obtain ⟨e1, -, e3, e4, e5⟩ := e
    refine ((o.discardRelease .jammed).modBay (fun y => { y with link := .unlinked }) ?_).enterFault ?_ ?_ ?_
    · simp only [e1, e5]; exact lamp
    · simp
    · simp [e3]
    · simp [e4, hc]

theorem TiedBut.completeChanged (h : TiedBut [b] P s) : TiedBut [] P (completeChanged b s) :=
  (h.modBay _ (h.lamps b List.mem_cons_self)).rederive List.not_mem_nil

/-- A withdrawn pulse's request is posted again (R13, R14). -/
theorem TiedBut.repost (h : TiedBut [b] P s) (t : (s.bay b).Tied) (hc : (s.bay b).presenceChanged = false)
    (k : DriveKind) (hk : (s.bay b).requestKind = some k)
    (hs : (s.bay b).state = .latching ∨ (s.bay b).state = .unlatching) :
    TiedBut [] P (Machine.postRequest b (Machine.clearStage b s)) := by
  refine h.clearStage.postRequest List.not_mem_nil k ?_ fun y hy => ?_
  · rw [clearStage_bay]; exact hk
  · rw [clearStage_bay] at hy
    exact t.restage (hy.trans (by rw [← hc])) hs (t.link_of_unmarked hc) (by simp)

theorem TiedBut.completeLatch (h : TiedBut [b] P s) (t : (s.bay b).Tied) (f : (s.bay b).fits .latch) (r : PulseResult) :
    TiedBut [] P (completeLatch b r s) := by
  have hs : (s.bay b).state = .latching := f
  have link : (s.bay b).link = .unlinked := by
    by_contra hc
    rcases t.linked hc with e | e <;> rw [hs] at e <;> cases e
  unfold Machine.completeLatch
  split
  · exact h.completeChanged
  · rename_i hc
    have hc : (s.bay b).presenceChanged = false := by simpa using hc
    cases r with
    | done =>
      simp only
      split
      · exact h.clearStage.enterDocked (by simp [link]) (by simp) (by simp [hc])
      · exact h.retryOrFault t f.moving hc _
    | jam => exact h.retryOrFault t f.moving hc _
    | abort => exact h.repost t hc .latch (by simp [Bay.requestKind, hs]) f.moving

theorem TiedBut.completeReady (h : TiedBut [b] P s) (t : (s.bay b).Tied) (f : (s.bay b).fits .unlatchReady)
    (r : PulseResult) : TiedBut [] P (completeReady b r s) := by
  obtain ⟨hs, hl⟩ := f
  unfold Machine.completeReady
  split
  · exact h.completeChanged
  · rename_i hc
    have hc : (s.bay b).presenceChanged = false := by simpa using hc
    cases r with
    | done => exact (h.clearStage.modBay _ (h.clearStage.lamps b List.mem_cons_self)).rederive List.not_mem_nil
    | jam => exact h.retryOrFault t (.inr hs) hc _
    | abort => exact h.repost t hc .unlatchReady (by simp [Bay.requestKind, hs, hl]) (.inr hs)

theorem releaseRental_bay (b o : BayIx) (s : State) : (releaseRental b s).bay o = s.bay o := by
  unfold releaseRental
  split
  · split <;> rfl
  all_goals rfl

@[simp] theorem releaseRental_queue (b : BayIx) (s : State) : (releaseRental b s).queue = s.queue := by
  unfold releaseRental
  split
  · split <;> rfl
  all_goals rfl

/-- Entry to RELEASED of a bay under a rental link or the staff mark (R15). -/
theorem TiedBut.enterReleased (h : TiedBut [b] P s) (hc : (s.bay b).presenceChanged = false)
    (hl : (s.bay b).link = .staff ∨ ∃ k, (s.bay b).link = .rental k) : TiedBut [] P (enterReleased b s) := by
  have o : TiedBut [b] P (releaseRental b (Machine.clearStage b s)) :=
    h.clearStage.of_tie (by simp) fun o => congrArg Bay.tie (releaseRental_bay b o _)
  have e := changeState_tie b .released _ (o.lamps b List.mem_cons_self)
  rw [releaseRental_bay, clearStage_bay] at e
  simp only [Bay.tie, Prod.mk.injEq] at e
  obtain ⟨e1, e2, e3, e4, e5⟩ := e
  refine ((o.changeState .released).modBay _ (by rw [e1, e5])).close ?_ (.inl ?_)
  · rw [State.modBay_bay_self]
    constructor <;> simp_all
  · rw [State.modBay_bay_self]; exact e3

theorem TiedBut.completeRelease (h : TiedBut [b] P s) (t : (s.bay b).Tied) (hs : (s.bay b).state = .unlatching)
    (hl : (s.bay b).link ≠ .readiness) (r : PulseResult) : TiedBut [] P (completeRelease b r s) := by
  unfold Machine.completeRelease
  split
  · exact h.completeChanged
  · rename_i hc
    have hc : (s.bay b).presenceChanged = false := by simpa using hc
    cases r with
    | done =>
      refine h.enterReleased hc ?_
      have := t.link_of_unmarked hc hs
      cases e : (s.bay b).link <;> simp_all
    | jam =>
      simp only
      split
      · exact (h.clearStage.discardRelease _).rederive List.not_mem_nil
      · exact h.retryOrFault t (.inr hs) hc _
    | abort => exact (h.clearStage.discardRelease _).rederive List.not_mem_nil

/-- A completion that a driving bay takes closes it (R13 to R16). -/
theorem TiedBut.complete (h : TiedBut [b] P s) (t : (s.bay b).Tied) (d : (s.bay b).driveStage = .driving)
    (k : DriveKind) (f : (s.bay b).fits k) (r : PulseResult) : TiedBut [] P (complete b k r s) := by
  unfold Machine.complete
  rw [if_pos d]
  have notReady : ∀ {p : Prop}, p ∨ (s.bay b).link = .unlinked → (p → (s.bay b).link ≠ .readiness) →
      (s.bay b).link ≠ .readiness := by
    rintro p (h | h) k
    · exact k h
    · rw [h]; simp
  cases k with
  | latch => exact h.completeLatch t f r
  | unlatchReady => exact h.completeReady t f r
  | unlatchRental => exact h.completeRelease t f.1 (notReady f.2 fun ⟨j, e⟩ => by rw [e]; simp) r
  | unlatchStaff => exact h.completeRelease t f.1 (notReady f.2 fun e => by rw [e]; simp) r

/-! ### Sense events -/

/-- A change of a record that leaves its tie leaves the agreement. -/
theorem TiedBut.modBay_tie (h : TiedBut [] P s) (f : Bay → Bay) (e : (f (s.bay b)).tie = (s.bay b).tie) :
    TiedBut [] P (s.modBay b f) := h.of_tie rfl fun o => Machine.modBay_tie b o f s e

/-- A state without request is no LATCHING and no UNLATCHING. -/
theorem Bay.Tied.noRequest {y : Bay} (t : y.Tied) (h1 : y.state ≠ .latching) (h2 : y.state ≠ .unlatching) :
    y.driveStage = .noRequest := by
  by_contra hc
  rcases t.request.mp hc with h | h
  · exact h1 h
  · exact h2 h

/-- A bay that is not driving has its mark clear. -/
theorem Bay.Tied.unmarked {y : Bay} (t : y.Tied) (h : y.driveStage ≠ .driving) : y.presenceChanged = false := by
  cases e : y.presenceChanged with
  | false => rfl
  | true => exact absurd (t.changed e) h

theorem Bay.Tied.unlinked {y : Bay} (t : y.Tied) (h1 : y.state ≠ .unlatching) (h2 : y.state ≠ .released) :
    y.link = .unlinked := by
  by_contra hc
  rcases t.linked hc with h | h
  · exact h1 h
  · exact h2 h

theorem TiedBut.tied (h : TiedBut [] P s) (b : BayIx) : (s.bay b).Tied := (h.agrees b List.not_mem_nil).tied

/-- A bay whose state holds no request is open. -/
theorem TiedBut.open_rest (h : TiedBut [] P s) (h1 : (s.bay b).state ≠ .latching) (h2 : (s.bay b).state ≠ .unlatching) :
    TiedBut [b] P s := h.open_idle (.inl ((h.tied b).noRequest h1 h2))

theorem TiedBut.raiseAlarm (h : TiedBut [] P s) (a : Alarm) : TiedBut [] P (raiseAlarm b a s) :=
  h.of_tie rfl fun o => raiseAlarm_tie b o a s

/-- A driving bay whose link is dropped or stands, and whose mark is set, agrees with its pulse (R6, R8). -/
theorem TiedBut.mark (h : TiedBut [] P s) (t : State) (d : (s.bay b).driveStage = .driving) (hq : t.queue = s.queue)
    (others : ∀ o, o ≠ b → t.bay o = s.bay o) (l : Link)
    (ht : (t.bay b).tie = ((s.bay b).state, l, .driving, true, (s.bay b).lamp))
    (hl : l = (s.bay b).link ∨ l = .unlinked ∧ (s.bay b).link ≠ .readiness) : TiedBut [] P t := by
  have a := h.agrees b List.not_mem_nil
  have moving := a.tied.request.mp (by rw [d]; simp)
  simp only [Bay.tie, Prod.mk.injEq] at ht
  obtain ⟨e1, e2, e3, e4, e5⟩ := ht
  refine ⟨fun o _ => ?_, fun _ _ => List.not_mem_nil, fun _ _ _ _ => List.not_mem_nil,
    fun o m => absurd m List.not_mem_nil, by rw [hq]; exact h.queueOne⟩
  by_cases e : o = b
  · subst e
    refine ⟨⟨?_, ?_, ?_, ?_, ?_, ?_⟩, ?_, ?_, ?_, ?_⟩
    · rw [e3, e1]; simp [moving]
    · intro k
      rw [e1]
      rcases hl with hl | ⟨hl, -⟩
      · exact a.tied.linked (by rw [← hl, ← e2]; exact k)
      · exact absurd (e2.trans hl) k
    · exact fun _ _ => ⟨e3, e4⟩
    · intro k
      rw [← e1, k] at moving
      simp at moving
    · exact fun _ => e3
    · rw [e5, e1]; exact a.tied.lamp
    · intro q m e
      have := (a.queued q (hq ▸ m) e).1
      rw [d] at this
      cases this
    · intro k; rw [e3] at k; cases k
    · intro c p k w eo
      refine ⟨e3, ?_⟩
      have f := (a.driving c p k w eo).2
      cases hk : p.kind <;> simp only [hk, Bay.fits, e1, e2] at f ⊢
      · exact f
      · rcases hl with hl | ⟨hl, -⟩
        · rw [hl]; exact f
        · exact ⟨f.1, .inr hl⟩
      · rcases hl with hl | ⟨hl, -⟩
        · rw [hl]; exact f
        · exact ⟨f.1, .inr hl⟩
      · rcases hl with hl | ⟨-, hl⟩
        · rw [hl]; exact f
        · exact absurd f.2 hl
    · exact fun _ => a.driven d
  · rw [others o e, hq]
    exact h.agrees o List.not_mem_nil

/-- A presence change at a bay with a request: of the link it leaves what stands or drops a release (R6, R8). -/
theorem TiedBut.presenceMoved (h : TiedBut [] P s) (u : State) (hq : u.queue = s.queue)
    (others : ∀ o, o ≠ b → u.bay o = s.bay o) (l : Link)
    (hu : (u.bay b).tie = ((s.bay b).state, l, (s.bay b).driveStage, (s.bay b).presenceChanged, (s.bay b).lamp))
    (hl : l = (s.bay b).link ∨ l = .unlinked ∧ (s.bay b).link ≠ .readiness) :
    TiedBut [] P (presenceMoved b u) := by
  simp only [Bay.tie, Prod.mk.injEq] at hu
  obtain ⟨e1, e2, e3, e4, e5⟩ := hu
  unfold Machine.presenceMoved
  split
  · rename_i d
    have d : (s.bay b).driveStage = .driving := e3 ▸ of_decide_eq_true d
    refine h.mark _ d hq (fun o e => ?_) l ?_ hl
    · rw [markChanged, State.modBay_bay_ne _ _ b o e, others o e]
    · rw [markChanged, State.modBay_bay_self]
      simp [Bay.tie, e1, e2, e3, e5, d]
  · rename_i d
    have d : (s.bay b).driveStage ≠ .driving := fun k => d (decide_eq_true (e3.trans k))
    have w := h.open_withdraw d
    refine (w.at_open ?_ (fun o e => ?_) ?_ : TiedBut [b] P _).rederive List.not_mem_nil
    · simp [withdrawRequest, hq]
    · rw [withdrawRequest_other b o _ e, withdrawRequest_other b o _ e, State.modBay_bay_ne _ _ b o e, others o e]
    · rw [withdrawRequest_bay, State.modBay_bay_self]
      show (u.bay b).lamp = (u.bay b).state.lamp
      rw [e1, e5]
      exact (h.tied b).lamp

theorem TiedBut.vacantRise (h : TiedBut [] P s) (hs : (s.bay b).state = .vacant) : TiedBut [] P (vacantRise b s) := by
  have t := h.tied b
  have d := t.noRequest (by simp [hs]) (by simp [hs])
  have c := t.unmarked (by simp [d])
  have l := t.unlinked (by simp [hs]) (by simp [hs])
  have tie : ∀ o, (((recordArrival b s).modBay b fun y =>
      match y.pendingTag with
      | some p => { y with identity := some p.identity, pendingTag := none }
      | none => y).bay o).tie = (s.bay o).tie := by
    intro o
    rw [Machine.modBay_tie, recordArrival, Machine.modBay_tie]
    · rfl
    · split <;> rfl
  have o := (h.of_tie (t := (recordArrival b s).modBay b _) rfl tie).open_idle (b := b)
    (.inl (by rw [((Bay.tie_eq_iff _ _).mp (tie b)).2.2.1, d]))
  obtain ⟨-, e2, e3, e4, -⟩ := (Bay.tie_eq_iff _ _).mp (tie b)
  unfold Machine.vacantRise
  simp only
  split
  · exact o.enterLatching List.not_mem_nil (e4.trans c)
  · exact o.enterDocked (e2.trans l) (e3.trans d) (e4.trans c)

theorem TiedBut.dockedFall (h : TiedBut [] P s) (hs : (s.bay b).state = .docked) : TiedBut [] P (dockedFall b s) := by
  have o : TiedBut [b] P (if (s.bay b).identity.isSome then Machine.raiseAlarm b .unrentedRemoval s else s) := by
    split
    · exact (h.raiseAlarm _).open_idle (.inl (by
        rw [raiseAlarm_bay]
        exact (h.tied b).noRequest (by simp [hs]) (by simp [hs])))
    · exact h.open_rest (by simp [hs]) (by simp [hs])
  have o := o.modBay Bay.clearBike (o.lamps b List.mem_cons_self)
  exact (o.modBay _ (o.lamps b List.mem_cons_self)).rederive List.not_mem_nil

theorem TiedBut.faultFall (h : TiedBut [] P s) : TiedBut [] P (faultFall b s) := by
  unfold Machine.faultFall
  simp only
  have k : ∀ t, TiedBut [] P t → TiedBut [] P ((forgetBike b t).modBay b fun y => { y with tagWindow := none }) :=
    fun t h => (h.modBay_tie (b := b) Bay.clearBike rfl).modBay_tie _ rfl
  split
  · exact k _ (h.raiseAlarm _)
  · exact k _ h

/-- A removal leaves of a bay's tie all but the link. -/
theorem removeBike_tie (b : BayIx) (s : State) : ((removeBike b s).bay b).tie =
    ((s.bay b).state, .unlinked, (s.bay b).driveStage, (s.bay b).presenceChanged, (s.bay b).lamp) := by
  rw [removeBike_bay]; rfl

theorem TiedBut.handlePresence (h : TiedBut [] P s) : TiedBut [] P (handlePresence b s) := by
  unfold Machine.handlePresence
  simp only
  split
  case h_1 hs _ => exact h.vacantRise hs
  case h_3 =>
    exact h.presenceMoved _ rfl (fun o e => State.modBay_bay_ne s _ b o e) (s.bay b).link
      (by rw [forgetBike, State.modBay_bay_self]; rfl) (.inl rfl)
  case h_4 =>
    split
    · exact h.modBay_tie _ rfl
    · exact h
  case h_5 hs _ => exact h.dockedFall hs
  case h_7 =>
    unfold unlatchingFall
    split
    case h_1 hl =>
      exact h.presenceMoved _ (by simp) (fun o e => removeBike_other b o s e) .unlinked (removeBike_tie b s)
        (.inr ⟨rfl, by rw [hl]; simp⟩)
    case h_2 hl =>
      exact h.presenceMoved _ (by simp) (fun o e => removeBike_other b o s e) .unlinked (removeBike_tie b s)
        (.inr ⟨rfl, by rw [hl]; simp⟩)
    all_goals exact h.modBay_tie _ rfl
  case h_8 =>
    unfold unlatchingRise
    split
    case h_1 =>
      exact h.presenceMoved _ rfl (fun o e => State.modBay_bay_ne s _ b o e) (s.bay b).link
        (by rw [recordArrival, State.modBay_bay_self]; rfl) (.inl rfl)
    case h_2 => exact h.modBay_tie _ rfl
    all_goals exact h
  case h_9 hs _ =>
    have o := h.open_rest (b := b) (by simp [hs]) (by simp [hs])
    refine (o.at_open (by simp) (fun o e => by rw [removeBike_other b o s e]) ?_ : TiedBut [b] P _).rederive List.not_mem_nil
    rw [removeBike_bay]
    exact (h.tied b).lamp
  case h_11 => exact h.faultFall
  all_goals exact h

theorem TiedBut.latchSlip (h : TiedBut [] P s) (hs : (s.bay b).state = .docked) : TiedBut [] P (latchSlip b s) := by
  have t := h.tied b
  have d := t.noRequest (by simp [hs]) (by simp [hs])
  have c := t.unmarked (by simp [d])
  have e := raiseAlarm_bay b .latchSlip s
  have o := (h.raiseAlarm .latchSlip).open_idle (b := b) (.inl (by rw [e]; exact d))
  refine (o.modBay _ (o.lamps b List.mem_cons_self)).enterLatching List.not_mem_nil ?_
  rw [State.modBay_bay_self, e]
  exact c

theorem TiedBut.closedUndriven (h : TiedBut [] P s) (hs : (s.bay b).state = .latching)
    (d : (s.bay b).driveStage ≠ .driving) : TiedBut [] P (closedUndriven b s) := by
  have t := h.tied b
  have w := h.open_withdraw d
  have e := withdrawRequest_bay b s
  refine (w.modBay _ (w.lamps b List.mem_cons_self)).enterDocked ?_ ?_ ?_
  · rw [State.modBay_bay_self, e]; exact t.unlinked (by simp [hs]) (by simp [hs])
  · rw [State.modBay_bay_self, e]
  · rw [State.modBay_bay_self, e]; exact t.unmarked d

/-- A release that ends in RELEASED with the latch shut docks the bike (R9). -/
theorem TiedBut.reclosed (h : TiedBut [] P s) (hs : (s.bay b).state = .released) (x : LastOutcome) :
    TiedBut [] P (Machine.enterDocked b (Machine.discardRelease b x s)) := by
  have t := h.tied b
  have d := t.noRequest (by simp [hs]) (by simp [hs])
  obtain ⟨l, e, hl⟩ := discardRelease_tie b x s
  simp only [Bay.tie, Prod.mk.injEq] at e
  obtain ⟨-, e2, e3, e4, -⟩ := e
  refine ((h.open_rest (b := b) (by simp [hs]) (by simp [hs])).discardRelease x).enterDocked ?_ (e3.trans d)
    (e4.trans (t.unmarked (by simp [d])))
  rw [e2]
  refine hl fun k => ?_
  rcases t.released hs with r | ⟨j, r⟩ <;> rw [k] at r <;> cases r

theorem TiedBut.handleLatch (h : TiedBut [] P s) : TiedBut [] P (handleLatch b s) := by
  unfold Machine.handleLatch
  simp only
  split
  case h_1 hs _ _ =>
    have d := (h.tied b).noRequest (by simp [hs]) (by simp [hs])
    exact (h.open_rest (by simp [hs]) (by simp [hs])).enterUnlatching List.not_mem_nil
      ((h.tied b).unmarked (by simp [d])) .readiness (by simp)
  case h_2 hs _ =>
    split
    · rename_i d
      exact h.closedUndriven hs (by rcases d with d | d <;> simp [d])
    · exact h
  case h_3 hs _ _ => exact h.latchSlip hs
  case h_4 hs _ _ => exact h.reclosed hs _
  case h_5 => exact h

/-! ### Timers -/

theorem TiedBut.takeExpired (h : TiedBut [] P s) (hs : (s.bay b).state = .released) : TiedBut [] P (takeExpired b s) := by
  have t := h.tied b
  have d := t.noRequest (by simp [hs]) (by simp [hs])
  obtain ⟨l, e, -⟩ := discardRelease_tie b .takeExpired s
  simp only [Bay.tie, Prod.mk.injEq] at e
  exact ((h.open_rest (b := b) (by simp [hs]) (by simp [hs])).discardRelease .takeExpired).enterLatching List.not_mem_nil
    (e.2.2.2.1.trans (t.unmarked (by simp [d])))

theorem TiedBut.deadlineExpired (h : TiedBut [] P s) : TiedBut [] P (deadlineExpired b s) := by
  unfold Machine.deadlineExpired
  split
  · exact h.modBay_tie _ rfl
  · rename_i d
    have w := h.open_withdraw d
    exact ((w.modBay _ (w.lamps b List.mem_cons_self)).discardRelease _).rederive List.not_mem_nil

theorem TiedBut.retryExpired (h : TiedBut [] P s) (d : (s.bay b).driveStage = .retryWait) :
    TiedBut [] P (retryExpired b s) := by
  have t := h.tied b
  have moving := t.request.mp (by simp [d])
  have c := t.unmarked (by simp [d])
  have o := h.open_idle (b := b) (.inr d)
  obtain ⟨k, hk⟩ : ∃ k, (s.bay b).requestKind = some k := by
    rcases moving with m | m
    · exact ⟨.latch, by simp [Bay.requestKind, m]⟩
    · have := t.link_of_unmarked c m
      cases e : (s.bay b).link <;> simp_all [Bay.requestKind]
  refine (o.modBay _ t.lamp).postRequest List.not_mem_nil k ?_ fun y hy => ?_
  · rw [State.modBay_bay_self]; exact hk
  · rw [State.modBay_bay_self] at hy
    exact t.restage (hy.trans (by rw [← c])) moving (t.link_of_unmarked c) (by simp)

/-! ### Requests at a bay -/

/-- A release taken at a DOCKED bay (R29, R76). -/
theorem TiedBut.takeRelease (h : TiedBut [] P s) (hs : (s.bay b).state = .docked) (l : Link) (hl : l ≠ .unlinked) :
    TiedBut [] P (takeRelease b l s) := by
  have t := h.tied b
  have d := t.noRequest (by simp [hs]) (by simp [hs])
  have o := h.open_rest (b := b) (by simp [hs]) (by simp [hs])
  refine (o.modBay _ t.lamp).enterUnlatching List.not_mem_nil ?_ l hl
  rw [State.modBay_bay_self]
  exact t.unmarked (by simp [d])

theorem TiedBut.serviceOn (h : TiedBut [] P s) : TiedBut [] P (serviceOn b s).1 := by
  unfold Machine.serviceOn
  split
  · rename_i hs
    have t := h.tied b
    have h1 : (s.bay b).state ≠ .latching := fun e => by rw [e] at hs; cases hs
    have h2 : (s.bay b).state ≠ .unlatching := fun e => by rw [e] at hs; cases hs
    have h3 : (s.bay b).state ≠ .released := fun e => by rw [e] at hs; cases hs
    have d := t.noRequest h1 h2
    have o := (h.open_rest h1 h2).modBay Bay.quiet (h.tied b).lamp
    have e := changeState_tie b .service _ (o.lamps b List.mem_cons_self)
    rw [State.modBay_bay_self] at e
    simp only [Bay.quiet, t.unlinked h2 h3, d, t.unmarked (by simp [d] : (s.bay b).driveStage ≠ .driving)] at e
    refine (o.changeState .service).close (.of_rest e (by simp) (by simp) (by simp)) (.inl ?_)
    simp only [Bay.tie, Prod.mk.injEq] at e
    exact e.2.2.1
  · exact h

theorem TiedBut.serviceOff (h : TiedBut [] P s) : TiedBut [] P (serviceOff b s).1 := by
  unfold Machine.serviceOff
  split
  · rename_i hs
    exact (h.open_rest (by simp [hs]) (by simp [hs])).rederive List.not_mem_nil
  · exact h

theorem TiedBut.clearBay (h : TiedBut [] P s) : TiedBut [] P (clearBay b s).1 := by
  have k : TiedBut [] P (s.modBay b fun y => { y with alarms := noAlarms }) := h.modBay_tie _ rfl
  unfold Machine.clearBay
  simp only
  split
  · rename_i hs
    have o := k.open_idle (b := b) (.inl (by
      rw [State.modBay_bay_self]; exact (h.tied b).noRequest (by simp [hs]) (by simp [hs])))
    exact (o.modBay _ (o.lamps b List.mem_cons_self)).rederive List.not_mem_nil
  · exact k

theorem TiedBut.staffUnlatch (h : TiedBut [] P s) : TiedBut [] P (staffUnlatch b s).1 := by
  unfold Machine.staffUnlatch
  split
  · exact h
  · rename_i hs
    split
    · exact h
    · exact h.takeRelease (by simpa using hs) .staff (by simp)

theorem TiedBut.tagBay (h : TiedBut [] P s) (i : Identity) : TiedBut [] P (tagBay b i s).1 := by
  unfold Machine.tagBay
  split
  · exact h.raiseAlarm _
  · split
    · exact h
    · split
      · exact h.modBay_tie (b := b) (fun y => { y with pendingTag := some ⟨i, s.ms + 5000⟩ }) rfl
      · split
        · refine TiedBut.processReturn ?_ b
          have k := h.modBay_tie (b := b) (fun y => { y with identity := some i, tagWindow := none }) rfl
          unfold clearUnidentified
          split
          · exact (k.modBay_tie (b := b) (fun y => { y with alarms := { y.alarms with unidentified := false } }) rfl).of_tie
              rfl fun o => rfl
          · exact k
        · split
          · rename_i known _ _
            exact h.modBay_tie (b := b) (fun y => { y with identity := some { known with battery := i.battery } }) rfl
          · exact h.raiseAlarm _

end

end Sys2Proof.Machine
end

section
/-! Work at the bays leaves the channels and the select chain, and keeps the queue in posting order. -/

namespace Sys2Proof.Machine

/-- The queue stands in posting order below the next order (R139). -/
structure QueueKept (s : State) : Prop where
  ordered : s.queue.Pairwise fun x y => x.order < y.order
  below   : ∀ q ∈ s.queue, q.order < s.nextOrder

/-- Work at the bays that keeps the queue in order. -/
structure BayWork (s t : State) : Prop where
  atBays : AtBays s t
  queue  : QueueKept s → QueueKept t

namespace BayWork

theorem refl (s : State) : BayWork s s := ⟨.refl s, id⟩

theorem trans {s t u : State} (h : BayWork s t) (k : BayWork t u) : BayWork s u :=
  ⟨h.atBays.trans k.atBays, fun q => k.queue (h.queue q)⟩

/-- Work that posts and withdraws nothing. -/
theorem still {s t : State} (h : AtBays s t) (hq : t.queue = s.queue) (hn : t.nextOrder = s.nextOrder) : BayWork s t :=
  ⟨h, fun k => ⟨by rw [hq]; exact k.ordered, by rw [hq, hn]; exact k.below⟩⟩

theorem modBay (s : State) (b : BayIx) (f : Bay → Bay) : BayWork s (s.modBay b f) := still (.modBay s b f) rfl rfl
theorem postBay (s : State) (b : BayIx) (c : BayCause) : BayWork s (s.postBay b c) := still (.postBay s b c) rfl rfl
theorem raiseAlarm (b : BayIx) (a : Alarm) (s : State) : BayWork s (raiseAlarm b a s) :=
  still ((AtBays.modBay s b _).trans (.postBay _ b .alarm)) rfl rfl
theorem changeState (b : BayIx) (n : BayState) (s : State) : BayWork s (changeState b n s) :=
  still (.changeState b n s) (by simp) (by simp)
theorem processReturn (b : BayIx) (s : State) : BayWork s (processReturn b s) := still (.processReturn b s) (by simp) (by simp)
theorem flush (s : State) : BayWork s (flush s) := still (.flush s) (by simp) (by simp)
theorem enterDocked (b : BayIx) (s : State) : BayWork s (enterDocked b s) := still (.enterDocked b s) (by simp) (by simp)
theorem enterFault (b : BayIx) (s : State) : BayWork s (enterFault b s) := still (.enterFault b s) (by simp) (by simp)
theorem discardRelease (b : BayIx) (o : LastOutcome) (s : State) : BayWork s (discardRelease b o s) :=
  still (.discardRelease b o s) (by simp) (by simp)
theorem removeBike (b : BayIx) (s : State) : BayWork s (removeBike b s) := still (.removeBike b s) (by simp) (by simp)

/-- A posting takes the next order at the back of the queue (R139). -/
theorem postRequest (b : BayIx) (s : State) : BayWork s (postRequest b s) := by
  refine ⟨.postRequest b s, fun h => ?_⟩
  cases hk : (s.bay b).requestKind with
  | none => rw [show Machine.postRequest b s = s by unfold Machine.postRequest; rw [hk]]; exact h
  | some k =>
    rw [postRequest_some b s k hk]
    refine ⟨?_, ?_⟩
    · rw [List.pairwise_append]
      refine ⟨h.ordered, List.pairwise_singleton _ _, fun x mx y my => ?_⟩
      rw [List.mem_singleton] at my
      rw [my]
      exact h.below x mx
    · intro q m
      rw [List.mem_append, List.mem_singleton] at m
      rcases m with m | rfl
      · exact Nat.lt_succ_of_lt (h.below q m)
      · exact Nat.lt_succ_self _

theorem withdrawRequest (b : BayIx) (s : State) : BayWork s (withdrawRequest b s) :=
  ⟨.withdrawRequest b s, fun h => ⟨h.ordered.filter _, fun q m => h.below q (List.mem_of_mem_filter m)⟩⟩

theorem enterLatching (b : BayIx) (s : State) : BayWork s (enterLatching b s) :=
  (changeState b .latching s).trans ((modBay _ b _).trans (postRequest b _))

theorem enterUnlatching (b : BayIx) (l : Link) (s : State) : BayWork s (enterUnlatching b l s) :=
  (changeState b .unlatching s).trans ((modBay _ b _).trans (postRequest b _))

theorem rederive (b : BayIx) (s : State) : BayWork s (rederive b s) := by
  unfold Machine.rederive
  simp only
  split
  · exact (modBay s b _).trans (enterDocked b _)
  · exact (modBay s b _).trans (enterLatching b _)
  · exact (modBay s b _).trans (changeState b _ _)
  · exact (modBay s b _).trans (enterUnlatching b _ _)

/-! ### Completions -/

theorem clearStage (b : BayIx) (s : State) : BayWork s (clearStage b s) := modBay s b _

theorem retryOrFault (b : BayIx) (c : FaultCause) (s : State) : BayWork s (retryOrFault b c s) := by
  unfold Machine.retryOrFault
  simp only
  split
  · exact modBay s b _
  · exact (modBay s b _).trans ((discardRelease b _ _).trans ((modBay _ b _).trans (enterFault b _)))

theorem completeChanged (b : BayIx) (s : State) : BayWork s (completeChanged b s) := (modBay s b _).trans (rederive b _)

theorem completeLatch (b : BayIx) (r : PulseResult) (s : State) : BayWork s (completeLatch b r s) := by
  unfold Machine.completeLatch
  split
  · exact completeChanged b s
  · cases r with
    | done =>
      simp only
      split
      · exact (clearStage b s).trans (enterDocked b _)
      · exact retryOrFault b _ s
    | jam => exact retryOrFault b _ s
    | abort => exact (clearStage b s).trans (postRequest b _)

theorem completeReady (b : BayIx) (r : PulseResult) (s : State) : BayWork s (completeReady b r s) := by
  unfold Machine.completeReady
  split
  · exact completeChanged b s
  · cases r with
    | done => exact (clearStage b s).trans ((modBay _ b _).trans (rederive b _))
    | jam => exact retryOrFault b _ s
    | abort => exact (clearStage b s).trans (postRequest b _)

theorem releaseRental (b : BayIx) (s : State) : BayWork s (releaseRental b s) := by
  unfold Machine.releaseRental
  split
  · split
    · exact still rfl rfl rfl
    · exact refl s
  all_goals exact refl s

theorem enterReleased (b : BayIx) (s : State) : BayWork s (enterReleased b s) :=
  (clearStage b s).trans ((releaseRental b _).trans ((changeState b _ _).trans (modBay _ b _)))

theorem completeRelease (b : BayIx) (r : PulseResult) (s : State) : BayWork s (completeRelease b r s) := by
  unfold Machine.completeRelease
  split
  · exact completeChanged b s
  · cases r with
    | done => exact enterReleased b s
    | jam =>
      simp only
      split
      · exact (clearStage b s).trans ((discardRelease b _ _).trans (rederive b _))
      · exact retryOrFault b _ s
    | abort => exact (clearStage b s).trans ((discardRelease b _ _).trans (rederive b _))

theorem complete (b : BayIx) (k : DriveKind) (r : PulseResult) (s : State) : BayWork s (complete b k r s) := by
  unfold Machine.complete
  split
  · cases k with
    | latch => exact completeLatch b r s
    | unlatchReady => exact completeReady b r s
    | unlatchRental => exact completeRelease b r s
    | unlatchStaff => exact completeRelease b r s
  · exact refl s

/-! ### Sense events -/

theorem presenceMoved (b : BayIx) (s : State) : BayWork s (presenceMoved b s) := by
  unfold Machine.presenceMoved
  split
  · exact modBay s b _
  · exact (modBay s b _).trans ((withdrawRequest b _).trans (rederive b _))

theorem vacantRise (b : BayIx) (s : State) : BayWork s (vacantRise b s) := by
  unfold Machine.vacantRise
  simp only
  split
  · exact (modBay s b _).trans ((modBay _ b _).trans (enterLatching b _))
  · exact (modBay s b _).trans ((modBay _ b _).trans (enterDocked b _))

theorem dockedFall (b : BayIx) (s : State) : BayWork s (dockedFall b s) := by
  unfold Machine.dockedFall
  simp only
  have k : ∀ t, BayWork t (Machine.rederive b ((forgetBike b t).modBay b fun y => { y with tagWindow := none })) :=
    fun t => (modBay t b _).trans ((modBay _ b _).trans (rederive b _))
  split
  · exact (raiseAlarm b _ s).trans (k _)
  · exact k s

theorem faultFall (b : BayIx) (s : State) : BayWork s (faultFall b s) := by
  unfold Machine.faultFall
  simp only
  have k : ∀ t, BayWork t ((forgetBike b t).modBay b fun y => { y with tagWindow := none }) :=
    fun t => (modBay t b _).trans (modBay _ b _)
  split
  · exact (raiseAlarm b _ s).trans (k _)
  · exact k s

theorem handlePresence (b : BayIx) (s : State) : BayWork s (handlePresence b s) := by
  unfold Machine.handlePresence
  simp only
  split
  case h_1 => exact vacantRise b s
  case h_3 => exact (modBay s b _).trans (presenceMoved b _)
  case h_4 =>
    split
    · exact modBay s b _
    · exact refl s
  case h_5 => exact dockedFall b s
  case h_7 =>
    unfold unlatchingFall
    split
    case h_1 => exact (removeBike b s).trans (presenceMoved b _)
    case h_2 => exact (removeBike b s).trans (presenceMoved b _)
    all_goals exact modBay s b _
  case h_8 =>
    unfold unlatchingRise
    split
    case h_1 => exact (modBay s b _).trans (presenceMoved b _)
    case h_2 => exact modBay s b _
    all_goals exact refl s
  case h_9 => exact (removeBike b s).trans (rederive b _)
  case h_11 => exact faultFall b s
  all_goals exact refl s

theorem handleLatch (b : BayIx) (s : State) : BayWork s (handleLatch b s) := by
  unfold Machine.handleLatch
  simp only
  split
  case h_1 => exact enterUnlatching b _ s
  case h_2 =>
    split
    · exact (withdrawRequest b s).trans ((modBay _ b _).trans (enterDocked b _))
    · exact refl s
  case h_3 => exact (raiseAlarm b _ s).trans ((modBay _ b _).trans (enterLatching b _))
  case h_4 => exact (discardRelease b _ s).trans (enterDocked b _)
  case h_5 => exact refl s

/-! ### Timers and requests -/

theorem takeExpired (b : BayIx) (s : State) : BayWork s (takeExpired b s) :=
  (discardRelease b _ s).trans (enterLatching b _)

theorem deadlineExpired (b : BayIx) (s : State) : BayWork s (deadlineExpired b s) := by
  unfold Machine.deadlineExpired
  split
  · exact modBay s b _
  · exact (withdrawRequest b s).trans ((modBay _ b _).trans ((discardRelease b _ _).trans (rederive b _)))

theorem retryExpired (b : BayIx) (s : State) : BayWork s (retryExpired b s) := (modBay s b _).trans (postRequest b _)

theorem tagExpired (b : BayIx) (s : State) : BayWork s (tagExpired b s) := (modBay s b _).trans (raiseAlarm b _ _)

theorem takeRelease (b : BayIx) (l : Link) (s : State) : BayWork s (takeRelease b l s) :=
  (modBay s b _).trans (enterUnlatching b l _)

theorem serviceOn (b : BayIx) (s : State) : BayWork s (serviceOn b s).1 := by
  unfold Machine.serviceOn
  split
  · exact (modBay s b _).trans (changeState b _ _)
  · exact refl s

theorem serviceOff (b : BayIx) (s : State) : BayWork s (serviceOff b s).1 := by
  unfold Machine.serviceOff
  split
  · exact rederive b s
  · exact refl s

theorem clearBay (b : BayIx) (s : State) : BayWork s (clearBay b s).1 := by
  unfold Machine.clearBay
  simp only
  split
  · exact (modBay s b _).trans ((modBay _ b _).trans (rederive b _))
  · exact modBay s b _

theorem staffUnlatch (b : BayIx) (s : State) : BayWork s (staffUnlatch b s).1 := by
  unfold Machine.staffUnlatch
  split
  · exact refl s
  · split
    · exact refl s
    · exact takeRelease b _ s

theorem tagBay (b : BayIx) (i : Identity) (s : State) : BayWork s (tagBay b i s).1 := by
  unfold Machine.tagBay
  split
  · exact raiseAlarm b _ s
  · split
    · exact refl s
    · split
      · exact modBay s b fun y => { y with pendingTag := some ⟨i, s.ms + 5000⟩ }
      · split
        · refine .trans ?_ (processReturn b _)
          unfold clearUnidentified
          split
          · exact (modBay s b _).trans ((modBay _ b _).trans (postBay _ b _))
          · exact modBay s b _
        · split
          · rename_i known _ _
            exact modBay s b fun y => { y with identity := some { known with battery := i.battery } }
          · exact raiseAlarm b _ s

/-- The acceptance of a PRESENT (R75, R76). -/
theorem acceptRental (a : Acceptance) (t : Token) (s : State) : BayWork s (acceptRental a t s) := by
  refine .trans ?_ (takeRelease a.bay _ _)
  unfold holdSpent
  split
  · exact still rfl rfl rfl
  · exact still rfl rfl rfl

end BayWork

end Sys2Proof.Machine
end

section
/-! The channels: what a change of a pulse, a grant, the refresh and the ends of a pulse keep of the drive bounds and of the
agreement with the bays. -/

namespace Sys2Proof.Machine

/-! ### Reading a channel back -/

theorem State.pulse?_of_channels {s t : State} (h : t.channels = s.channels) : t.pulse? = s.pulse? := by
  funext c; simp only [State.pulse?, h]

theorem State.pulse?_eq_some {s : State} {c : Fin 4} {p : Pulse} :
    s.pulse? c = some p ↔ (s.channels[c]).mode = .driving p := by
  unfold State.pulse?
  split
  · rename_i q e; rw [e]; simp
  · rename_i e; rw [e]; simp
  · rename_i e; rw [e]; simp

theorem State.setChannel_pulse_ne (s : State) (c d : Fin 4) (x : Channel) (h : d ≠ c) :
    (s.setChannel c x).pulse? d = s.pulse? d := by
  simp only [State.pulse?, State.setChannel_get_ne s c d x h]

/-- The pulse of a channel record. -/
def Channel.pulse? (x : Channel) : Option Pulse :=
  match x.mode with
  | .driving p => some p
  | .idle | .disabled => none

theorem State.pulse?_eq (s : State) (c : Fin 4) : s.pulse? c = (s.channels[c]).pulse? := rfl

@[simp] theorem State.setChannel_pulse_self (s : State) (c : Fin 4) (x : Channel) :
    (s.setChannel c x).pulse? c = x.pulse? := by
  rw [State.pulse?_eq]
  exact congrArg Channel.pulse? (State.setChannel_get_self s c x)

/-! ### The drive bounds -/

theorem DriveKept.queueKept {s : State} (h : DriveKept s) : QueueKept s := ⟨h.ordered, h.below⟩

/-- The bounds rest on profiles, channels, chain and queue. -/
theorem DriveKept.of_fields {s t : State} (h : DriveKept s) (hl : t.latchProfile = s.latchProfile)
    (hu : t.unlatchProfile = s.unlatchProfile) (hc : t.channels = s.channels) (hx : t.chain = s.chain)
    (hq : QueueKept t) : DriveKept t where
  latch := by rw [hl]; exact h.latch
  unlatch := by rw [hu]; exact h.unlatch
  oneBay := by rw [State.pulse?_of_channels hc]; exact h.oneBay
  profiles := by rw [State.pulse?_of_channels hc]; exact h.profiles
  counts := by rw [hc]; exact h.counts
  ordered := hq.ordered
  below := hq.below
  carried := by rw [State.pulse?_of_channels hc, hx]; exact h.carried
  oneChain := by rw [hx]; exact h.oneChain

theorem DriveKept.of_work {s t : State} (h : DriveKept s) (w : BayWork s t) : DriveKept t :=
  h.of_fields w.atBays.latchProfile w.atBays.unlatchProfile w.atBays.channels w.atBays.chain (w.queue h.queueKept)

/-- A channel record keeps the bounds where its counts do and its pulse, if any, has a bay of its own, a profile in range
and, where the chain has joined it, its place on the chain. -/
theorem DriveKept.setChannel {s : State} (h : DriveKept s) (c : Fin 4) (x : Channel) (hc : x.stall ≤ 200 ∧ x.short ≤ 2)
    (hx : ∀ q, x.pulse? = some q → q.profile.inRange ∧ (∀ d p, s.pulse? d = some p → p.bay = q.bay → d = c) ∧
      (q.carriedByChain = true → (s.chain[q.bay]).channel = some c)) : DriveKept (s.setChannel c x) where
  latch := h.latch
  unlatch := h.unlatch
  oneBay d e p q hp hq hb := by
    by_cases hd : d = c <;> by_cases he : e = c
    · rw [hd, he]
    · subst hd
      rw [State.setChannel_pulse_self] at hp
      rw [State.setChannel_pulse_ne s d e x he] at hq
      exact ((hx p hp).2.1 e q hq hb.symm).symm
    · subst he
      rw [State.setChannel_pulse_self] at hq
      rw [State.setChannel_pulse_ne s e d x hd] at hp
      exact (hx q hq).2.1 d p hp hb
    · rw [State.setChannel_pulse_ne s c d x hd] at hp
      rw [State.setChannel_pulse_ne s c e x he] at hq
      exact h.oneBay d e p q hp hq hb
  profiles d p hp := by
    by_cases hd : d = c
    · subst hd
      rw [State.setChannel_pulse_self] at hp
      exact (hx p hp).1
    · rw [State.setChannel_pulse_ne s c d x hd] at hp
      exact h.profiles d p hp
  counts d := by
    by_cases hd : d = c
    · subst hd; simpa using hc
    · rw [State.setChannel_get_ne s c d x hd]; exact h.counts d
  ordered := h.ordered
  below := h.below
  carried d p hp k := by
    by_cases hd : d = c
    · subst hd
      rw [State.setChannel_pulse_self] at hp
      exact (hx p hp).2.2 k
    · rw [State.setChannel_pulse_ne s c d x hd] at hp
      exact h.carried d p hp k
  oneChain := h.oneChain

/-- A pulse goes on in another phase for its bay and on its profile; where the chain carries it now, it did so before. -/
theorem DriveKept.setPulse {s : State} (h : DriveKept s) {c : Fin 4} {p : Pulse} (hp : s.pulse? c = some p) (q : Pulse)
    (hb : q.bay = p.bay) (hr : q.profile = p.profile) (hc : q.carriedByChain = true → p.carriedByChain = true) :
    DriveKept (s.setPulse c q) := by
  refine h.setChannel c _ (h.counts c) fun x hx => ?_
  obtain rfl : q = x := by simpa [Channel.pulse?] using hx
  refine ⟨hr ▸ h.profiles c p hp, fun d y hy e => ?_, fun k => ?_⟩
  · exact h.oneBay d c y p hy hp (e.trans hb)
  · simp only [hb]; exact h.carried c p hp (hc k)

/-- A channel that stops driving keeps the bounds. -/
theorem DriveKept.rest {s : State} (h : DriveKept s) (c : Fin 4) (x : Channel) (hc : x.stall ≤ 200 ∧ x.short ≤ 2)
    (hx : x.pulse? = none) : DriveKept (s.setChannel c x) :=
  h.setChannel c x hc fun q e => by rw [hx] at e; cases e

theorem Pulse.refresh_bay (p : Pulse) : p.refresh.bay = p.bay := by rw [Pulse.refresh_frame]
theorem Pulse.refresh_phase (p : Pulse) : p.refresh.phase = p.phase := by rw [Pulse.refresh_frame]
theorem Pulse.refresh_profile (p : Pulse) : p.refresh.profile = p.profile := by rw [Pulse.refresh_frame]

/-- A bay that only one channel drives is carried to that channel (R144). -/
theorem State.carriedChannel_some {s : State} {c : Fin 4} {p : Pulse} (hp : s.pulse? c = some p) (ph : p.phase ≠ .coast)
    (hu : ∀ d q, s.pulse? d = some q → q.bay = p.bay → d = c) : s.carriedChannel p.bay = some c := by
  unfold State.carriedChannel
  cases e : List.find? _ allChannels with
  | none =>
    have := List.find?_eq_none.mp e c (List.mem_finRange c)
    simp [hp, ph] at this
  | some d =>
    have k := List.find?_some e
    rw [Option.any_eq_true] at k
    obtain ⟨q, hq, k⟩ := k
    rw [hu d q hq (of_decide_eq_true k).1]

/-- A channel that the refresh carries to a bay drives it. -/
theorem State.carriedChannel_drives {s : State} {b : BayIx} {c : Fin 4} (h : s.carriedChannel b = some c) :
    ∃ p, s.pulse? c = some p ∧ p.bay = b ∧ p.phase ≠ .coast := by
  have k := List.find?_some h
  rw [Option.any_eq_true] at k
  obtain ⟨p, hp, k⟩ := k
  exact ⟨p, hp, of_decide_eq_true k⟩

/-- A pulse after the refresh is one before it, but for its mark. -/
theorem refreshChain_pulse_some {s : State} {c : Fin 4} {q : Pulse} (h : (refreshChain s).pulse? c = some q) :
    ∃ p, s.pulse? c = some p ∧ (q = p ∨ q = p.refresh) := by
  rw [refreshChain_pulse] at h
  split at h
  · obtain ⟨p, hp, rfl⟩ := Option.map_eq_some_iff.mp h
    exact ⟨p, hp, .inr rfl⟩
  · exact ⟨q, h, .inl rfl⟩

/-- The refresh keeps the drive bounds: the chain carries each channel to the bay that it drives (R144). -/
theorem DriveKept.refreshChain {s : State} (h : DriveKept s) : DriveKept (refreshChain s) := by
  by_cases due : s.refreshDue = true
  · have pulse : ∀ {c q}, (Machine.refreshChain s).pulse? c = some q →
        ∃ p, s.pulse? c = some p ∧ q.bay = p.bay ∧ q.profile = p.profile ∧ q.phase = p.phase := by
      intro c q hq
      obtain ⟨p, hp, rfl | rfl⟩ := refreshChain_pulse_some hq
      · exact ⟨q, hp, rfl, rfl, rfl⟩
      · exact ⟨p, hp, p.refresh_bay, p.refresh_profile, p.refresh_phase⟩
    have chain : ∀ b : BayIx, ((Machine.refreshChain s).chain[b]).channel = s.carriedChannel b := by
      intro b; rw [refreshChain_chain, if_pos due]; rfl
    have hf := refreshChain_frame s
    refine ⟨by rw [hf]; exact h.latch, by rw [hf]; exact h.unlatch, ?_, ?_, ?_, by rw [hf]; exact h.ordered,
      by rw [hf]; exact h.below, ?_, ?_⟩
    · intro c d p q hp hq e
      obtain ⟨x, hx, ex, -, -⟩ := pulse hp
      obtain ⟨y, hy, ey, -, -⟩ := pulse hq
      exact h.oneBay c d x y hx hy (by rw [← ex, ← ey, e])
    · intro c p hp
      obtain ⟨x, hx, -, ex, -⟩ := pulse hp
      rw [ex]; exact h.profiles c x hx
    · intro c
      have : (Machine.refreshChain s).channels = s.channels.map Channel.refresh := by
        unfold Machine.refreshChain; rw [if_pos due]
      simpa [this] using h.counts c
    · intro c p hp k
      obtain ⟨x, hx, ex, -, ep⟩ := pulse hp
      rw [chain, ex]
      refine State.carriedChannel_some hx (fun e => ?_) fun d q hq e => h.oneBay d c q x hq hx e
      rw [← ep] at e
      simp [Pulse.carriedByChain, e] at k
    · intro b o c hb ho
      rw [chain] at hb ho
      obtain ⟨p, hp, rfl, -⟩ := State.carriedChannel_drives hb
      obtain ⟨q, hq, rfl, -⟩ := State.carriedChannel_drives ho
      rw [hp] at hq
      cases hq
      rfl
  · rw [refreshChain_idle s (by simpa using due)]; exact h

/-! ### The agreement rests on what the pulses claim -/

/-- What a bay sees of a pulse: its bay, its kind and whether its result is still to come. -/
def Pulse.claim (p : Pulse) : BayIx × DriveKind × Bool := (p.bay, p.kind, p.waiting)

theorem Bay.Agrees.of_waiting {y : Bay} {P Q : Pulses} {l : List DriveRequest} {o : BayIx} (a : y.Agrees P l o)
    (same : ∀ c p, p.waiting = true → p.bay = o → (Q c = some p ↔ P c = some p)) : y.Agrees Q l o :=
  ⟨a.tied, a.queued, a.stands, fun c p k w e => a.driving c p ((same c p w e).mp k) w e, fun d =>
    let ⟨c, p, hp, w, e⟩ := a.driven d
    ⟨c, p, (same c p w e).mpr hp, w, e⟩⟩

theorem Bay.Agrees.of_claims {y : Bay} {P Q : Pulses} {l : List DriveRequest} {o : BayIx} (a : y.Agrees P l o)
    (same : ∀ c, (Q c).map Pulse.claim = (P c).map Pulse.claim) : y.Agrees Q l o := by
  have meet : ∀ {R S : Pulses}, (∀ c, (R c).map Pulse.claim = (S c).map Pulse.claim) → ∀ c p, R c = some p →
      ∃ q, S c = some q ∧ q.claim = p.claim := by
    intro R S k c p hp
    have := k c
    rw [hp, Option.map_some] at this
    exact Option.map_eq_some_iff.mp this.symm
  refine ⟨a.tied, a.queued, a.stands, fun c p hp w e => ?_, fun d => ?_⟩
  · obtain ⟨q, hq, k⟩ := meet same c p hp
    simp only [Pulse.claim, Prod.mk.injEq] at k
    rw [← k.2.1]
    exact a.driving c q hq (k.2.2.trans w) (k.1.trans e)
  · obtain ⟨c, p, hp, w, e⟩ := a.driven d
    obtain ⟨q, hq, k⟩ := meet (fun c => (same c).symm) c p hp
    simp only [Pulse.claim, Prod.mk.injEq] at k
    exact ⟨c, q, hq, k.2.2.trans w, k.1.trans e⟩

/-- Bays and queue as they stood, and pulses that claim what they claimed, agree as before. -/
theorem RequestsTied.of_claims {s t : State} (h : RequestsTied s) (hb : ∀ o, (t.bay o).tie = (s.bay o).tie)
    (hq : t.queue = s.queue) (hc : ∀ c, (t.pulse? c).map Pulse.claim = (s.pulse? c).map Pulse.claim)
    (hs : ∀ c p, t.pulse? c = some p → p.shorted = true →
      p.result = some .jam ∧ (p.phase = .deadtime2 ∨ p.phase = .coast)) : RequestsTied t := by
  rw [requestsTied_iff] at h ⊢
  obtain ⟨h, k⟩ := h
  refine ⟨TiedBut.of_tie (s := s) ?_ hq hb, ?_, hs⟩
  · exact ⟨fun o m => (h.agrees o m).of_claims hc, fun _ _ => List.not_mem_nil, fun _ _ _ _ => List.not_mem_nil,
      fun o m => absurd m List.not_mem_nil, h.queueOne⟩
  · intro c d p q hp hq e
    have hcc := hc c
    have hcd := hc d
    rw [hp, Option.map_some] at hcc
    rw [hq, Option.map_some] at hcd
    obtain ⟨x, hx, ex⟩ := Option.map_eq_some_iff.mp hcc.symm
    obtain ⟨y, hy, ey⟩ := Option.map_eq_some_iff.mp hcd.symm
    simp only [Pulse.claim, Prod.mk.injEq] at ex ey
    exact k.oneBay c d x y hx hy (by rw [ex.1, ey.1, e])

/-- Bays, queue and pulses that stand agree as before. -/
theorem RequestsTied.of_fields {s t : State} (h : RequestsTied s) (hb : t.bays = s.bays) (hq : t.queue = s.queue)
    (hc : t.channels = s.channels) : RequestsTied t := by
  have hb : ∀ o, t.bay o = s.bay o := fun o => by simp only [State.bay, hb]
  refine h.of_claims (fun o => by rw [hb]) hq (fun c => by rw [State.pulse?_of_channels hc]) ?_
  rw [State.pulse?_of_channels hc]
  exact h.shorted

/-- Work at the bays that keeps the agreement seen from the pulses. -/
theorem RequestsTied.of_work {s t : State} (h : RequestsTied s) (w : AtBays s t)
    (k : TiedBut [] s.pulse? s → TiedBut [] s.pulse? t) : RequestsTied t := by
  rw [requestsTied_iff] at h ⊢
  rw [State.pulse?_of_channels w.channels]
  exact ⟨k h.1, h.2⟩

theorem RequestsTied.setPulse {s : State} (h : RequestsTied s) {c : Fin 4} {p : Pulse} (hp : s.pulse? c = some p)
    (q : Pulse) (hq : q.claim = p.claim)
    (hs : q.shorted = true → q.result = some .jam ∧ (q.phase = .deadtime2 ∨ q.phase = .coast)) :
    RequestsTied (s.setPulse c q) := by
  refine h.of_claims (fun _ => rfl) rfl (fun d => ?_) fun d x hx => ?_
  · by_cases e : d = c
    · rw [e, State.setPulse_pulse_self, hp, Option.map_some, Option.map_some, hq]
    · rw [State.setPulse_pulse_ne s c d q e]
  · by_cases e : d = c
    · rw [e, State.setPulse_pulse_self] at hx
      cases hx
      exact hs
    · rw [State.setPulse_pulse_ne s c d q e] at hx
      exact h.shorted d x hx

/-- A pulse whose phase is not one of a short's has not been shorted. -/
theorem RequestsTied.not_shorted {s : State} (h : RequestsTied s) {c : Fin 4} {p : Pulse} (hp : s.pulse? c = some p)
    (h1 : p.phase ≠ .deadtime2) (h2 : p.phase ≠ .coast) : p.shorted = false := by
  cases e : p.shorted with
  | false => rfl
  | true =>
    rcases (h.shorted c p hp e).2 with k | k
    · exact absurd k h1
    · exact absurd k h2

theorem Pulse.refresh_claim (p : Pulse) : p.refresh.claim = p.claim := by rw [Pulse.refresh_frame]; rfl

theorem RequestsTied.refreshChain {s : State} (h : RequestsTied s) : RequestsTied (refreshChain s) := by
  refine h.of_claims (fun o => by rw [refreshChain_bay]) (by rw [refreshChain_frame]) (fun c => ?_) fun c q hq => ?_
  · rw [refreshChain_pulse]
    split
    · rw [Option.map_map]
      exact congrArg (Option.map · _) (funext Pulse.refresh_claim)
    · rfl
  · obtain ⟨p, hp, rfl | rfl⟩ := refreshChain_pulse_some hq
    · exact h.shorted c q hp
    · rw [Pulse.refresh_frame]
      exact h.shorted c p hp

/-! ### The arbiter -/

theorem State.idleChannel?_mode {s : State} {c : Fin 4} (h : s.idleChannel? = some c) : (s.channels[c]).mode = .idle := by
  have := List.find?_some h
  simpa using this

theorem State.idleChannel?_pulse {s : State} {c : Fin 4} (h : s.idleChannel? = some c) : s.pulse? c = none := by
  have := State.idleChannel?_mode h
  unfold State.pulse?
  rw [this]

/-- The request that the arbiter chooses stands in the queue, and no channel holds its bay (R140, R141). -/
theorem State.chosenRequest?_spec {s : State} {q : DriveRequest} (h : s.chosenRequest? = some q) :
    q ∈ s.queue ∧ ∀ c p, s.pulse? c = some p → p.bay ≠ q.bay := by
  have m : q ∈ s.queue.filter s.grantable := by
    unfold State.chosenRequest? at h
    simp only [Option.orElse_eq_orElse, Option.orElse_eq_or, Option.or_eq_some_iff] at h
    rcases h with h | ⟨-, h | ⟨-, h⟩⟩
    · exact List.mem_of_find?_eq_some h
    · exact List.mem_of_find?_eq_some h
    · exact List.mem_of_mem_head? h
  rw [List.mem_filter] at m
  refine ⟨m.1, fun c p hp e => ?_⟩
  have g := m.2
  simp only [State.grantable, Bool.and_eq_true, Bool.not_eq_true'] at g
  have : s.bayHeld q.bay = true := by
    rw [State.bayHeld, List.any_eq_true]
    exact ⟨c, List.mem_finRange c, by simp [hp, e]⟩
  rw [this] at g
  exact absurd g.2 (by simp)

/-- A grant is one of a request in the queue to an idle channel, with its bay held by none (R140). -/
theorem grantOne_cases {s t : State} (h : grantOne s = some t) : ∃ c q, t = grantTo c q s ∧ s.pulse? c = none ∧
    q ∈ s.queue ∧ ∀ d p, s.pulse? d = some p → p.bay ≠ q.bay := by
  unfold grantOne at h
  split at h
  · split at h
    · rename_i c q hc hq
      cases h
      exact ⟨c, q, rfl, State.idleChannel?_pulse hc, State.chosenRequest?_spec hq⟩
    · cases h
  · cases h

/-- What every single grant keeps, the arbiter keeps. -/
theorem arbitrate_keeps (I : State → Prop) (k : ∀ c q s, I s → s.pulse? c = none → q ∈ s.queue →
    (∀ d p, s.pulse? d = some p → p.bay ≠ q.bay) → I (grantTo c q s)) (s : State) (h : I s) : I (arbitrate s) := by
  have many : ∀ n s, I s → I (grantMany n s) := by
    intro n
    induction n with
    | zero => exact fun s h => h
    | succ n ih =>
      intro s h
      unfold grantMany
      split
      · rename_i t e
        obtain ⟨c, q, rfl, h1, h2, h3⟩ := grantOne_cases e
        exact ih _ (k c q s h h1 h2 h3)
      · exact h
  exact many 4 s h

/-- The pulse a grant starts (R140, R148). -/
def grantedPulse (q : DriveRequest) (s : State) : Pulse :=
  ⟨q.bay, q.kind, .connect, s.profileOf q.kind, s.settings.deadTime, s.ms, s.ms, none, false, false⟩

theorem grantTo_eq (c : Fin 4) (q : DriveRequest) (s : State) : grantTo c q s =
    (({ s with queue := s.queue.erase q }).setChannel c ⟨.driving (grantedPulse q s), 0, 0⟩).modBay q.bay
      fun y => { y with driveStage := .driving } := rfl

theorem DriveKept.grantTo {s : State} (h : DriveKept s) (c : Fin 4) (q : DriveRequest)
    (hb : ∀ d p, s.pulse? d = some p → p.bay ≠ q.bay) : DriveKept (grantTo c q s) := by
  rw [grantTo_eq]
  have e : DriveKept { s with queue := s.queue.erase q } := h.of_fields rfl rfl rfl rfl
    ⟨h.ordered.sublist List.erase_sublist, fun x m => h.below x (List.mem_of_mem_erase m)⟩
  refine (e.setChannel c _ (by simp) fun x hx => ?_).of_work (.modBay _ _ _)
  obtain rfl : grantedPulse q s = x := by simpa [Channel.pulse?] using hx
  refine ⟨?_, fun d p hp k => absurd k (hb d p hp), fun k => by simp [Pulse.carriedByChain, grantedPulse] at k⟩
  simp only [grantedPulse]
  cases q.kind with
  | latch => exact h.latch
  | unlatchRental => exact h.unlatch
  | unlatchStaff => exact h.unlatch
  | unlatchReady => exact h.unlatch

theorem DriveKept.arbitrate {s : State} (h : DriveKept s) : DriveKept (arbitrate s) :=
  arbitrate_keeps DriveKept (fun c q _ h _ _ hb => h.grantTo c q hb) s h

/-- A bay whose state and link name a request fits the pulse of that kind (R12). -/
theorem Bay.fits_of_requestKind {y : Bay} {k : DriveKind} (h : y.requestKind = some k) : y.fits k := by
  unfold Bay.requestKind at h
  split at h <;> cases h
  · assumption
  · rename_i k e1 e2; exact ⟨e1, .inl ⟨k, e2⟩⟩
  · rename_i e1 e2; exact ⟨e1, .inl e2⟩
  · rename_i e1 e2; exact ⟨e1, e2⟩

/-- A grant moves the request of a bay from the queue to a channel (R140). -/
theorem RequestsTied.grantTo {s : State} (h : RequestsTied s) (c : Fin 4) (q : DriveRequest) (hc : s.pulse? c = none)
    (hq : q ∈ s.queue) (hb : ∀ d p, s.pulse? d = some p → p.bay ≠ q.bay) : RequestsTied (grantTo c q s) := by
  have tied := ((requestsTied_iff s).mp h).1
  obtain ⟨stage, kind⟩ := h.queued q hq
  have t := h.bays q.bay
  have unmarked := t.unmarked (by rw [stage]; simp)
  have fits := Bay.fits_of_requestKind kind
  have bay : (Machine.grantTo c q s).bay q.bay = { s.bay q.bay with driveStage := .driving } := by
    rw [grantTo_eq, State.modBay_bay_self]; rfl
  have other : ∀ o, o ≠ q.bay → (Machine.grantTo c q s).bay o = s.bay o := fun o e => by
    rw [grantTo_eq, State.modBay_bay_ne _ _ _ o e]; rfl
  have self : (Machine.grantTo c q s).pulse? c = some (grantedPulse q s) := by
    rw [State.pulse?_eq_some]; simp [grantTo_eq, State.modBay, State.setChannel]
  have pulse : ∀ d, d ≠ c → (Machine.grantTo c q s).pulse? d = s.pulse? d := fun d e =>
    State.setChannel_pulse_ne { s with queue := s.queue.erase q } c d _ e
  have queue : ∀ x, x ∈ (Machine.grantTo c q s).queue ↔ x ∈ s.queue ∧ x.bay ≠ q.bay := by
    intro x
    have nodup : s.queue.Nodup := h.queueOne.imp fun k e => k (congrArg DriveRequest.bay e)
    show x ∈ s.queue.erase q ↔ _
    rw [nodup.mem_erase_iff]
    have once : (s.queue.map DriveRequest.bay).Nodup := List.pairwise_map.mpr h.queueOne
    exact ⟨fun ⟨ne, m⟩ => ⟨m, fun e => ne (List.inj_on_of_nodup_map once m hq e)⟩,
      fun ⟨m, ne⟩ => ⟨fun e => ne (e ▸ rfl), m⟩⟩
  have drop : ∀ o, o ≠ q.bay → ∀ d p, p.bay = o → ((Machine.grantTo c q s).pulse? d = some p ↔ s.pulse? d = some p) := by
    intro o ne d p e
    by_cases hd : d = c
    · subst hd
      rw [self, hc]
      refine ⟨fun k => ?_, fun k => (by cases k)⟩
      cases k
      exact absurd e.symm ne
    · rw [pulse d hd]
  refine (requestsTied_iff _).mpr ⟨⟨fun o _ => ?_, fun _ _ => List.not_mem_nil, fun _ _ _ _ => List.not_mem_nil,
    fun o m => absurd m List.not_mem_nil, h.queueOne.sublist List.erase_sublist⟩, ?_, ?_⟩
  · by_cases e : o = q.bay
    · subst e
      rw [bay]
      refine ⟨t.restage (d := .driving) (by rw [← unmarked]; rfl) fits.moving (t.link_of_unmarked unmarked) (by simp),
        fun x m k => absurd k ((queue x).mp m).2, fun k => (by cases k), fun d p hp w k => ⟨rfl, ?_⟩,
        fun _ => ⟨c, _, self, rfl, rfl⟩⟩
      by_cases hd : d = c
      · rw [hd, self] at hp
        cases hp
        cases hk : q.kind <;> rw [hk] at fits <;> simpa [grantedPulse, hk, Bay.fits] using fits
      · rw [pulse d hd] at hp
        exact absurd k (hb d p hp)
    · rw [other o e]
      refine Bay.Agrees.of_tie (l := s.queue) ((tied.agrees o List.not_mem_nil).of_waiting fun d p _ k => drop o e d p k) rfl
        fun x k => ?_
      rw [queue]
      exact ⟨And.left, fun m => ⟨m, k ▸ e⟩⟩
  · intro d e p x hp hx k
    by_cases hd : d = c <;> by_cases he : e = c
    · rw [hd, he]
    · rw [hd, self] at hp
      cases hp
      rw [pulse e he] at hx
      exact absurd k.symm (hb e x hx)
    · rw [he, self] at hx
      cases hx
      rw [pulse d hd] at hp
      exact absurd k (hb d p hp)
    · rw [pulse d hd] at hp
      rw [pulse e he] at hx
      exact h.oneBay d e p x hp hx k
  · intro d p hp
    by_cases hd : d = c
    · rw [hd, self] at hp
      cases hp
      intro k
      cases k
    · rw [pulse d hd] at hp
      exact h.shorted d p hp

theorem RequestsTied.arbitrate {s : State} (h : RequestsTied s) : RequestsTied (arbitrate s) :=
  arbitrate_keeps RequestsTied (fun c q _ h hc hq hb => h.grantTo c q hc hq hb) s h

end Sys2Proof.Machine
end

section
/-! The events of the drive, of the scanner and of the timers keep the drive bounds and the agreement. -/

namespace Sys2Proof.Machine

/-- `t` keeps what `s` has of the drive bounds and of the agreement of bays, queue and channels. -/
structure Kept (s t : State) : Prop where
  drive : DriveKept s → DriveKept t
  tied  : RequestsTied s → RequestsTied t

theorem Phase.drives_iff (x : Phase) : x.drives = true ↔ x = .kick ∨ x = .hold := by
  cases x <;> simp [Phase.drives]

/-- A pulse whose result has just been reported waits for nothing, and its bay is open to take the report (R146, R159). -/
theorem RequestsTied.report {s t : State} {c : Fin 4} {p q : Pulse} (h : RequestsTied s) (hp : s.pulse? c = some p)
    (hw : p.waiting = true) (qw : q.waiting = false) (qb : q.bay = p.bay) (qs : q.shorted = false)
    (work : AtBays (s.setPulse c q) t)
    (closes : ∀ Q : Pulses, TiedBut [p.bay] Q (s.setPulse c q) → TiedBut [] Q t) : RequestsTied t := by
  have all := (requestsTied_iff s).mp h
  have ht : t.pulse? = (s.setPulse c q).pulse? := State.pulse?_of_channels work.channels
  have self : t.pulse? c = some q := by rw [ht]; exact State.setPulse_pulse_self s c q
  have other : ∀ d, d ≠ c → t.pulse? d = s.pulse? d := fun d e => by rw [ht]; exact State.setPulse_pulse_ne s c d q e
  have only : ∀ d x, t.pulse? d = some x → x.bay = p.bay → d = c := by
    intro d x hx e
    by_contra hd
    rw [other d hd] at hx
    exact hd (h.oneBay d c x p hx hp e)
  have spared : ∀ d x, x.bay ≠ p.bay → (t.pulse? d = some x ↔ s.pulse? d = some x) := by
    intro d x ne
    by_cases hd : d = c
    · rw [hd, self, hp]
      exact ⟨fun k => by cases k; exact absurd qb ne, fun k => by cases k; exact absurd rfl ne⟩
    · rw [other d hd]
  refine (requestsTied_iff t).mpr ⟨closes _ (TiedBut.of_tie (s := s) ?_ rfl fun _ => rfl), ?_, ?_⟩
  · refine all.1.open_driven (h.driving c p hp hw).1 (fun d x hx w e => ?_) spared
    rw [only d x hx e, self] at hx
    cases hx
    rw [qw] at w
    cases w
  · intro d e x y hx hy hb
    by_cases k : x.bay = p.bay
    · rw [only d x hx k, only e y hy (hb ▸ k)]
    · exact h.oneBay d e x y ((spared d x k).mp hx) ((spared e y (hb ▸ k)).mp hy) hb
  · intro d x hx
    by_cases hd : d = c
    · rw [hd, self] at hx
      cases hx
      intro k
      rw [qs] at k
      cases k
    · rw [other d hd] at hx
      exact h.shorted d x hx

namespace Kept

theorem refl (s : State) : Kept s s := ⟨id, id⟩

theorem trans {s t u : State} (h : Kept s t) (k : Kept t u) : Kept s u :=
  ⟨fun d => k.drive (h.drive d), fun r => k.tied (h.tied r)⟩

/-- Nothing that the drive bounds and the agreement read has changed. -/
theorem of_same {s t : State} (hb : t.bays = s.bays) (hq : t.queue = s.queue) (hn : t.nextOrder = s.nextOrder)
    (hc : t.channels = s.channels) (hl : t.latchProfile = s.latchProfile) (hu : t.unlatchProfile = s.unlatchProfile)
    (hx : t.chain = s.chain) : Kept s t where
  drive h := h.of_fields hl hu hc hx ⟨by rw [hq]; exact h.ordered, by rw [hq, hn]; exact h.below⟩
  tied h := h.of_fields hb hq hc

/-- Work at the bays that keeps the agreement whatever the pulses are. -/
theorem of_work {s t : State} (w : BayWork s t) (k : ∀ P, TiedBut [] P s → TiedBut [] P t) : Kept s t :=
  ⟨fun h => h.of_work w, fun h => h.of_work w.atBays (k _)⟩

theorem arbitrate (s : State) : Kept s (arbitrate s) := ⟨DriveKept.arbitrate, RequestsTied.arbitrate⟩

theorem refreshChain (s : State) : Kept s (refreshChain s) := ⟨DriveKept.refreshChain, RequestsTied.refreshChain⟩

theorem foldl {α : Type} (f : State → α → State) (h : ∀ t a, Kept t (f t a)) (l : List α) (s : State) :
    Kept s (l.foldl f s) := by
  induction l generalizing s with
  | nil => exact refl s
  | cons a l ih => exact (h s a).trans (ih _)

section
variable {s : State} {c : Fin 4} {p : Pulse}

/-- A pulse goes on for its bay, of its kind and on its profile, in a phase that claims and carries no more than before. -/
theorem setPulse (hp : s.pulse? c = some p) (q : Pulse) (hb : q.bay = p.bay) (hk : q.kind = p.kind)
    (hr : q.profile = p.profile) (hc : q.carriedByChain = true → p.carriedByChain = true)
    (hw : RequestsTied s → q.waiting = p.waiting ∧
      (q.shorted = true → q.result = some .jam ∧ (q.phase = .deadtime2 ∨ q.phase = .coast))) : Kept s (s.setPulse c q) where
  drive h := h.setPulse hp q hb hr hc
  tied h := h.setPulse hp q (by simp only [Pulse.claim, hb, hk, (hw h).1]) (hw h).2

/-- A pulse in a phase before its drive has ended goes to another phase short of COAST. -/
theorem toPhase (hp : s.pulse? c = some p) (q : Pulse) (hb : q.bay = p.bay) (hk : q.kind = p.kind)
    (hr : q.profile = p.profile) (hs : q.shorted = p.shorted) (hc : q.carriedByChain = true → p.carriedByChain = true)
    (h1 : p.phase ≠ .deadtime2) (h2 : p.phase ≠ .coast) (h3 : q.phase ≠ .coast) : Kept s (s.setPulse c q) := by
  refine setPulse hp q hb hk hr hc fun h => ⟨by simp [Pulse.waiting, h2, h3], fun k => ?_⟩
  rw [hs, h.not_shorted hp h1 h2] at k
  cases k

theorem postChannel (s : State) : Kept s s.postChannel := of_same rfl rfl rfl rfl rfl rfl rfl

theorem takeShort (hp : s.pulse? c = some p) (hd : p.phase.drives = true) : Kept s (takeShort c p s) := by
  refine (setPulse hp { p with phase := .deadtime2, result := some .jam, shorted := true } rfl rfl rfl (fun _ => ?_)
    fun _ => ⟨?_, fun _ => ⟨rfl, .inl rfl⟩⟩).trans (postChannel _)
  · rcases (Phase.drives_iff _).mp hd with e | e <;> simp [Pulse.carriedByChain, e]
  · rcases (Phase.drives_iff _).mp hd with e | e <;> simp [Pulse.waiting, e]

theorem endDrive (hp : s.pulse? c = some p) (hd : p.phase.drives = true) : Kept s (endDrive c p s) := by
  unfold Machine.endDrive
  split
  · exact takeShort hp hd
  · have e := (Phase.drives_iff _).mp hd
    refine toPhase hp _ rfl rfl rfl rfl (fun _ => ?_) ?_ ?_ (by simp) <;> rcases e with e | e <;>
      simp [Pulse.carriedByChain, e]

theorem latchClosedEndsDrive (b : BayIx) (s : State) : Kept s (latchClosedEndsDrive b s) := by
  refine foldl _ (fun t c => ?_) _ s
  split
  · rename_i p hp
    split
    · rename_i k; exact endDrive hp k.2.2
    · exact refl t
  · exact refl t

theorem abortChannel (s : State) (c : Fin 4) : Kept s (abortChannel s c) := by
  unfold Machine.abortChannel
  split
  · rename_i p hp
    split
    · exact refl s
    · rename_i k
      simp only [not_or] at k
      split
      · rename_i d; exact takeShort hp d.1
      · refine setPulse hp _ rfl rfl rfl (fun e => ?_) fun _ => ⟨?_, fun e => absurd e k.1⟩
        · simp [Pulse.carriedByChain] at e
        · simp [Pulse.waiting, k.2]
  · exact refl s

theorem brownoutAbort (s : State) : Kept s (brownoutAbort s) := foldl _ abortChannel _ s

theorem changeBand (b : Band) (s : State) : Kept s (changeBand b s) := by
  unfold Machine.changeBand
  split
  · exact refl s
  · simp only
    have e : Kept s { s.postBand with band := b } := of_same rfl rfl rfl rfl rfl rfl rfl
    split
    · exact e.trans ((brownoutAbort _).trans (arbitrate _))
    · exact e.trans (arbitrate _)

theorem takeEvaluation (s : State) : Kept s (takeEvaluation s) := by
  unfold Machine.takeEvaluation
  split
  · have e : Kept s { s with evaluationDue := false } := of_same rfl rfl rfl rfl rfl rfl rfl
    refine e.trans ?_
    unfold evaluateBand
    split
    · exact refl _
    · exact changeBand _ _
  · exact refl s

/-! ### The phases of a pulse -/

theorem endConnect (hp : s.pulse? c = some p) : Kept s (endConnect c p s) := by
  unfold Machine.endConnect
  split
  · rename_i k
    refine (refreshChain s).trans ?_
    have hr := refreshChain_pulse s c
    rw [hp, Option.map_some] at hr
    obtain ⟨q, hq, e, m⟩ : ∃ q, (Machine.refreshChain s).pulse? c = some q ∧
        q = { p with refreshed := q.refreshed } ∧ q.refreshed = true := by
      by_cases due : s.refreshDue = true
      · rw [if_pos due] at hr
        exact ⟨_, hr, p.refresh_frame, by simp [Pulse.refresh, Phase.awaitsRefresh, k.1]⟩
      · rw [if_neg due] at hr
        exact ⟨p, hr, rfl, by have := k.2; simpa [State.refreshes, due] using this⟩
    have hph : q.phase = .connect := by rw [e]; exact k.1
    refine toPhase hq _ (by rw [e]) (by rw [e]) (by rw [e]) (by rw [e]) (fun _ => ?_) ?_ ?_ (by simp)
    · simp [Pulse.carriedByChain, hph, m]
    · simp [hph]
    · simp [hph]
  · exact refl s

theorem beginKick (hp : s.pulse? c = some p) (h : p.phase = .deadtime1) : Kept s (beginKick c p s) := by
  have go : ∀ x : Phase, x ≠ .coast → Kept s (s.setPulse c { p with kickStart := s.ms, phase := x }) := fun x hx =>
    toPhase hp _ rfl rfl rfl rfl (fun _ => by simp [Pulse.carriedByChain, h]) (by simp [h]) (by simp [h]) hx
  unfold Machine.beginKick
  simp only
  split
  · exact go _ (by simp)
  · split
    · exact go _ (by simp)
    · exact go _ (by simp)

theorem endKick (hp : s.pulse? c = some p) : Kept s (endKick c p s) := by
  unfold Machine.endKick
  split
  · rename_i k
    have h : p.phase = .kick := by simp [Pulse.kickOver] at k; exact k.1
    exact toPhase hp _ rfl rfl rfl rfl (fun _ => by simp [Pulse.carriedByChain, h]) (by simp [h]) (by simp [h]) (by simp)
  · exact refl s

/-- The result of a pulse is no ABORT where the latch gives it (R152, R153). -/
theorem pulseResult_ne_abort (k : DriveKind) (l : Latch) : pulseResult k l ≠ .abort := by
  cases k <;> cases l <;> simp [pulseResult]

/-- The end of BRAKE reports the result to the bay, which no pulse drives any more (R146, R159). -/
theorem finishBrake (hp : s.pulse? c = some p) (h : p.phase = .brake) : Kept s (finishBrake c p s) := by
  unfold Machine.finishBrake
  simp only
  generalize hr : pulseResult p.kind (s.bay p.bay).latch = r
  have ne : r ≠ .abort := hr ▸ pulseResult_ne_abort _ _
  have work := BayWork.complete p.bay p.kind r (s.setPulse c { p with phase := .coast, result := some r })
  refine ⟨fun k => ?_, fun k => ?_⟩
  · have rests : DriveKept (s.setPulse c { p with phase := .coast, result := some r }) :=
      k.setPulse hp _ rfl rfl fun e => by simp [Pulse.carriedByChain] at e
    exact rests.of_work work
  · have unshorted := k.not_shorted hp (by simp [h]) (by simp [h])
    have waits : p.waiting = true := by simp [Pulse.waiting, h]
    obtain ⟨d, f⟩ := k.driving c p hp waits
    exact k.report (q := { p with phase := .coast, result := some r }) hp waits (by simp [Pulse.waiting, unshorted, ne])
      rfl unshorted work.atBays fun Q o => o.complete (k.bays p.bay) d p.kind f r

theorem endBrake (hp : s.pulse? c = some p) : Kept s (endBrake c p s) := by
  unfold Machine.endBrake
  split
  · rename_i k
    exact finishBrake hp (by simp [Pulse.brakeOver] at k; exact k.1)
  · exact refl s

theorem endSecondDeadtime (hp : s.pulse? c = some p) (h : p.phase = .deadtime2) : Kept s (endSecondDeadtime c p s) := by
  unfold Machine.endSecondDeadtime
  split
  · rename_i sh
    exact setPulse hp _ rfl rfl rfl (fun e => by simp [Pulse.carriedByChain] at e)
      fun k => ⟨by simp [Pulse.waiting, sh], fun _ => ⟨(k.shorted c p hp sh).1, .inr rfl⟩⟩
  · rename_i sh
    simp only
    have brake : Kept s (s.setPulse c { p with phase := .brake, brakeStart := s.ms }) :=
      setPulse hp _ rfl rfl rfl (fun _ => by simp [Pulse.carriedByChain, h])
        fun _ => ⟨by simp [Pulse.waiting, h], fun k => absurd k sh⟩
    split
    · exact brake.trans (finishBrake (State.setPulse_pulse_self s c _) rfl)
    · exact brake

theorem endDeadtime (hp : s.pulse? c = some p) : Kept s (endDeadtime c p s) := by
  unfold Machine.endDeadtime
  split
  · rename_i h; exact beginKick hp h
  · rename_i h; exact endSecondDeadtime hp h
  all_goals exact refl s

theorem stallEnds (hp : s.pulse? c = some p) : Kept s (stallEnds c p s) := by
  unfold Machine.stallEnds
  split
  · rename_i k
    simp only [Pulse.stalled, Bool.and_eq_true] at k
    exact endDrive hp k.1
  · exact refl s

theorem limitEnds (hp : s.pulse? c = some p) : Kept s (limitEnds c p s) := by
  unfold Machine.limitEnds
  split
  · rename_i k
    simp only [Pulse.atLimit, Bool.and_eq_true] at k
    exact endDrive hp k.1
  · exact refl s

theorem shortEnds (hp : s.pulse? c = some p) : Kept s (shortEnds c p s) := by
  unfold Machine.shortEnds
  split
  · rename_i k
    simp only [Pulse.shorts, Bool.and_eq_true] at k
    exact takeShort hp k.1
  · exact refl s

/-- The counts of a channel that conversions raise stay in their bounds, on a profile in range (R151, R154). -/
theorem countCurrent_bounds (now mA : Nat) (p : Pulse) (x : Channel) (hp : p.profile.inRange)
    (hx : x.stall ≤ 200 ∧ x.short ≤ 2) :
    (countCurrent now mA p x).stall ≤ 200 ∧ (countCurrent now mA p x).short ≤ 2 := by
  obtain ⟨-, -, -, -, -, -, -, -, -, -, -, hst, -, -⟩ := hp
  unfold countCurrent
  split
  · exact hx
  · rename_i k
    simp only [not_or, Nat.not_le] at k
    simp only
    refine ⟨?_, ?_⟩
    · split
      · split <;> omega
      · exact hx.1
    · split <;> omega

theorem countCurrent_mode (now mA : Nat) (p : Pulse) (x : Channel) : (countCurrent now mA p x).mode = x.mode := by
  unfold countCurrent; split <;> rfl

theorem countScan (c : Fin 4) (mA : Nat) (s : State) : Kept s (countScan c mA s) := by
  unfold Machine.countScan
  split
  · rename_i p hp
    split
    · have mode := countCurrent_mode s.ms mA p s.channels[c]
      have pulse : (countCurrent s.ms mA p s.channels[c]).pulse? = some p := by
        rw [← hp, State.pulse?_eq, Channel.pulse?, mode]; rfl
      refine ⟨fun k => k.setChannel c _ (countCurrent_bounds _ _ _ _ (k.profiles c p hp) (k.counts c)) fun q hq => ?_,
        fun k => k.of_claims (fun _ => rfl) rfl (fun d => ?_) fun d x hx => ?_⟩
      · rw [pulse] at hq
        cases hq
        exact ⟨k.profiles c p hp, fun d y hy e => k.oneBay d c y p hy hp e, k.carried c p hp⟩
      · by_cases e : d = c
        · rw [e, State.setChannel_pulse_self, pulse, hp]
        · rw [State.setChannel_pulse_ne s c d _ e]
      · by_cases e : d = c
        · rw [e, State.setChannel_pulse_self, pulse] at hx
          cases hx
          exact k.shorted c p hp
        · rw [State.setChannel_pulse_ne s c d _ e] at hx
          exact k.shorted d x hx
    · exact refl s
  · exact refl s

end

end Kept

/-! ### The end of COAST -/

/-- A channel whose result has been reported, or was none to report, stops driving, and the bay it leaves is closed. -/
theorem RequestsTied.free {s t : State} {c : Fin 4} {p : Pulse} (h : RequestsTied s) (hp : s.pulse? c = some p)
    (x : Channel) (hx : x.pulse? = none) (work : BayWork s t)
    (closes : ∀ Q : Pulses, (p.waiting = true → TiedBut [p.bay] Q s) → (p.waiting = false → TiedBut [] Q s) →
      TiedBut [] Q t) : RequestsTied (t.setChannel c x) := by
  have all := (requestsTied_iff s).mp h
  have self : (t.setChannel c x).pulse? c = none := by rw [State.setChannel_pulse_self, hx]
  have other : ∀ d, d ≠ c → (t.setChannel c x).pulse? d = s.pulse? d := fun d e => by
    rw [State.setChannel_pulse_ne t c d x e, State.pulse?_of_channels work.atBays.channels]
  have keeps : ∀ d y, (t.setChannel c x).pulse? d = some y → d ≠ c ∧ s.pulse? d = some y := by
    intro d y hy
    by_cases e : d = c
    · rw [e, self] at hy; cases hy
    · exact ⟨e, by rw [← other d e]; exact hy⟩
  have spared : ∀ d y, s.pulse? d = some y → d ≠ c → (t.setChannel c x).pulse? d = some y := fun d y hy e => by
    rw [other d e]; exact hy
  refine (requestsTied_iff _).mpr ⟨(closes _ (fun w => ?_) fun w => ?_).of_tie rfl fun _ => rfl, ?_, ?_⟩
  · refine all.1.open_driven (h.driving c p hp w).1 (fun d y hy _ e => ?_) fun d y e => ?_
    · exact (keeps d y hy).1 (h.oneBay d c y p (keeps d y hy).2 hp e)
    · refine ⟨fun k => (keeps d y k).2, fun k => spared d y k fun hd => ?_⟩
      rw [hd, hp] at k
      cases k
      exact e rfl
  · refine ⟨fun o m => (all.1.agrees o m).of_waiting fun d y k _ => ⟨fun z => (keeps d y z).2, fun z => ?_⟩,
      all.1.unqueued, fun _ _ _ _ => List.not_mem_nil, all.1.lamps, all.1.queueOne⟩
    refine spared d y z fun hd => ?_
    rw [hd, hp] at z
    cases z
    rw [w] at k
    cases k
  · exact fun d e y z hy hz => h.oneBay d e y z (keeps d y hy).2 (keeps e z hz).2
  · exact fun d y hy => h.shorted d y (keeps d y hy).2

/-- The report at the end of COAST (R154, R157, R159). -/
def reportCoast (p : Pulse) (s : State) : State :=
  match p.result with
  | some .abort => complete p.bay p.kind .abort s
  | some r => if p.shorted then complete p.bay p.kind r s else s
  | none => s

theorem finishCoast_eq (c : Fin 4) (p : Pulse) (s : State) : finishCoast c p s =
    arbitrate ((reportCoast p s).setChannel c
      { (reportCoast p s).channels[c] with mode := if p.shorted then .disabled else .idle }) := rfl

theorem BayWork.reportCoast (p : Pulse) (s : State) : BayWork s (reportCoast p s) := by
  unfold Machine.reportCoast
  split
  · exact complete _ _ _ _
  · split
    · exact complete _ _ _ _
    · exact refl s
  · exact refl s

theorem Kept.finishCoast {s : State} {c : Fin 4} {p q : Pulse} (hq : s.pulse? c = some q)
    (e : q = { p with refreshed := q.refreshed }) (h : p.phase = .coast) : Kept s (finishCoast c p s) := by
  have work := BayWork.reportCoast p s
  have rest : ({ (reportCoast p s).channels[c] with mode := if p.shorted then .disabled else .idle } : Channel).pulse? = none := by
    unfold Channel.pulse?
    cases p.shorted <;> rfl
  have hb : q.bay = p.bay := by rw [e]
  have hk : q.kind = p.kind := by rw [e]
  have hw : q.waiting = p.waiting := by rw [e]; rfl
  rw [finishCoast_eq]
  refine Kept.trans ⟨fun k => ?_, fun k => ?_⟩ (.arbitrate _)
  · have counts := k.counts c
    exact (k.of_work work).rest c _ (by simpa [work.atBays.channels] using counts) rest
  · refine k.free hq _ rest work fun Q op cl => ?_
    rw [hw, hb] at op
    rw [hw] at cl
    have close : ∀ r, p.waiting = true → TiedBut [] Q (complete p.bay p.kind r s) := fun r w => by
      obtain ⟨d, f⟩ := k.driving c q hq (hw.trans w)
      rw [hb] at d
      rw [hb, hk] at f
      exact (op w).complete (k.bays p.bay) d p.kind f r
    have sh : p.shorted = true → p.result = some .jam := fun s => by
      have := (k.shorted c q hq (by rw [e]; exact s)).1
      rw [e] at this
      exact this
    unfold reportCoast
    split
    · rename_i a
      exact close _ (by simp [Pulse.waiting, a])
    · split
      · rename_i s
        exact close _ (by simp [Pulse.waiting, s])
      · rename_i r na a s
        exact cl (by simpa [Pulse.waiting, h, s, a] using na)
    · rename_i r
      refine cl ?_
      cases s : p.shorted with
      | false => simp [Pulse.waiting, h, s, r]
      | true => rw [sh s] at r; cases r

theorem Kept.endCoast {s : State} {c : Fin 4} {p : Pulse} (hp : s.pulse? c = some p) : Kept s (endCoast c p s) := by
  unfold Machine.endCoast
  split
  · rename_i k
    refine (Kept.refreshChain s).trans ?_
    have hr := refreshChain_pulse s c
    rw [hp, Option.map_some] at hr
    split at hr
    · exact finishCoast hr p.refresh_frame k.1
    · exact finishCoast hr rfl k.1
  · exact refl s

end Sys2Proof.Machine
end

section
/-! The state after reset meets the invariants (O3). -/

namespace Sys2Proof.Machine

@[simp] theorem reset_bay (b : BayIx) : State.reset.bay b = blankBay := by simp [State.bay, State.reset]

theorem reset_pulse (c : Fin 4) : State.reset.pulse? c = none := by
  simp [State.pulse?, State.reset, idleChannel]

theorem reset_journalKept : JournalKept State.reset where
  committed := by decide
  cursor := Nat.le_refl _
  heldOnce := List.nodup_nil
  heldExact b := by rw [reset_bay]; simp [State.reset, blankBay]
  armed _ := rfl

theorem reset_listsKept : ListsKept State.reset where
  denyAscending := List.Pairwise.nil
  denyRoom := Nat.zero_le _
  denyLegal _ m := absurd m List.not_mem_nil
  spentOnce := List.Pairwise.nil
  spentRoom := Nat.zero_le _

theorem reset_tariff (p : Fin 3) (t : Tariff) : State.reset.tariffs[p] ≠ some t := by simp [State.reset]

theorem reset_rental (k : Fin 64) (r : Rental) : State.reset.rentals[k] ≠ some r := by simp [State.reset]

theorem reset_rangesKept : RangesKept State.reset where
  settings := by simp [State.reset, defaultSettings, Settings.inRange]
  latch := by simp [State.reset, defaultLatchProfile, Profile.inRange]
  unlatch := by simp [State.reset, defaultUnlatchProfile, Profile.inRange]
  thresholds := by simp [State.reset, defaultThresholds, Thresholds.inOrder]
  tariffs p t h := absurd h (reset_tariff p t)
  clock := ⟨Nat.zero_le _, by decide, Nat.zero_le _⟩
  unset _ := rfl
  timeBase := Nat.zero_le _
  filter := ⟨Nat.zero_le _, Nat.zero_le _⟩

theorem reset_rentalsKept : RentalsKept State.reset where
  tariffs p t h := absurd h (reset_tariff p t)
  records k r h := absurd h (reset_rental k r)

theorem reset_driveKept : DriveKept State.reset where
  latch := reset_rangesKept.latch
  unlatch := reset_rangesKept.unlatch
  oneBay c _ p _ h := by rw [reset_pulse] at h; cases h
  profiles c p h := by rw [reset_pulse] at h; cases h
  counts c := by simp [State.reset, idleChannel]
  ordered := List.Pairwise.nil
  below _ m := absurd m List.not_mem_nil
  carried c p h := by rw [reset_pulse] at h; cases h
  oneChain b o c h := by simp [State.reset, darkSlot] at h

theorem reset_spentKept : SpentKept State.reset where
  once := List.Pairwise.nil
  hasEntry k r h := absurd h (reset_rental k r)
  hasRental _ m := absurd m List.not_mem_nil
  oneRental j _ r _ h := absurd h (reset_rental j r)

theorem reset_namesKept : NamesKept State.reset where
  oneBay b o bike h := by rw [reset_bay] at h; simp [Bay.names, blankBay] at h

theorem blankBay_tied : blankBay.Tied := by
  constructor <;> simp [blankBay, BayState.lamp]

theorem reset_requestsTied : RequestsTied State.reset where
  bays b := by rw [reset_bay]; exact blankBay_tied
  queued _ m := absurd m List.not_mem_nil
  queueOne := List.Pairwise.nil
  stands b h := by rw [reset_bay] at h; cases h
  driving c p h := by rw [reset_pulse] at h; cases h
  driven b h := by rw [reset_bay] at h; cases h
  oneBay c _ p _ h := by rw [reset_pulse] at h; cases h
  shorted c p h := by rw [reset_pulse] at h; cases h

/-- Settles O3: each invariant holds of the empty station that the reset leaves. -/
theorem resetMeetsTheInvariants : Obligations.ResetMeetsTheInvariants :=
  ⟨reset_journalKept, reset_listsKept, reset_rangesKept, reset_rentalsKept, reset_driveKept, reset_spentKept,
    reset_namesKept, reset_requestsTied, reset_requestsTied.lampsFollow⟩

end Sys2Proof.Machine
end

section
/-! Every command and every step keeps the drive bounds and the agreement of bays, queue and channels (O7). -/

namespace Sys2Proof.Machine

/-! ### A stopped part -/

theorem expire_stopped (running : Bay → Option Nat) (b : BayIx) (act : State → State) (s : State)
    (h : s.running = false) : expire running b act s = s := whenRunning_stopped s _ h

theorem pulseEvent_stopped (c : Fin 4) (act : Pulse → State → State) (s : State) (h : s.running = false) :
    pulseEvent c act s = s := whenRunning_stopped s _ h

/-- A stopped part ignores every command but those of the supplies, of RESET, of the station clock and of the analog scan
(R175, R207). -/
theorem exec_stopped (i : Instr) (s : State) (h : s.running = false) (hi : reachesStoppedPart i = false) :
    exec i s = .next s := by
  cases i with
  | resetAssert | resetRelease | mainPowerLoss | mainPowerReturn | backupSupplyLoss | clockSecond | minuteEvent
  | currentConversion | batteryConversion => cases hi
  | reject body check => simp only [exec, execReject, h]; rfl
  | byteReceived x => simp only [exec, execByteReceived, h]; rfl
  | busyFrameDrop | interByteGapTimeout | lineError | replyComplete | senseScan | senseEvent | grant | bandEvaluation =>
    exact congrArg Host.Outcome.next (whenRunning_stopped s _ h)
  | takeWindowExpiry | tagWindowExpiry | unlatchDeadlineExpiry | retryDelayExpiry | pendingTagExpiry | lampPhase =>
    exact congrArg Host.Outcome.next (expire_stopped _ _ _ s h)
  | connectEnd | deadtimeEnd | kickEnd | stall | travelLimit | short | brakeEnd | coastEnd =>
    exact congrArg Host.Outcome.next (pulseEvent_stopped _ _ s h)
  | _ => exact congrArg Host.Outcome.next (takeRequest_stopped _ _ s h)

/-! ### What a command keeps -/

/-- Bays, queue and channels agree while main power is present, and the lamps follow in any case (R12, R24). -/
def Agreed (s : State) : Prop := (s.mainPower = true → RequestsTied s) ∧ LampsFollow s

/-- `t` keeps of `s` what O7 says that a step keeps. -/
structure Keeps (s t : State) : Prop where
  drive  : DriveKept s → DriveKept t
  agreed : Agreed s → Agreed t

namespace Keeps

theorem refl (s : State) : Keeps s s := ⟨id, id⟩

theorem trans {s t u : State} (h : Keeps s t) (k : Keeps t u) : Keeps s u :=
  ⟨fun d => k.drive (h.drive d), fun a => k.agreed (h.agreed a)⟩

theorem of_kept {s t : State} (h : s.mainPower = true) (k : Kept s t) : Keeps s t :=
  ⟨k.drive, fun a => ⟨fun _ => k.tied (a.1 h), (k.tied (a.1 h)).lampsFollow⟩⟩

/-- Nothing that the bounds and the agreement read has changed. -/
theorem of_same {s t : State} (hm : t.mainPower = s.mainPower) (hb : t.bays = s.bays) (hq : t.queue = s.queue)
    (hn : t.nextOrder = s.nextOrder) (hc : t.channels = s.channels) (hl : t.latchProfile = s.latchProfile)
    (hu : t.unlatchProfile = s.unlatchProfile) (hx : t.chain = s.chain) : Keeps s t where
  drive := (Kept.of_same hb hq hn hc hl hu hx).drive
  agreed h := ⟨fun p => (h.1 (hm ▸ p)).of_fields hb hq hc, fun b => by simpa only [State.bay, hb] using h.2 b⟩

theorem running {s : State} (h : s.running = true) : s.mainPower = true := by
  simp only [State.running, Bool.and_eq_true] at h
  exact h.1

theorem whenRunning {s : State} {act : State → State} (k : Kept s (act s)) : Keeps s (whenRunning s act) := by
  unfold Machine.whenRunning
  split
  · rename_i h; exact of_kept (running h) k
  · exact refl s

theorem takeRequest {kind : Byte} {act : State → State × List Byte} {s : State} (k : ∀ t, Kept t (act t).1) :
    Keeps s (takeRequest kind act s) := by
  refine whenRunning ?_
  split
  · exact .of_same rfl rfl rfl rfl rfl rfl rfl
  · exact (Kept.of_same rfl rfl rfl rfl rfl rfl rfl : Kept s { s with rx := .hunt }).trans
      ((k _).trans (.of_same rfl rfl rfl rfl rfl rfl rfl))

theorem expire {running : Bay → Option Nat} {b : BayIx} {act : State → State} {s : State}
    (k : ∀ n, running (s.bay b) = some n → Kept s (act s)) : Keeps s (expire running b act s) := by
  refine whenRunning ?_
  split
  · rename_i h
    obtain ⟨n, e, -⟩ := (timeUp_iff _ _).mp h
    exact k n e
  · exact .refl s

theorem pulseEvent {c : Fin 4} {act : Pulse → State → State} {s : State}
    (k : ∀ p, s.pulse? c = some p → Kept s (act p s)) : Keeps s (pulseEvent c act s) := by
  refine whenRunning ?_
  split
  · rename_i p h; exact k p h
  · exact .refl s

end Keeps

/-! ### The requests -/

theorem kept_atBay (n : Byte) (act : BayIx → State → State × List Byte) (s : State)
    (k : ∀ b, Kept s (act b s).1) : Kept s (atBay n act s).1 := by
  unfold atBay
  split
  · exact k _
  · exact .refl s

/-- The last checks accept at the bay they were given. -/
theorem admitRecords_bay {b : BayIx} {t : Token} {p i f} {s : State} {a : Acceptance}
    (h : admitRecords b t p i f s = .accepted a) : a.bay = b := by
  unfold admitRecords at h
  simp only at h
  repeat' split at h
  all_goals cases h
  rfl

theorem admitBike_rentable {b : BayIx} {t : Token} {p} {s : State} {a : Acceptance}
    (h : admitBike b t p s = .accepted a) : (s.bay a.bay).rentable = true := by
  unfold admitBike at h
  repeat' split at h
  all_goals try cases h
  rename_i rentable _ _
  rw [admitRecords_bay h]
  simpa using rentable

/-- A PRESENT is accepted at a rentable bay only (R18, R68). -/
theorem admission_rentable {n : Byte} {t : Token} {s : State} {a : Acceptance} (h : admission n t s = .accepted a) :
    (s.bay a.bay).rentable = true := by
  unfold admission admitToken at h
  repeat' split at h
  all_goals try cases h
  exact admitBike_rentable h

theorem Bay.rentable_docked {y : Bay} (h : y.rentable = true) : y.state = .docked := by
  simp only [Bay.rentable, Bool.and_eq_true, decide_eq_true_eq] at h
  exact h.1.1.1.1

theorem kept_present (n : Byte) (t : Token) (s : State) : Kept s (presentToken n t s).1 := by
  unfold presentToken
  split
  · exact .refl s
  · rename_i a h
    refine .of_work (.acceptRental a t s) fun P k => ?_
    have docked := Bay.rentable_docked (admission_rentable h)
    refine TiedBut.takeRelease ?_ ?_ _ (by simp)
    · unfold holdSpent
      split <;> exact k.of_tie rfl fun _ => rfl
    · unfold holdSpent
      split <;> exact docked

theorem kept_flush (s : State) : Kept s (flush s) := .of_work (.flush s) fun _ k => k.flush

theorem kept_rentalClose (n : Nat) (s : State) : Kept s (rentalClose n s).1 := by
  unfold rentalClose
  split
  · exact .refl s
  · split
    · rename_i k r _
      exact (Kept.of_same (s := s) (t := s.setRental k none) rfl rfl rfl rfl rfl rfl rfl).trans (kept_flush (s.setRental k none))
    · exact .refl s

theorem kept_journalRelease (n : Nat) (s : State) : Kept s (journalRelease n s).1 := by
  unfold journalRelease
  split
  · exact .refl s
  · split
    · exact .refl s
    · exact (Kept.of_same (s := s) (t := dropRecords n s) rfl rfl rfl rfl rfl rfl rfl).trans (kept_flush (dropRecords n s))

theorem kept_bikeTag (n : Byte) (bike : Nat) (cls : Byte) (pct : Nat) (s : State) : Kept s (bikeTag n bike cls pct s).1 := by
  unfold bikeTag
  split
  · split
    · exact .refl s
    · exact .of_work (.tagBay _ _ s) fun _ k => k.tagBay _
  · exact .refl s

/-- A clamped profile lies in its ranges (R147, R149). -/
theorem clampProfile_inRange (p : Profile) : (clampProfile p).inRange := by
  unfold clampProfile Profile.inRange clamp
  simp only
  omega

theorem kept_profileSet (n : Byte) (p : Profile) (s : State) : Kept s (profileSet n p s).1 := by
  unfold profileSet
  split
  · rename_i x _
    refine ⟨fun k => ?_, fun k => ?_⟩
    · cases x with
      | latch => exact { k with latch := clampProfile_inRange p }
      | unlatch => exact { k with unlatch := clampProfile_inRange p }
    · cases x <;> exact k.of_fields rfl rfl rfl
  · exact .refl s

/-- A channel that rests and goes on resting changes nothing that the agreement reads. -/
theorem kept_rest (c : Fin 4) (x : Channel) (s : State) (hs : s.pulse? c = none) (hx : x.pulse? = none)
    (h1 : x.stall ≤ (s.channels[c]).stall) (h2 : x.short ≤ (s.channels[c]).short) : Kept s (s.setChannel c x) := by
  have same : (s.setChannel c x).pulse? = s.pulse? := by
    funext d
    by_cases e : d = c
    · rw [e, State.setChannel_pulse_self, hx, hs]
    · exact State.setChannel_pulse_ne s c d x e
  refine ⟨fun k => k.rest c x ⟨h1.trans (k.counts c).1, h2.trans (k.counts c).2⟩ hx, fun k => ?_⟩
  exact k.of_claims (fun _ => rfl) rfl (fun d => by rw [same]) (by rw [same]; exact k.shorted)

theorem kept_channelEnable (n : Byte) (s : State) : Kept s (channelEnable n s).1 := by
  unfold channelEnable
  split
  · rename_i c _
    simp only
    unfold enableChannel
    split
    · rename_i h
      exact (kept_rest c { s.channels[c] with mode := .idle, short := 0 } s (by rw [State.pulse?_eq, Channel.pulse?, h]) rfl
        (Nat.le_refl _) (Nat.zero_le _)).trans (.arbitrate _)
    · exact .refl s
  · exact .refl s

/-- Every request keeps the bounds and the agreement; a command that is no request changes nothing in a frame. -/
theorem keeps_handRequest {i : Instr} {s t : State} (h : handRequest i s = .next t) : Keeps s t := by
  cases i
  all_goals (cases h)
  case hello | status | restart | getTime | settingsGet | tariffGet | denyLookup | rentalQuery | profileGet | supplyGet =>
    exact .takeRequest fun t => .refl t
  case changesGet | settingsSet | denyClear => exact .takeRequest fun t => .of_same rfl rfl rfl rfl rfl rfl rfl
  case setTime =>
    refine .takeRequest fun t => ?_
    unfold setTime
    split <;> exact .of_same rfl rfl rfl rfl rfl rfl rfl
  case keyLoad | keyDrop | tariffSet =>
    refine .takeRequest fun t => ?_
    split <;> exact .of_same rfl rfl rfl rfl rfl rfl rfl
  case denyAdd =>
    refine .takeRequest fun t => ?_
    unfold denyAdd
    repeat' split
    all_goals exact .of_same rfl rfl rfl rfl rfl rfl rfl
  case denyRemove =>
    refine .takeRequest fun t => ?_
    unfold denyRemove
    repeat' split
    all_goals exact .of_same rfl rfl rfl rfl rfl rfl rfl
  case supplySet =>
    refine .takeRequest fun t => ?_
    unfold supplySet
    split <;> exact .of_same rfl rfl rfl rfl rfl rfl rfl
  case journalRead =>
    refine .takeRequest fun t => ?_
    unfold journalRead
    split <;> exact .of_same rfl rfl rfl rfl rfl rfl rfl
  case present n x => exact .takeRequest (kept_present n x)
  case bikeTag => exact .takeRequest (kept_bikeTag _ _ _ _)
  case rentalClose => exact .takeRequest (kept_rentalClose _)
  case journalRelease => exact .takeRequest (kept_journalRelease _)
  case profileSet => exact .takeRequest (kept_profileSet _ _)
  case channelEnable => exact .takeRequest (kept_channelEnable _)
  case bayQuery => exact .takeRequest fun t => kept_atBay _ _ t fun b => .refl t
  case bayService n flag =>
    refine .takeRequest fun t => kept_atBay _ _ t fun b => ?_
    split
    · exact .of_work (.serviceOff b t) fun _ k => k.serviceOff
    · exact .of_work (.serviceOn b t) fun _ k => k.serviceOn
  case bayClear => exact .takeRequest fun t => kept_atBay _ _ t fun b => .of_work (.clearBay b t) fun _ k => k.clearBay
  case staffUnlatch =>
    exact .takeRequest fun t => kept_atBay _ _ t fun b => .of_work (.staffUnlatch b t) fun _ k => k.staffUnlatch
  all_goals exact .refl s

theorem keeps_takeFrame {body : List Byte} {check : Byte} {s t : State} (h : takeFrame body check s = .next t) :
    Keeps s t := by
  unfold takeFrame at h
  split at h
  · cases h; exact .of_same rfl rfl rfl rfl rfl rfl rfl rfl
  · split at h
    · cases h; exact .of_same rfl rfl rfl rfl rfl rfl rfl rfl
    · exact keeps_handRequest h
    · cases h; exact .of_same rfl rfl rfl rfl rfl rfl rfl rfl

theorem keeps_receiveByte {x : Byte} {s t : State} (h : receiveByte x s = .next t) : Keeps s t := by
  unfold receiveByte at h
  split at h
  case h_4 => exact keeps_takeFrame h
  all_goals cases h; exact .of_same rfl rfl rfl rfl rfl rfl rfl rfl

/-! ### Restarts -/

/-- No channel drives. -/
def noPulses : Pulses := fun _ => none

theorem replicate_idle_pulse (s : State) (h : s.channels = Vector.replicate 4 idleChannel) : s.pulse? = noPulses := by
  funext c
  simp [State.pulse?_eq, h, Channel.pulse?, idleChannel, noPulses]

/-- With the queue empty and no channel driving, every bay is open; only its lamp counts. -/
theorem TiedBut.all_open {s : State} (hq : s.queue = []) (hl : LampsFollow s) : TiedBut allBays noPulses s where
  agrees o m := absurd (List.mem_finRange o) m
  unqueued q m := by rw [hq] at m; cases m
  unheld c p h := by cases h
  lamps o _ := hl o
  queueOne := by rw [hq]; exact List.Pairwise.nil

/-- Re-derivation of the open bays in order closes them all (R30, R31). -/
theorem TiedBut.rederive_each {l : List BayIx} {P : Pulses} {s : State} (h : TiedBut l P s) (nd : l.Nodup) :
    TiedBut [] P (l.foldl (fun t b => Machine.rederive b t) s) := by
  induction l generalizing s with
  | nil => exact h
  | cons b rest ih =>
    rw [List.nodup_cons] at nd
    exact ih (h.rederive nd.1) nd.2

theorem BayWork.rederiveAll (s : State) : BayWork s (rederiveAll s) := by
  have each : ∀ (l : List BayIx) s, BayWork s (l.foldl (fun t b => Machine.rederive b t) s) := by
    intro l
    induction l with
    | nil => exact refl
    | cons b rest ih => exact fun s => (rederive b s).trans (ih _)
  exact each _ s

@[simp] theorem State.mapBays_bay (s : State) (f : BayIx → Bay → Bay) (b : BayIx) : (s.mapBays f).bay b = f b (s.bay b) := by
  simp [State.mapBays, State.bay]

@[simp] theorem State.mapBays_queue (s : State) (f : BayIx → Bay → Bay) : (s.mapBays f).queue = s.queue := by
  simp only [State.mapBays]

@[simp] theorem State.mapBays_nextOrder (s : State) (f : BayIx → Bay → Bay) : (s.mapBays f).nextOrder = s.nextOrder := by
  simp only [State.mapBays]


theorem AtBays.mapBays (s : State) (f : BayIx → Bay → Bay) : AtBays s (s.mapBays f) := by
  unfold AtBays State.mapBays
  rfl

@[simp] theorem seedScan_bay (w : SenseWord) (s : State) (b : BayIx) : (seedScan w s).bay b = (s.bay b).seed w b := by
  rw [seedScan, State.mapBays_bay]

@[simp] theorem seedScan_queue (w : SenseWord) (s : State) : (seedScan w s).queue = s.queue := by
  rw [seedScan, State.mapBays_queue]

theorem BayWork.seedScan (w : SenseWord) (s : State) : BayWork s (seedScan w s) := by
  unfold Machine.seedScan
  exact .still (.mapBays s _) (State.mapBays_queue s _) (State.mapBays_nextOrder s _)

/-- With the queue empty and no channel driving, a seeding scan and the re-derivation of every bay tie all (R3, R17). -/
theorem rederiveAll_seedScan_tied (w : SenseWord) (s : State) (hq : s.queue = []) (hl : LampsFollow s) :
    TiedBut [] noPulses (rederiveAll (seedScan w s)) := by
  have opened : TiedBut allBays noPulses (seedScan w s) :=
    (TiedBut.all_open hq hl).of_tie (seedScan_queue w s) fun o => by rw [seedScan_bay]; rfl
  exact opened.rederive_each (List.nodup_finRange 32)

theorem rederiveAll_seedScan_channels (w : SenseWord) (s : State) : (rederiveAll (seedScan w s)).channels = s.channels :=
  ((BayWork.seedScan w s).atBays.trans (BayWork.rederiveAll _).atBays).channels

/-- With no channel driving, what ties the bays to the queue ties all. -/
theorem requestsTied_of_idle {r t : State} (h : TiedBut [] noPulses r) (hc : r.channels = Vector.replicate 4 idleChannel)
    (hb : t.bays = r.bays) (ht : t.queue = r.queue) (hx : t.channels = r.channels) : RequestsTied t := by
  rw [requestsTied_iff, replicate_idle_pulse t (hx.trans hc)]
  refine ⟨h.of_tie ht fun b => ?_, fun c d p q k => (by cases k), fun c p k => (by cases k)⟩
  simp only [State.bay, hb]

/-- Idle channels on an empty queue keep the drive bounds. -/
theorem DriveKept.idle {s t : State} (h : DriveKept s) (hl : t.latchProfile = s.latchProfile)
    (hu : t.unlatchProfile = s.unlatchProfile) (hc : t.channels = Vector.replicate 4 idleChannel) (hx : t.chain = s.chain)
    (hq : t.queue = []) : DriveKept t where
  latch := by rw [hl]; exact h.latch
  unlatch := by rw [hu]; exact h.unlatch
  oneBay c _ p _ k := by rw [replicate_idle_pulse t hc] at k; cases k
  profiles c p k := by rw [replicate_idle_pulse t hc] at k; cases k
  counts c := by simp [hc, idleChannel]
  ordered := by rw [hq]; exact List.Pairwise.nil
  below q m := by rw [hq] at m; cases m
  carried c p k := by rw [replicate_idle_pulse t hc] at k; cases k
  oneChain := by rw [hx]; exact h.oneChain

@[simp] theorem restartDiscards_bay (s : State) (b : BayIx) : (restartDiscards s).bay b = (s.bay b).restarted := by
  simp only [restartDiscards, State.mapBays, State.bay, Fin.getElem_fin, Vector.getElem_ofFn]

@[simp] theorem restartDiscards_queue (s : State) : (restartDiscards s).queue = [] := by simp only [restartDiscards]

@[simp] theorem restartDiscards_channels (s : State) :
    (restartDiscards s).channels = Vector.replicate 4 idleChannel := by simp only [restartDiscards]

theorem restartDiscards_drive {s : State} (h : DriveKept s) : DriveKept (restartDiscards s) :=
  h.idle (by simp only [restartDiscards, State.mapBays]) (by simp only [restartDiscards, State.mapBays])
    (restartDiscards_channels s) (by simp only [restartDiscards, State.mapBays]) (restartDiscards_queue s)

/-- A warm restart up to the change set and the items that start again. -/
def restartedBays (w : SenseWord) (s : State) : State := rederiveAll (seedScan w (flush (restartDiscards s)))

theorem warmRestart_eq (k : RestartKind) (w : SenseWord) (s : State) :
    warmRestart k w s = { restartedBays w s with
      cursor := 0, samples := [], rejections := 0, band := .critical, rx := .hunt, reply := none
      changes := restartChanges k } := by
  simp only [warmRestart, restartedBays]

/-- After a warm restart bays, queue and channels agree, if the lamps followed before it (R31). -/
theorem warmRestart_tied (k : RestartKind) (w : SenseWord) (s : State) (h : LampsFollow s) :
    RequestsTied (warmRestart k w s) := by
  have lamps : LampsFollow (flush (restartDiscards s)) := fun b => by
    obtain ⟨h1, -, -, -, h5⟩ := (Bay.tie_eq_iff _ _).mp (flush_tie b (restartDiscards s))
    rw [h1, h5, restartDiscards_bay]
    exact h b
  have idle : (flush (restartDiscards s)).channels = Vector.replicate 4 idleChannel := by
    rw [(AtBays.flush (restartDiscards s)).channels, restartDiscards_channels]
  have tied : TiedBut [] noPulses (restartedBays w s) :=
    rederiveAll_seedScan_tied w _ (by rw [flush_queue, restartDiscards_queue]) lamps
  have rest : (restartedBays w s).channels = Vector.replicate 4 idleChannel :=
    (rederiveAll_seedScan_channels w _).trans idle
  rw [warmRestart_eq]
  generalize restartedBays w s = r at tied rest
  exact requestsTied_of_idle tied rest rfl rfl rfl

theorem warmRestart_drive (k : RestartKind) (w : SenseWord) (s : State) (h : DriveKept s) :
    DriveKept (warmRestart k w s) := by
  have work := (BayWork.flush (restartDiscards s)).trans ((BayWork.seedScan w _).trans (BayWork.rederiveAll _))
  have d : DriveKept (restartedBays w s) := (restartDiscards_drive h).of_work work
  rw [warmRestart_eq]
  generalize restartedBays w s = t at d
  exact Kept.drive (s := t) (.of_same rfl rfl rfl rfl rfl rfl rfl) d

theorem warmRestart_keeps (k : RestartKind) (w : SenseWord) (s : State) : Keeps s (warmRestart k w s) where
  drive := warmRestart_drive k w s
  agreed h := ⟨fun _ => warmRestart_tied k w s h.2, (warmRestart_tied k w s h.2).lampsFollow⟩

/-- What a cold reset starts from: the reset state with what the supplies, the scanner and the host's side leave. -/
def coldBase (s : State) : State :=
  { State.reset with
    mainPower := s.mainPower, resetHeld := s.resetHeld, scanSlot := s.scanSlot, currents := s.currents
    battery := s.battery, freeIndex := s.freeIndex, pending := s.pending }

theorem coldReset_eq (w : SenseWord) (s : State) :
    coldReset w s = { rederiveAll (seedScan w (coldBase s)) with changes := emptyChanges } := by
  simp only [coldReset, coldBase]

theorem coldBase_kept (s : State) : Kept State.reset (coldBase s) := by
  unfold coldBase
  generalize State.reset = r
  exact .of_same rfl rfl rfl rfl rfl rfl rfl

theorem coldBase_queue (s : State) : (coldBase s).queue = [] := by simp only [coldBase, State.reset]

theorem coldBase_channels (s : State) : (coldBase s).channels = Vector.replicate 4 idleChannel := by
  simp only [coldBase, State.reset]

/-- A cold reset leaves the bounds and the agreement whatever stood before. -/
theorem coldReset_kept (w : SenseWord) (s : State) : DriveKept (coldReset w s) ∧ RequestsTied (coldReset w s) := by
  have work := (BayWork.seedScan w (coldBase s)).trans (BayWork.rederiveAll _)
  have lamps : LampsFollow (coldBase s) := ((coldBase_kept s).tied reset_requestsTied).lampsFollow
  have drive : DriveKept (rederiveAll (seedScan w (coldBase s))) := ((coldBase_kept s).drive reset_driveKept).of_work work
  have tied := rederiveAll_seedScan_tied w _ (coldBase_queue s) lamps
  have rest := (rederiveAll_seedScan_channels w (coldBase s)).trans (coldBase_channels s)
  rw [coldReset_eq]
  generalize rederiveAll (seedScan w (coldBase s)) = t at drive tied rest
  exact ⟨Kept.drive (s := t) (.of_same rfl rfl rfl rfl rfl rfl rfl) drive, requestsTied_of_idle tied rest rfl rfl rfl⟩

theorem coldReset_keeps (w : SenseWord) (s t : State) : Keeps s (coldReset w t) :=
  ⟨fun _ => (coldReset_kept w t).1, fun _ => ⟨fun _ => (coldReset_kept w t).2, (coldReset_kept w t).2.lampsFollow⟩⟩

theorem loseMainPower_bay (s : State) (b : BayIx) : (loseMainPower s).bay b = (s.bay b).backedUp := by
  simp only [loseMainPower, State.mapBays, State.bay, Fin.getElem_fin, Vector.getElem_ofFn, unconvertAll]

theorem loseMainPower_drive {s : State} (h : DriveKept s) : DriveKept (loseMainPower s) := by
  have idle : (loseMainPower s).channels = Vector.replicate 4 idleChannel := by simp only [loseMainPower]
  have none : (loseMainPower s).queue = [] := by simp only [loseMainPower]
  have dark : (loseMainPower s).chain = Vector.replicate 32 darkSlot := by simp only [loseMainPower]
  have rest : (loseMainPower s).pulse? = noPulses := replicate_idle_pulse _ idle
  have latch : (loseMainPower s).latchProfile = s.latchProfile := by simp only [loseMainPower, State.mapBays, unconvertAll]
  have unlatch : (loseMainPower s).unlatchProfile = s.unlatchProfile := by
    simp only [loseMainPower, State.mapBays, unconvertAll]
  generalize loseMainPower s = t at *
  exact {
    latch := latch ▸ h.latch, unlatch := unlatch ▸ h.unlatch
    oneBay := fun c _ p _ k => by rw [rest] at k; cases k
    profiles := fun c p k => by rw [rest] at k; cases k
    counts := fun c => by simp [idle, idleChannel]
    ordered := by rw [none]; exact List.Pairwise.nil
    below := fun q m => by rw [none] at m; cases m
    carried := fun c p k => by rw [rest] at k; cases k
    oneChain := fun b o c k => by simp [dark, darkSlot] at k }

theorem loseMainPower_keeps (s : State) : Keeps s (loseMainPower s) where
  drive := loseMainPower_drive
  agreed _ := ⟨fun k => (by simp only [loseMainPower] at k; cases k), fun b => by rw [loseMainPower_bay]; rfl⟩

theorem loseBackup_keeps (s : State) : Keeps s (loseBackup s) := by
  have same : Kept State.reset (loseBackup s) := by
    unfold loseBackup
    generalize State.reset = r
    exact .of_same rfl rfl rfl rfl rfl rfl rfl
  have r := same.tied reset_requestsTied
  exact ⟨fun _ => same.drive reset_driveKept, fun _ => ⟨fun _ => r, r.lampsFollow⟩⟩

/-! ### The events -/

theorem scanAll_bay (w : SenseWord) (s : State) (b : BayIx) : (scanAll w s).bay b = (s.bay b).scanned w b := by
  simp [scanAll, State.bay]

theorem kept_scanAll (w : SenseWord) (s : State) : Kept s (scanAll w s) := by
  refine .of_work (.still ?_ ?_ ?_) fun _ k => k.of_tie ?_ fun b => by rw [scanAll_bay]; rfl
  · unfold AtBays scanAll; rfl
  all_goals simp only [scanAll]

theorem Bay.accept_tie (y : Bay) : y.accept.tie = y.tie := by
  unfold Bay.accept
  simp only
  split <;> split <;> rfl

theorem kept_senseEvent (b : BayIx) (s : State) : Kept s (senseEvent b s) := by
  unfold senseEvent
  simp only
  have accept : Kept s (s.modBay b Bay.accept) := .of_work (.modBay s b _) fun _ k => k.modBay_tie _ (Bay.accept_tie _)
  generalize ha : (if (s.bay b).latchDue = true ∧ ((s.modBay b Bay.accept).bay b).latch = .closed
    then latchClosedEndsDrive b (s.modBay b Bay.accept) else s.modBay b Bay.accept) = t
  have ended : Kept s t := by
    rw [← ha]
    split
    · exact accept.trans (.latchClosedEndsDrive b _)
    · exact accept
  generalize hu : (if (s.bay b).presenceDue = true then handlePresence b t else t) = u
  have handled : Kept s u := by
    rw [← hu]
    split
    · exact ended.trans (.of_work (.handlePresence b t) fun _ k => k.handlePresence)
    · exact ended
  split
  · exact handled.trans (.of_work (.handleLatch b u) fun _ k => k.handleLatch)
  · exact handled

theorem keeps_convert {slot : Fin 5} {take : State → State} {s : State} (k : ∀ t, Keeps t (take t)) :
    Keeps s (convert slot take s) := by
  unfold convert
  split
  · exact (Keeps.of_same (s := s) (t := { s with scanSlot := s.scanSlot + 1 }) rfl rfl rfl rfl rfl rfl rfl rfl).trans (k _)
  · exact .refl s

theorem minuteEvent_same (s : State) : Keeps s (minuteEvent s) := by
  unfold minuteEvent
  simp only
  split <;> exact .of_same rfl rfl rfl rfl rfl rfl rfl rfl

theorem clockSecond_same (s : State) : Keeps s (clockSecond s) := by
  unfold clockSecond
  split
  · exact minuteEvent_same s
  · exact .of_same rfl rfl rfl rfl rfl rfl rfl rfl

/-- The part as main power finds it on its return, before its restart. -/
def poweredUp (s : State) : State :=
  { s with mainPower := true, ms := 0, msRemainder := 0, refreshDue := false, evaluationDue := true, scanSlot := 0 }

theorem powerReturn_absent (w : SenseWord) (s : State) (h : s.mainPower = false) :
    powerReturn w s = if s.backupValid ∧ ¬ s.resetHeld then warmRestart .resume w (poweredUp s)
      else coldReset w (poweredUp s) := by
  simp only [powerReturn, h, poweredUp, Bool.false_eq_true, if_false]

theorem powerReturn_present (w : SenseWord) (s : State) (h : s.mainPower = true) : powerReturn w s = s := by
  simp only [powerReturn, h, if_true]

theorem powerReturn_keeps (w : SenseWord) (s : State) : Keeps s (powerReturn w s) := by
  cases h : s.mainPower with
  | true => rw [powerReturn_present w s h]; exact .refl s
  | false =>
    have same : Kept s (poweredUp s) := .of_same rfl rfl rfl rfl rfl rfl rfl
    have lamps : LampsFollow s → LampsFollow (poweredUp s) := id
    rw [powerReturn_absent w s h]
    split
    · exact ⟨fun d => warmRestart_drive _ w _ (same.drive d),
        fun a => ⟨fun _ => warmRestart_tied _ w _ (lamps a.2), (warmRestart_tied _ w _ (lamps a.2)).lampsFollow⟩⟩
    · exact coldReset_keeps w s _

end Sys2Proof.Machine
end

section
/-! O7: the dispatch and the step keep the drive bounds and the agreement. -/

namespace Sys2Proof.Machine

/-! ### The expiries and the phases of a lamp -/

theorem kept_takeExpired {b : BayIx} {s : State} {n : Nat} (h : (s.bay b).takeEnd = some n) :
    Kept s (takeExpired b s) := by
  have released : (s.bay b).state = .released := by
    by_contra k
    simp [Bay.takeEnd, k] at h
  exact .of_work (.takeExpired b s) fun _ k => k.takeExpired released

theorem kept_retryExpired {b : BayIx} {s : State} {n : Nat} (h : (s.bay b).retryEnd = some n) :
    Kept s (retryExpired b s) := by
  have waiting : (s.bay b).driveStage = .retryWait := by
    by_contra k
    simp [Bay.retryEnd, k] at h
  exact .of_work (.retryExpired b s) fun _ k => k.retryExpired waiting

theorem kept_deadlineExpired (b : BayIx) (s : State) : Kept s (deadlineExpired b s) :=
  .of_work (.deadlineExpired b s) fun _ k => k.deadlineExpired

theorem kept_tagExpired (b : BayIx) (s : State) : Kept s (tagExpired b s) :=
  .of_work (.tagExpired b s) fun _ k => by
    unfold tagExpired
    exact (k.modBay_tie _ rfl).raiseAlarm _

/-- A write at one bay of nothing that the agreement reads. -/
theorem kept_modBay (b : BayIx) (f : Bay → Bay) (s : State) (h : (f (s.bay b)).tie = (s.bay b).tie) :
    Kept s (s.modBay b f) := .of_work (.modBay s b f) fun _ k => k.modBay_tie f h

/-! ### Reception, RESET and the supplies -/

theorem keeps_rx (x : Rx) (s : State) : Keeps s { s with rx := x } := .of_same rfl rfl rfl rfl rfl rfl rfl rfl

theorem keeps_reject {body : List Byte} {check : Byte} {s t : State} (h : execReject body check s = .next t) :
    Keeps s t := by
  unfold execReject at h
  split at h
  · split at h
    · exact keeps_takeFrame h
    · cases h; exact keeps_rx _ s
  · cases h; exact .refl s

theorem keeps_byteReceived {x : Byte} {s t : State} (h : execByteReceived x s = .next t) : Keeps s t := by
  unfold execByteReceived at h
  split at h
  · exact keeps_receiveByte h
  · cases h; exact .refl s

theorem Keeps.whenRunning_of {s : State} {act : State → State} (k : Keeps s (act s)) : Keeps s (Machine.whenRunning s act) := by
  unfold Machine.whenRunning
  split
  · exact k
  · exact .refl s

theorem keeps_replyComplete (w : SenseWord) {s t : State} (h : execReplyComplete w s = .next t) : Keeps s t := by
  cases h
  refine .whenRunning_of ?_
  split
  · simp only
    split
    · exact (Keeps.of_same (s := s) (t := { s with reply := none }) rfl rfl rfl rfl rfl rfl rfl rfl).trans
        (warmRestart_keeps _ w _)
    · exact .of_same rfl rfl rfl rfl rfl rfl rfl rfl
  · exact .refl s

theorem resetRelease_keeps (w : SenseWord) (s : State) : Keeps s (resetRelease w s) := by
  unfold resetRelease
  split
  · simp only
    split
    · exact coldReset_keeps w s _
    · exact .of_same rfl rfl rfl rfl rfl rfl rfl rfl
  · exact .refl s

/-! ### The conversions -/

theorem keeps_takeCurrent (c : Fin 4) (mA : Nat) (s : State) : Keeps s (takeCurrent c mA s) :=
  keeps_convert fun t => (Keeps.of_same rfl rfl rfl rfl rfl rfl rfl rfl :
    Keeps t { t with currents := t.currents.set c.val mA c.isLt }).trans (.whenRunning (.countScan c mA _))

theorem judgeSample_same (mV : Nat) (s : State) : Keeps s (judgeSample mV s) := by
  unfold judgeSample
  split <;> exact .of_same rfl rfl rfl rfl rfl rfl rfl rfl

theorem keeps_takeBattery (mV : Nat) (s : State) : Keeps s (takeBattery mV s) :=
  keeps_convert fun t => (Keeps.of_same rfl rfl rfl rfl rfl rfl rfl rfl : Keeps t { t with battery := mV }).trans
    (.whenRunning_of (judgeSample_same mV _))

/-! ### Every command -/

/-- Every command keeps the drive bounds and the agreement. -/
theorem exec_keeps (i : Instr) {s t : State} (h : exec i s = .next t) : Keeps s t := by
  have request : handRequest i s = .next t → Keeps s t := keeps_handRequest
  cases i
  case reject => exact keeps_reject h
  case byteReceived => exact keeps_byteReceived h
  case replyComplete => exact keeps_replyComplete _ h
  case busyFrameDrop | interByteGapTimeout =>
    cases h
    refine .whenRunning_of ?_
    split
    · exact keeps_rx _ s
    · exact .refl s
  case lineError => cases h; exact .whenRunning_of (keeps_rx _ s)
  case resetAssert => cases h; exact .of_same rfl rfl rfl rfl rfl rfl rfl rfl
  case resetRelease => cases h; exact resetRelease_keeps _ s
  case mainPowerLoss =>
    cases h
    split
    · exact loseMainPower_keeps s
    · exact .refl s
  case mainPowerReturn => cases h; exact powerReturn_keeps _ s
  case backupSupplyLoss =>
    cases h
    split
    · exact .refl s
    · exact loseBackup_keeps s
  case senseScan => cases h; exact .whenRunning (kept_scanAll _ s)
  case senseEvent => cases h; exact .whenRunning (kept_senseEvent _ s)
  case takeWindowExpiry => cases h; exact .expire fun _ k => kept_takeExpired k
  case tagWindowExpiry => cases h; exact .expire fun _ _ => kept_tagExpired _ s
  case unlatchDeadlineExpiry => cases h; exact .expire fun _ _ => kept_deadlineExpired _ s
  case retryDelayExpiry => cases h; exact .expire fun _ k => kept_retryExpired k
  case pendingTagExpiry => cases h; exact .expire fun _ _ => kept_modBay _ _ s rfl
  case lampPhase => cases h; exact .expire fun _ _ => kept_modBay _ _ s rfl
  case grant => cases h; exact .whenRunning (.arbitrate s)
  case connectEnd => cases h; exact .pulseEvent fun _ k => .endConnect k
  case deadtimeEnd => cases h; exact .pulseEvent fun _ k => .endDeadtime k
  case kickEnd => cases h; exact .pulseEvent fun _ k => .endKick k
  case stall => cases h; exact .pulseEvent fun _ k => .stallEnds k
  case travelLimit => cases h; exact .pulseEvent fun _ k => .limitEnds k
  case short => cases h; exact .pulseEvent fun _ k => .shortEnds k
  case brakeEnd => cases h; exact .pulseEvent fun _ k => .endBrake k
  case coastEnd => cases h; exact .pulseEvent fun _ k => .endCoast k
  case currentConversion => cases h; exact keeps_takeCurrent _ _ s
  case batteryConversion => cases h; exact keeps_takeBattery _ s
  case bandEvaluation => cases h; exact .whenRunning (.takeEvaluation s)
  case clockSecond =>
    cases h
    split
    · exact clockSecond_same s
    · exact .refl s
  case minuteEvent =>
    cases h
    split
    · exact minuteEvent_same s
    · exact .refl s
  all_goals exact request h

/-! ### The step -/

theorem crystalPeriod_keeps (s : State) : Keeps s (crystalPeriod s) := by
  rw [crystalPeriod_frame]
  exact .of_same rfl rfl rfl rfl rfl rfl rfl rfl

/-- With no command waiting the part keeps the bounds and the agreement: an event is taken up, or a period passes with its
refresh of the select chain. -/
theorem tick_keeps (s : State) : Keeps s (tick s) := by
  rcases tick_cases s with ⟨i, n, -, e⟩ | ⟨-, u, hu, ⟨-, e⟩ | ⟨-, e⟩⟩
  · rw [e]; exact .of_same rfl rfl rfl rfl rfl rfl rfl rfl
  all_goals
    have period : Keeps s u := by
      rw [hu]
      exact (Keeps.whenRunning (.refreshChain s)).trans (crystalPeriod_keeps _)
    rw [e]
    exact period.trans (.of_same rfl rfl rfl rfl rfl rfl rfl rfl)

theorem step_keeps {s t : State} (h : step s = .next t) : Keeps s t := by
  unfold step at h
  split at h
  · cases h; exact tick_keeps s
  · rename_i i rest _
    exact (Keeps.of_same (s := s) (t := { s with pending := rest }) rfl rfl rfl rfl rfl rfl rfl rfl).trans (exec_keeps i h)

/-- Settles O7: `Keeps` holds of every command, by the layer of each operation, and of the passing of a period. -/
theorem stepKeepsTheDriveBounds : Obligations.StepKeepsTheDriveBounds :=
  ⟨fun _ _ h k => (step_keeps k).drive h, fun _ _ h l k => (step_keeps k).agreed ⟨h, l⟩⟩

end Sys2Proof.Machine
end

section
/-! The scan and the requests at a bay: O18, O32, O35, O36, O52. -/

namespace Sys2Proof.Machine

/-! ### The operands of a request at a bay -/

/-- A bay byte out of range names no bay. -/
theorem bayOf?_none {n : Byte} (h : n = 0 ∨ 32 < n.toNat) : bayOf? n = none := by
  rw [bayOf?, dif_neg]
  rcases h with h | h
  · rw [h]; decide
  · omega

theorem bayOf?_some {n : Byte} {b : BayIx} (h : n.toNat = b.val + 1) : bayOf? n = some b := by
  have := b.isLt
  rw [bayOf?, dif_pos (by omega)]
  exact congrArg some (Fin.ext (by simp [h]))

/-- A request at a bay out of range is refused with RANGE. -/
theorem atBay_range {n : Byte} (act : BayIx → State → State × List Byte) (s : State) (h : n = 0 ∨ 32 < n.toNat) :
    atBay n act s = (s, statusOnly .range) := by rw [atBay, bayOf?_none h]

theorem atBay_of {n : Byte} {b : BayIx} (act : BayIx → State → State × List Byte) (s : State) (h : n.toNat = b.val + 1) :
    atBay n act s = act b s := by rw [atBay, bayOf?_some h]

/-- A request at a bay out of range answers RANGE and changes nothing. -/
theorem takeRequest_range (kind n : Byte) (act : BayIx → State → State × List Byte) (s : State) (hs : s.accepting)
    (h : n = 0 ∨ 32 < n.toNat) : takeRequest kind (atBay n act) s = s.answered (kind + 0x80) [1] :=
  takeRequest_answer kind _ s hs _ (atBay_range act _ h)

/-- The state with reception in HUNT, as a request finds it (R191). -/
def State.hunting (s : State) : State := { s with rx := .hunt }

@[simp] theorem State.hunting_bay (s : State) (b : BayIx) : s.hunting.bay b = s.bay b := rfl

/-- A request that leaves `t` and answers `p`. -/
theorem takeRequest_done (kind : Byte) {act : State → State × List Byte} {s t : State} {p : List Byte} (hs : s.accepting)
    (e : act s.hunting = (t, p)) : takeRequest kind act s = { t with reply := some ⟨kind + 0x80, p⟩ } := by
  have e : act { s with rx := .hunt } = (t, p) := e
  rw [takeRequest_accepting kind act s hs, e]

/-- A request at a bay that leaves `t` and answers `p`. -/
theorem takeRequest_atBay (kind : Byte) {n : Byte} {b : BayIx} {act : BayIx → State → State × List Byte} {s t : State}
    {p : List Byte} (hs : s.accepting) (h : n.toNat = b.val + 1) (e : act b s.hunting = (t, p)) :
    takeRequest kind (atBay n act) s = { t with reply := some ⟨kind + 0x80, p⟩ } :=
  takeRequest_done kind hs (by rw [atBay_of act _ h, e])

/-- A request at a bay that answers with the state it finds. -/
theorem takeRequest_atBay_answer (kind : Byte) {n : Byte} {b : BayIx} {act : BayIx → State → State × List Byte} {s : State}
    {p : List Byte} (hs : s.accepting) (h : n.toNat = b.val + 1) (e : act b s.hunting = (s.hunting, p)) :
    takeRequest kind (atBay n act) s = s.answered (kind + 0x80) p := takeRequest_atBay kind hs h e

/-! ### STAFF_UNLATCH -/

/-- The whole effect of an accepted release: the bay takes the link and posts its request. -/
theorem takeRelease_docked (b : BayIx) (l : Link) (s : State) (k : DriveKind) (hs : (s.bay b).state = .docked)
    (hk : ∀ y : Bay, y.state = .unlatching → y.link = l → y.requestKind = some k) :
    takeRelease b l s = { s with
      queue := s.queue ++ [⟨b, k, s.nextOrder⟩], nextOrder := s.nextOrder + 1
      bays := s.bays.set b.val { s.bay b with
        state := .unlatching, link := l, driveStage := .queued, attempts := 0, lastOutcome := .noOutcome
        tagWindow := none, deadline := .running (s.ms + 1000 * s.settings.deadline), lamp := .slow
        lampPhase := if (s.bay b).lamp = .slow then (s.bay b).lampPhase else 0
        lampSince := if (s.bay b).lamp = .slow then (s.bay b).lampSince else s.ms } b.isLt
      changes := { s.changes with bays := s.changes.bays.set b.val { s.changes.bays[b] with state := true } b.isLt } } := by
  unfold takeRelease
  rw [enterUnlatching_modBay b l s k hk]
  simp [State.entered, Bay.changedTo, hs]

theorem staffUnlatch_state (b : BayIx) (s : State) (h : (s.bay b).state ≠ .docked) :
    staffUnlatch b s = (s, statusOnly .state) := if_pos h

theorem staffUnlatch_full (b : BayIx) (s : State) (h : (s.bay b).state = .docked) (c : 248 ≤ s.committedSum) :
    staffUnlatch b s = (s, statusOnly .full) := by
  rw [← committed_eq_sum] at c
  exact (if_neg (not_not.mpr h)).trans (if_pos (Nat.lt_succ_of_le c))

theorem staffUnlatch_accepted (b : BayIx) (s : State) (h : (s.bay b).state = .docked) (c : s.committedSum < 248) :
    staffUnlatch b s = (takeRelease b .staff s, statusOnly .ok) := by
  rw [← committed_eq_sum] at c
  exact (if_neg (not_not.mpr h)).trans (if_neg (Nat.not_lt.mpr c))

/-- Settles O36: the two refusals, and `takeRelease_docked` for the acceptance. -/
theorem staffUnlatchOutcomes : Obligations.StaffUnlatchOutcomes := by
  intro s n hs
  refine ⟨fun h => congrArg Host.Outcome.next (takeRequest_range 0x43 n staffUnlatch s hs h), fun b hb =>
    ⟨fun h => ?_, fun h c => ?_, fun h c => ⟨_, rfl, ?_⟩⟩⟩
  · exact congrArg Host.Outcome.next (takeRequest_atBay_answer 0x43 hs hb (staffUnlatch_state b s.hunting h))
  · exact congrArg Host.Outcome.next (takeRequest_atBay_answer 0x43 hs hb (staffUnlatch_full b s.hunting h c))
  · rw [takeRequest_atBay 0x43 hs hb (staffUnlatch_accepted b s.hunting h c),
      takeRelease_docked b .staff s.hunting .unlatchStaff h fun y h1 h2 => by simp [Bay.requestKind, h1, h2]]
    rfl

/-! ### BAY_QUERY -/

/-- The presence byte of an optional field. -/
def presenceByte {α : Type} (o : Option α) : Byte := if o.isSome then 1 else 0

/-- The remainder of a timer that may be stopped. -/
def remainder (now : Nat) (e : Option Nat) : Nat := (e.map (· - now)).getD 0

@[simp] theorem remainder_none (now : Nat) : remainder now none = 0 := rfl

theorem identityFields_eq (i : Option Identity) : identityFields i =
    presenceByte i :: (be24 ((i.map (·.bike)).getD 0)
      ++ [(i.map fun x => BitVec.ofNat 8 x.cls.code).getD 0, (i.map fun x => BitVec.ofNat 8 x.battery).getD 0]) := by
  cases i <;> rfl

theorem timerFields_eq (now : Nat) (e : Option Nat) : timerFields now e = presenceByte e :: be32 (remainder now e) := by
  cases e <;> rfl

theorem deadlineFields_eq (now : Nat) (d : Deadline) :
    deadlineFields now d = (if d = .stopped then 0 else 1) :: be32 (remainder now d.expiry?) := by
  cases d <;> rfl

theorem beOpt32_eq (o : Option Nat) : beOpt32 o = presenceByte o :: be32 (o.getD 0) := by cases o <;> rfl

theorem beFlag_eq (f : Bool) : beFlag f = [if f then 1 else 0] := by cases f <;> rfl

/-- Settles O18: with every optional field in one form, present or absent, each byte stands at its place. -/
theorem bayQueryReply : Obligations.BayQueryReply := by
  intro s n hs
  refine ⟨fun h => congrArg Host.Outcome.next (takeRequest_range 0x40 n _ s hs h), fun b hb => ?_⟩
  refine ⟨bayQueryPayload s.ms (s.bay b),
    congrArg Host.Outcome.next (takeRequest_atBay_answer 0x40 hs hb rfl), ?_⟩
  generalize s.bay b = y
  rcases tag : y.pendingTag with _ | g
  all_goals
    simp only [bayQueryPayload, okWith, identityFields_eq, timerFields_eq, deadlineFields_eq, beOpt32_eq, beFlag_eq, tag, be8,
      be16, be24, be32, List.cons_append, List.nil_append, Option.map_none, remainder_none]
    refine ⟨rfl, rfl, rfl, rfl, rfl, rfl, rfl, rfl, fun i e => ?_, rfl, rfl, rfl, rfl, fun k e => ?_, rfl, rfl, rfl, rfl, rfl, rfl,
      rfl, rfl, rfl, rfl, rfl, rfl, ?_, fun e => ?_, rfl, rfl, fun h => ?_, ?_, ?_, ?_, ?_, rfl⟩
    case refine_1 => rw [e]; exact ⟨rfl, rfl⟩
    case refine_2 => rw [e]; rfl
    case refine_3 => cases y.identity <;> rfl
    case refine_4 => rw [e]; exact ⟨rfl, rfl⟩
    case refine_5 =>
      cases e : y.link with
      | rental k => exact absurd e (h k)
      | unlinked | staff | readiness => rfl
    case refine_6 => cases y.takeWindow with
      | none => rw [remainder_none]; rfl
      | some e => rfl
    case refine_7 => cases y.tagWindow with
      | none => rw [remainder_none]; rfl
      | some e => rfl
    case refine_8 => cases y.deadline with
      | stopped | passed => rw [Deadline.expiry?, remainder_none]; rfl
      | running e => rfl
    case refine_9 => cases y.retryDelay with
      | none => rw [remainder_none]; rfl
      | some e => rfl

/-! ### The sense scan -/

/-- Settles O52, by the branches of `countSample`. -/
theorem fifthDifferingSampleIsDue : Obligations.FifthDifferingSampleIsDue := by
  intro s w hs
  refine ⟨scanAll w s, congrArg Host.Outcome.next (whenRunning_works s (scanAll w) hs), by simp only [scanAll], fun b => ?_⟩
  rw [scanAll_bay]
  unfold Bay.scanned
  refine ⟨rfl, rfl, ?_, ?_, ?_, ?_, ?_, ?_, rfl⟩
  all_goals
    intro due e
    simp +contextual [countSample, due, e]

end Sys2Proof.Machine
end

section
/-! BAY_SERVICE, BAY_CLEAR and BIKE_TAG: O32, O35. -/

namespace Sys2Proof.Machine

/-! ### What re-derivation leaves of a bay -/

@[simp] theorem State.modBay_id (s : State) (b : BayIx) : (s.modBay b fun y => y) = s := by
  simp [State.modBay, State.bay]

/-- Re-derivation from the record as it stands. -/
theorem rederive_rederived (b : BayIx) (s : State) : Rederived b (s.bay b) s (rederive b s) := by
  simpa using rederive_modBay b s fun y => y

/-- The items of a bay that a change of its state and request leaves. -/
def Bay.marks (y : Bay) : Alarms × LastOutcome × Option FaultCause × Option Identity :=
  (y.alarms, y.lastOutcome, y.faultCause, y.identity)

theorem changeState_marks (b : BayIx) (new : BayState) (s : State) :
    ((changeState b new s).bay b).marks = (s.bay b).marks := by rw [changeState_bay]; rfl

theorem enterDocked_marks (b : BayIx) (s : State) : ((enterDocked b s).bay b).marks = (s.bay b).marks := by
  rw [enterDocked_bay]; rfl

theorem postRequest_marks (b : BayIx) (s : State) : ((postRequest b s).bay b).marks = (s.bay b).marks := by
  unfold postRequest
  split
  · rw [State.modBay_bay_self]; rfl
  · rfl

theorem enterLatching_marks (b : BayIx) (s : State) : ((enterLatching b s).bay b).marks = (s.bay b).marks := by
  unfold enterLatching
  rw [postRequest_marks, State.modBay_bay_self]
  exact changeState_marks b .latching s

theorem enterUnlatching_marks (b : BayIx) (l : Link) (s : State) :
    ((enterUnlatching b l s).bay b).marks = (s.bay b).marks := by
  unfold enterUnlatching
  rw [postRequest_marks, State.modBay_bay_self]
  exact changeState_marks b .unlatching s

/-- Re-derivation keeps the alarms and the last outcome, clears the fault cause, and keeps the identity of a bike that is
present (R17). -/
theorem rederive_marks (b : BayIx) (s : State) : ((rederive b s).bay b).marks =
    ((s.bay b).alarms, (s.bay b).lastOutcome, none, if (s.bay b).presence = .present then (s.bay b).identity else none) := by
  have start : ((s.modBay b (Bay.rederived s.clock.minute)).bay b).marks =
      ((s.bay b).alarms, (s.bay b).lastOutcome, none, if (s.bay b).presence = .present then (s.bay b).identity else none) := by
    rw [State.modBay_bay_self]
    unfold Bay.rederived
    cases h : (s.bay b).presence <;> simp [Bay.marks, Bay.clearBike]
  rw [← start]
  unfold rederive
  simp only
  split
  · exact enterDocked_marks b _
  · exact enterLatching_marks b _
  · exact changeState_marks b _ _
  · exact enterUnlatching_marks b _ _

/-! ### BAY_SERVICE and BAY_CLEAR -/

theorem BayState.servable_iff (x : BayState) : x.servable = true ↔ x = .vacant ∨ x = .docked ∨ x = .fault := by
  cases x <;> simp [BayState.servable]

/-- The whole effect of an accepted entry into service (R26). -/
theorem changeState_service (b : BayIx) (s : State) (h : (s.bay b).state.servable = true) :
    changeState b .service (s.modBay b Bay.quiet) = { s with
      bays := s.bays.set b.val { s.bay b with
        state := .service, pendingTag := none, takeWindow := none, tagWindow := none, deadline := .stopped
        retryDelay := none, faultCause := none, lamp := .double
        lampPhase := if (s.bay b).lamp = .double then (s.bay b).lampPhase else 0
        lampSince := if (s.bay b).lamp = .double then (s.bay b).lampSince else s.ms } b.isLt
      changes := { s.changes with bays := s.changes.bays.set b.val { s.changes.bays[b] with state := true } b.isLt } } := by
  have other : (s.bay b).state ≠ .service := by
    intro e
    rw [e] at h
    cases h
  rw [changeState_modBay]
  have record : (Bay.quiet (s.bay b)).changedTo s.ms .service .double = { s.bay b with
      state := .service, pendingTag := none, takeWindow := none, tagWindow := none, deadline := .stopped
      retryDelay := none, faultCause := none, lamp := .double
      lampPhase := if (s.bay b).lamp = .double then (s.bay b).lampPhase else 0
      lampSince := if (s.bay b).lamp = .double then (s.bay b).lampSince else s.ms } := by
    unfold Bay.changedTo Bay.quiet
    simp [other]
  rw [State.entered, if_neg (show (Bay.quiet (s.bay b)).state ≠ .service from other)]
  exact congrArg (fun y => ({ s with bays := s.bays.set b.val y b.isLt, changes := _ } : State)) record

theorem serviceOn_accepted (b : BayIx) (s : State) (h : (s.bay b).state.servable = true) :
    serviceOn b s = (changeState b .service (s.modBay b Bay.quiet), okWith (be8 BayState.service.code)) := if_pos h

theorem serviceOn_refused (b : BayIx) (s : State) (h : (s.bay b).state.servable ≠ true) :
    serviceOn b s = (s, statusOnly .state) := if_neg h

theorem serviceOff_accepted (b : BayIx) (s : State) (h : (s.bay b).state = .service) :
    serviceOff b s = (rederive b s, okWith (be8 (restState (s.bay b).presence (s.bay b).latch).code)) := by
  simp only [serviceOff, if_pos h, rederive_state]

theorem serviceOff_refused (b : BayIx) (s : State) (h : (s.bay b).state ≠ .service) :
    serviceOff b s = (s, statusOnly .state) := if_neg h

/-- BAY_CLEAR outside FAULT removes the alarms only (R28). -/
theorem clearBay_other (b : BayIx) (s : State) (h : (s.bay b).state ≠ .fault) :
    clearBay b s = (s.modBay b fun y => { y with alarms := noAlarms },
      okWith (be8 (s.bay b).state.code ++ be8 (s.bay b).alarms.code)) := by
  simp [clearBay, h]

/-- BAY_CLEAR in FAULT re-derives the bay with its alarms and its fault cause removed (R28). -/
theorem clearBay_fault (b : BayIx) (s : State) (h : (s.bay b).state = .fault) :
    clearBay b s = (rederive b (s.modBay b fun y => { y with alarms := noAlarms, faultCause := none }),
      okWith (be8 (restState (s.bay b).presence (s.bay b).latch).code ++ be8 (s.bay b).alarms.code)) := by
  simp [clearBay, h, State.modBay_modBay, rederive_state]

/-- What the re-derivation of O35 leaves, in the terms of its statement. -/
theorem rederive_items (b : BayIx) (s t : State) (h : t.bays = (rederive b s).bays) :
    (t.bay b).state = restState (s.bay b).presence (s.bay b).latch ∧ (∀ o, o ≠ b → t.bay o = s.bay o) ∧
      (t.bay b).alarms = (s.bay b).alarms ∧ (t.bay b).lastOutcome = (s.bay b).lastOutcome ∧ (t.bay b).faultCause = none ∧
      (t.bay b).identity = (if (s.bay b).presence = .present then (s.bay b).identity else none) := by
  have same : ∀ o, t.bay o = (rederive b s).bay o := fun o => by simp only [State.bay, h]
  have marks := rederive_marks b s
  simp only [Bay.marks, Prod.mk.injEq] at marks
  rw [same b]
  exact ⟨rederive_state b s, fun o ho => (same o).trans (rederive_other b o s ho), marks⟩

/-- Settles O35: the refusals, the entry into service, and re-derivation by `rederive_modBay`. -/
theorem bayServiceAndClear : Obligations.BayServiceAndClear := by
  intro s n hs
  refine ⟨fun h flag => ⟨congrArg Host.Outcome.next (takeRequest_range 0x41 n _ s hs h),
    congrArg Host.Outcome.next (takeRequest_range 0x42 n _ s hs h)⟩, fun b hb => ?_⟩
  refine ⟨fun flag hf h => ⟨_, rfl, ?_⟩, fun flag hf h => ?_, fun h => ?_, fun h => ?_, fun h => ?_, fun h => ?_⟩
  · have servable := (BayState.servable_iff _).mpr h
    rw [takeRequest_atBay 0x41 hs hb ((congrFun (if_neg hf) _).trans (serviceOn_accepted b s.hunting servable)),
      changeState_service b s.hunting servable]
    rfl
  · have refused := serviceOn_refused b s.hunting fun k => h ((BayState.servable_iff _).mp k)
    exact congrArg Host.Outcome.next (takeRequest_atBay_answer 0x41 hs hb ((congrFun (if_neg hf) _).trans refused))
  · exact congrArg Host.Outcome.next (takeRequest_atBay_answer 0x41 hs hb (serviceOff_refused b s.hunting h))
  · refine ⟨_, _, congrArg Host.Outcome.next (takeRequest_atBay 0x41 hs hb (serviceOff_accepted b s.hunting h)),
      rederive_rederived b s.hunting, rfl, ?_⟩
    obtain ⟨state, other, marks⟩ := rederive_items b s.hunting _ rfl
    exact ⟨state, rfl, other, marks⟩
  · exact congrArg Host.Outcome.next (takeRequest_atBay 0x42 hs hb (clearBay_other b s.hunting h))
  · refine ⟨_, _, congrArg Host.Outcome.next (takeRequest_atBay 0x42 hs hb (clearBay_fault b s.hunting h)),
      rederive_modBay b s.hunting fun y => { y with alarms := noAlarms, faultCause := none }, rfl, ?_⟩
    obtain ⟨state, other, alarms, -, cause, -⟩ :=
      rederive_items b (s.hunting.modBay b fun y => { y with alarms := noAlarms, faultCause := none }) _ rfl
    rw [State.modBay_bay_self] at state alarms
    exact ⟨state, rfl, fun o ho => (other o ho).trans (State.modBay_bay_ne _ _ b o ho), alarms, cause⟩

/-! ### BIKE_TAG -/

theorem State.namedElsewhere_iff (s : State) (b : BayIx) (bike : Nat) : s.namedElsewhere b bike = true ↔
    ∃ o : BayIx, o ≠ b ∧ ((∃ x, (s.bay o).identity = some x ∧ x.bike = bike) ∨
      ∃ x, (s.bay o).pendingTag = some x ∧ x.identity.bike = bike) := by
  simp [State.namedElsewhere, allBays, Bay.names, Option.any_eq_true]

theorem Bay.refusesTag_iff (y : Bay) : y.refusesTag = true ↔
    y.state = .service ∨ y.state = .unlatching ∨ y.state = .released ∨ (y.state = .fault ∧ y.presence = .absent) := by
  unfold Bay.refusesTag
  cases y.state <;> simp

theorem classOf?_code (c : BikeClass) : classOf? (BitVec.ofNat 8 c.code) = some c := by cases c <;> rfl

theorem classOf?_none {n : Byte} (h1 : n ≠ 1) (h2 : n ≠ 2) : classOf? n = none := by
  rw [classOf?, if_neg h1, if_neg h2]

/-- A conflict, or any alarm, is raised at the bay itself (R22). -/
theorem raiseAlarm_eq (b : BayIx) (a : Alarm) (s : State) : raiseAlarm b a s = { s with
    bays := s.bays.set b.val { s.bay b with alarms := (s.bay b).alarms.add a } b.isLt
    changes := { s.changes with bays := s.changes.bays.set b.val { s.changes.bays[b] with alarm := true } b.isLt } } := rfl

theorem bikeTag_range (n : Byte) (bike : Nat) (cls : Byte) (pct : Nat) (s : State)
    (h : bayOf? n = none ∨ bike = 0 ∨ classOf? cls = none) : bikeTag n bike cls pct s = (s, statusOnly .range) := by
  unfold bikeTag
  split
  · rename_i hb hc
    simp only [hb, hc, reduceCtorEq, or_false, false_or] at h
    rw [if_pos h]
  · rfl

theorem bikeTag_eq {n : Byte} {b : BayIx} {bike : Nat} {c : BikeClass} (pct : Nat) (s : State) (hb : n.toNat = b.val + 1)
    (h : bike ≠ 0) : bikeTag n bike (BitVec.ofNat 8 c.code) pct s = tagBay b ⟨bike, c, min pct 100⟩ s := by
  simp only [bikeTag, bayOf?_some hb, classOf?_code, if_neg h]

section
variable {b : BayIx} {i : Identity} {s : State}

theorem tagBay_named (h : s.namedElsewhere b i.bike = true) :
    tagBay b i s = (raiseAlarm b .tagConflict s, statusOnly .conflict) := if_pos h

variable (h : ¬ s.namedElsewhere b i.bike = true)
include h

theorem tagBay_refused (r : (s.bay b).refusesTag = true) : tagBay b i s = (s, statusOnly .state) := by
  rw [tagBay, if_neg h, if_pos r]

theorem tagBay_vacant (v : (s.bay b).state = .vacant) :
    tagBay b i s = (setPendingTag b i s, tagReply .pendingTag i) := by
  have r : ¬ (s.bay b).refusesTag = true := by simp [Bay.refusesTag, v]
  rw [tagBay, if_neg h, if_neg r, if_pos v]

variable (r : ¬ (s.bay b).refusesTag = true) (v : (s.bay b).state ≠ .vacant)
include r v

theorem tagBay_same {x : Identity} (hx : (s.bay b).identity = some x) (e : x.bike = i.bike) : tagBay b i s =
    (s.modBay b fun y => { y with identity := some { x with battery := i.battery } }, tagReply .same i) := by
  simp only [tagBay, if_neg h, if_neg r, if_neg v, hx, if_pos e]

theorem tagBay_other {x : Identity} (hx : (s.bay b).identity = some x) (e : x.bike ≠ i.bike) :
    tagBay b i s = (raiseAlarm b .tagConflict s, statusOnly .conflict) := by
  simp only [tagBay, if_neg h, if_neg r, if_neg v, hx, if_neg e]

theorem tagBay_unknown (hx : (s.bay b).identity = none) : tagBay b i s = (assignIdentity b i s, tagReply .assigned i) := by
  simp only [tagBay, if_neg h, if_neg r, if_neg v, hx]

end

/-- With nothing due the assignment stores the identity, stops the tag window and clears UNIDENTIFIED (R103). -/
theorem assignIdentity_latching (b : BayIx) (i : Identity) (s : State) (h : (s.bay b).state = .latching) :
    assignIdentity b i s = { s with
      bays := s.bays.set b.val { s.bay b with
        identity := some i, tagWindow := none, alarms := { (s.bay b).alarms with unidentified := false } } b.isLt
      changes := if (s.bay b).alarms.unidentified = true then
        { s.changes with bays := s.changes.bays.set b.val { s.changes.bays[b] with alarm := true } b.isLt }
        else s.changes } := by
  have idle : ∀ t : State, (t.bay b).state = .latching → processReturn b t = t := fun t e =>
    processReturn_idle b t (by simp [Bay.returnDue, e])
  unfold assignIdentity clearUnidentified
  rw [State.modBay_bay_self]
  simp only
  cases u : (s.bay b).alarms.unidentified
  · rw [if_neg (by simp), if_neg (by simp), idle _ (by simpa using h)]
    simp [State.modBay, ← u]
  · rw [if_pos rfl, if_pos rfl, idle _ (by simpa using h)]
    simp [State.modBay, State.bay, State.postBay, BayCauses.add]

/-- Settles O32: the checks in their order, one lemma of `tagBay` for each. -/
theorem bikeTagOutcomes : Obligations.BikeTagOutcomes := by
  intro s n bike cls battery hs i pct
  have done : ∀ {t p}, bikeTag n bike.toNat cls battery.toNat s.hunting = (t, p) →
      exec i s = .next { t with reply := some ⟨0xB8, p⟩ } := fun e =>
    congrArg Host.Outcome.next (takeRequest_done 0x38 hs e)
  refine ⟨fun h => done (bikeTag_range _ _ _ _ _ ?_), fun b c hb hbike hcls => ?_⟩
  · rcases h with h | h | h | ⟨h1, h2⟩
    · exact .inl (bayOf?_none (.inl h))
    · exact .inl (bayOf?_none (.inr h))
    · exact .inr (.inl (by simp [h]))
    · exact .inr (.inr (classOf?_none h1 h2))
  · intro y tag conflict elsewhere refused
    have at' : ∀ {t p}, tagBay b tag s.hunting = (t, p) → exec i s = .next { t with reply := some ⟨0xB8, p⟩ } := fun e =>
      done (by rw [hcls, bikeTag_eq _ _ hb fun k => hbike (BitVec.eq_of_toNat_eq k)]; exact e)
    have named : s.hunting.namedElsewhere b tag.bike = true ↔ elsewhere := State.namedElsewhere_iff s b bike.toNat
    have refuses : (s.hunting.bay b).refusesTag = true ↔ refused := Bay.refusesTag_iff y
    rw [← named, ← refuses]
    refine ⟨fun h => at' (tagBay_named h), fun h r => at' (tagBay_refused h r), fun h v => at' (tagBay_vacant h v),
      fun x h r v hx e => at' (tagBay_same h r v hx e), fun x h r v hx e => at' (tagBay_other h r v hx e), fun h l hx => ?_⟩
    have r : ¬ (s.hunting.bay b).refusesTag = true := by
      rw [Bay.refusesTag_iff]; simp [show (s.bay b).state = .latching from l]
    rw [at' (tagBay_unknown h r (by simp [show (s.bay b).state = .latching from l]) hx),
      assignIdentity_latching b tag s.hunting l]
    rfl

end Sys2Proof.Machine
end

section
/-! The events due, the timers of a bay and the phases of a pulse: O44, O56. -/

namespace Sys2Proof.Machine

/-! ### The events due -/

theorem mem_eventIf {cond : Bool} {i j : Instr} : i ∈ eventIf cond j ↔ cond = true ∧ i = j := by
  cases cond <;> simp [eventIf]

theorem State.works.running {s : State} (h : s.works) : s.running = true := by simp [State.running, h.1, h.2]

/-- An event due at a bay of a running part is due (R179). -/
theorem State.due_of_bayDue {s : State} (h : s.works) {b : BayIx} {i : Instr} (m : i ∈ s.bayDue b) : i ∈ s.due := by
  have : i ∈ allBays.flatMap s.bayDue := List.mem_flatMap.mpr ⟨b, List.mem_finRange b, m⟩
  simp [State.due, h.running, this]

/-- An event due on a channel of a running part is due (R179). -/
theorem State.due_of_channelDue {s : State} (h : s.works) {c : Fin 4} {i : Instr} (m : i ∈ s.channelDue c) : i ∈ s.due := by
  have : i ∈ allChannels.flatMap s.channelDue := List.mem_flatMap.mpr ⟨c, List.mem_finRange c, m⟩
  simp [State.due, h.running, this]

theorem timeUp_some {now e : Nat} (h : e ≤ now) : timeUp now (some e) = true := by simp [timeUp, h]

section
variable {s : State} {b : BayIx} {e : Nat} (h : s.works) (l : e ≤ s.ms)
include h l

theorem takeWindowExpiry_due (k : (s.bay b).takeEnd = some e) : .takeWindowExpiry b ∈ s.due :=
  s.due_of_bayDue h (b := b) (by simp [State.bayDue, mem_eventIf, k, timeUp_some l])

theorem tagWindowExpiry_due (k : (s.bay b).tagWindow = some e) : .tagWindowExpiry b ∈ s.due :=
  s.due_of_bayDue h (b := b) (by simp [State.bayDue, mem_eventIf, k, timeUp_some l])

theorem unlatchDeadlineExpiry_due (k : (s.bay b).deadlineEnd = some e) : .unlatchDeadlineExpiry b ∈ s.due :=
  s.due_of_bayDue h (b := b) (by simp [State.bayDue, mem_eventIf, k, timeUp_some l])

theorem retryDelayExpiry_due (k : (s.bay b).retryEnd = some e) : .retryDelayExpiry b ∈ s.due :=
  s.due_of_bayDue h (b := b) (by simp [State.bayDue, mem_eventIf, k, timeUp_some l])

theorem pendingTagExpiry_due (k : (s.bay b).tagEnd = some e) : .pendingTagExpiry b ∈ s.due :=
  s.due_of_bayDue h (b := b) (by simp [State.bayDue, mem_eventIf, k, timeUp_some l])

theorem lampPhase_due (k : (s.bay b).lampEnd = some e) : .lampPhase b ∈ s.due :=
  s.due_of_bayDue h (b := b) (by simp [State.bayDue, mem_eventIf, k, timeUp_some l])

end

theorem connectEnd_due {s : State} {c : Fin 4} {p : Pulse} (h : s.works) (hp : s.pulse? c = some p) (k : p.phase = .connect)
    (r : s.refreshes p = true) : .connectEnd c ∈ s.due :=
  s.due_of_channelDue h (c := c) (by simp [State.channelDue, mem_eventIf, hp, k, r])

theorem coastEnd_due {s : State} {c : Fin 4} {p : Pulse} (h : s.works) (hp : s.pulse? c = some p) (k : p.phase = .coast)
    (r : s.refreshes p = true) : .coastEnd c ∈ s.due :=
  s.due_of_channelDue h (c := c) (by simp [State.channelDue, mem_eventIf, hp, k, r])

theorem kickEnd_due {s : State} {c : Fin 4} {p : Pulse} (h : s.works) (hp : s.pulse? c = some p)
    (k : p.kickOver s.ms = true) : .kickEnd c ∈ s.due :=
  s.due_of_channelDue h (c := c) (by simp [State.channelDue, mem_eventIf, hp, k])

/-! ### The timers of a bay -/

/-- A running retry delay of a waiting bay runs to its end. -/
theorem retryExpired_eq (b : BayIx) (s : State) (k : DriveKind) (h : (s.bay b).requestKind = some k) :
    retryExpired b s = { s with
      bays := s.bays.set b.val { s.bay b with retryDelay := none, driveStage := .queued } b.isLt
      queue := s.queue ++ [⟨b, k, s.nextOrder⟩], nextOrder := s.nextOrder + 1 } := by
  unfold retryExpired
  rw [postRequest_some b _ k (by rw [State.modBay_bay_self]; exact h)]
  simp [State.modBay, State.bay]

theorem tagExpired_eq (b : BayIx) (s : State) : tagExpired b s = { s with
    bays := s.bays.set b.val { s.bay b with
      tagWindow := none, alarms := { (s.bay b).alarms with unidentified := true } } b.isLt
    changes := { s.changes with bays := s.changes.bays.set b.val { s.changes.bays[b] with alarm := true } b.isLt } } := by
  rw [tagExpired, raiseAlarm_eq]
  simp [State.modBay, State.bay, Alarms.add]

/-- The lamp pattern's next phase (R24). -/
theorem lampPhase_next (y : Bay) (n : Nat) (h : y.lampPhaseLength = some n) :
    (y.lampPhase + 1) % y.lamp.phases = if y.lamp = .double then (y.lampPhase + 1) % 4 else (y.lampPhase + 1) % 2 := by
  unfold Bay.lampPhaseLength at h
  cases l : y.lamp <;> simp [l, LampPattern.phases] at h ⊢

/-- With no command waiting, nothing due and a refresh at the count, the step makes that refresh (R24, R178). -/
theorem tick_refreshes (s : State) (hs : s.works) (h : s.due = []) :
    (tick s).running = true ∧ (tick s).chain = (refreshChain s).chain := by
  have r := hs.running
  rcases tick_cases s with ⟨i, n, m, -⟩ | ⟨-, u, hu, e⟩
  · rw [h] at m; cases m
  · rw [whenRunning_works s _ hs, crystalPeriod_frame, refreshChain_frame] at hu
    have frame : u.running = true ∧ u.chain = (refreshChain s).chain := by
      rw [hu]; exact ⟨r, by rw [refreshChain_frame]⟩
    rcases e with ⟨-, e⟩ | ⟨-, e⟩ <;> rw [e] <;> exact frame

/-- The bits of a bay that the last refresh carried no channel to. -/
theorem selectBits_of_none (s : State) (b : BayIx) (on : Bool) (r : s.running = true) (h : s.chain[b] = ⟨none, on⟩) :
    s.selectBits b = [false, false, false, on] := by
  simp [State.selectBits, r, h, ChainSlot.number]

/-- A bay that waits for its retry delay in LATCHING or UNLATCHING posts the kind of its state and link (R16). -/
theorem requestKind_of {y : Bay} {k : DriveKind} (h : y.state = .latching ∧ k = .latch ∨
    y.state = .unlatching ∧ ((∃ j, y.link = .rental j) ∧ k = .unlatchRental ∨ y.link = .staff ∧ k = .unlatchStaff ∨
      y.link = .readiness ∧ k = .unlatchReady)) : y.requestKind = some k := by
  rcases h with ⟨h, rfl⟩ | ⟨h, ⟨⟨j, l⟩, rfl⟩ | ⟨l, rfl⟩ | ⟨l, rfl⟩⟩ <;> simp [Bay.requestKind, *]

/-- Settles O56: each timer through `expire`, and the lamp through the refresh that the passing of a period makes. -/
theorem bayTimersExpire : Obligations.BayTimersExpire := by
  intro s b hs y put length
  have lampEnd : ∀ n, length = some n → y.lampEnd = some (y.lampSince + n) := fun n h => congrArg (Option.map _) h
  refine ⟨fun e h l => ⟨tagWindowExpiry_due hs l h, congrArg Host.Outcome.next ?_⟩, fun h => congrArg Host.Outcome.next ?_,
    fun g h l => ⟨pendingTagExpiry_due hs l (congrArg (Option.map _) h), congrArg Host.Outcome.next ?_⟩,
    fun h => congrArg Host.Outcome.next ?_, fun e k hk hd h l => ?_, fun h => congrArg Host.Outcome.next ?_,
    fun e h l => ⟨unlatchDeadlineExpiry_due hs l (congrArg Deadline.expiry? h), fun d => congrArg Host.Outcome.next ?_⟩,
    fun h => congrArg Host.Outcome.next ?_, fun e hr h l => takeWindowExpiry_due hs l ((if_pos hr).trans h),
    fun h => congrArg Host.Outcome.next ?_,
    fun n h l => ⟨lampPhase_due hs l (lampEnd n h), congrArg Host.Outcome.next ?_⟩, fun h => congrArg Host.Outcome.next ?_, ?_⟩
  · exact (expire_due Bay.tagWindow b _ s hs e h l).trans (tagExpired_eq b s)
  · exact expire_early Bay.tagWindow b _ s h
  · exact expire_due Bay.tagEnd b _ s hs g.expiry (congrArg (Option.map _) h) l
  · refine expire_early Bay.tagEnd b _ s fun n e => ?_
    obtain ⟨g, hg, rfl⟩ := Option.map_eq_some_iff.mp e
    exact h g hg
  · have running : y.retryEnd = some e := (if_pos hd).trans h
    refine ⟨retryDelayExpiry_due hs l running, congrArg Host.Outcome.next ?_⟩
    exact (expire_due Bay.retryEnd b _ s hs e running l).trans (retryExpired_eq b s k (requestKind_of hk))
  · refine expire_early Bay.retryEnd b _ s fun n e => h n ?_
    unfold Bay.retryEnd at e
    split at e
    · exact e
    · cases e
  · refine (expire_due Bay.deadlineEnd b _ s hs e (congrArg Deadline.expiry? h) l).trans ?_
    exact if_pos d
  · refine expire_early Bay.deadlineEnd b _ s fun n e => h n ?_
    unfold Bay.deadlineEnd at e
    cases hd : (s.bay b).deadline with
    | running m => rw [hd] at e; cases e; rfl
    | stopped | passed => rw [hd] at e; cases e
  · refine expire_early Bay.takeEnd b _ s fun n e => h n ?_
    unfold Bay.takeEnd at e
    split at e
    · exact e
    · cases e
  · refine (expire_due Bay.lampEnd b _ s hs _ (lampEnd n h) l).trans ?_
    rw [← lampPhase_next y n h]
    rfl
  · refine expire_early Bay.lampEnd b _ s fun n e => ?_
    obtain ⟨m, hm, rfl⟩ := Option.map_eq_some_iff.mp e
    exact h m hm
  · intro on hp hd hr hq
    obtain ⟨running, chain⟩ := tick_refreshes s hs hd
    refine ⟨tick s, by rw [step, hp], selectBits_of_none _ b on running ?_⟩
    rw [chain, refreshChain_chain, if_pos hr, State.chainSlot,
      State.carriedChannel_none s b fun c p e k => absurd k (hq c p e)]
    rfl

/-! ### The phases of a pulse -/

/-- A pulse event of a running part at a channel that drives acts on its pulse. -/
theorem pulseEvent_driving {c : Fin 4} {p : Pulse} {s : State} (act : Pulse → State → State) (h : s.works)
    (hp : s.pulse? c = some p) : pulseEvent c act s = act p s := by
  rw [pulseEvent, whenRunning_works s _ h, hp]

theorem Bay.lampOn_eq (y : Bay) : y.lampOn = y.lampValue := by
  unfold Bay.lampOn Bay.lampValue
  cases y.lamp <;> rfl

/-- A refresh that the count stands at leaves what R24 and R144 state. -/
theorem refreshChain_due (s : State) (h : s.refreshDue = true) : refreshChain s = s.afterRefresh := by
  have slot : s.chainSlot = fun b =>
      { channel := (List.finRange 4).find? fun c => match (s.channels[c]).mode with
          | .driving q => decide (q.bay = b) && decide (q.phase ≠ .coast)
          | .idle | .disabled => false
        lamp := (s.bay b).lampValue } := by
    funext b
    rw [State.chainSlot, Bay.lampOn_eq, State.carriedChannel]
    congr 2
    funext c
    unfold State.pulse?
    cases (s.channels[c]).mode <;> simp
  have channel : Channel.refresh = fun x => match x.mode with
      | .driving q =>
        if q.phase = .connect ∨ q.phase = .coast then { x with mode := .driving { q with refreshed := true } } else x
      | .idle | .disabled => x := by
    funext x
    unfold Channel.refresh
    cases hx : x.mode with
    | driving q =>
      obtain ⟨mode, _, _⟩ := x
      subst hx
      cases hq : q.phase <;> simp [Pulse.refresh, Phase.awaitsRefresh, hq]
    | idle | disabled => rfl
  rw [refreshChain, if_pos h, slot, channel]
  rfl

/-- The end of CONNECT makes the refresh of its count first (R144, log 38). -/
theorem endConnect_refreshes {c : Fin 4} {p : Pulse} {s : State} (h : p.phase = .connect) (r : s.refreshDue = true) :
    endConnect c p s = endConnect c p.refresh (refreshChain s) := by
  have marked : p.refresh = { p with refreshed := true } := by simp [Pulse.refresh, Phase.awaitsRefresh, h]
  have again := refreshChain_idle _ (refreshChain_refreshDue s)
  rw [endConnect, if_pos ⟨h, by simp [State.refreshes, r]⟩, endConnect, marked, if_pos ⟨h, by simp [State.refreshes]⟩, again]

theorem endConnect_marked {c : Fin 4} {p : Pulse} {s : State} (h : p.phase = .connect) (r : s.refreshes p = true) :
    endConnect c p s = (refreshChain s).setPulse c { p with phase := .deadtime1, refreshed := false } := if_pos ⟨h, r⟩

theorem beginKick_eq (c : Fin 4) (p : Pulse) (s : State) : beginKick c p s = s.setPulse c { p with
    kickStart := s.ms
    phase := if p.kind = .latch ∧ (s.bay p.bay).latch = .closed then .deadtime2
      else if p.profile.kickTime = 0 then .hold else .kick } := by
  unfold beginKick
  simp only
  split
  · rfl
  · split <;> rfl

/-- The gates that a pulse drives in each phase (section 8.3). -/
theorem Pulse.gates_eq (p : Pulse) (driven : Nat → Gates) (h : ∀ duty, driven duty =
      if p.kind = .latch then (⟨.off, .on, .pwm duty, .off⟩ : Gates) else ⟨.pwm duty, .off, .off, .on⟩) :
    p.gates = if p.phase = .kick then driven p.profile.kickDuty else if p.phase = .hold then driven p.profile.holdDuty
      else if p.phase = .brake then ⟨.off, .on, .off, .on⟩ else ⟨.off, .off, .off, .off⟩ := by
  have drive : ∀ duty, driveGates p.kind duty = driven duty := by
    intro duty
    rw [h]
    cases p.kind <;> rfl
  unfold Pulse.gates
  cases p.phase <;> simp [drive, gatesOff]

/-- The three bits of a bay's channel number (section 11.7). -/
theorem ChainSlot.number_bits (x : ChainSlot) :
    x.number.testBit 2 = decide (x.channel = some 3) ∧
      x.number.testBit 1 = decide (x.channel = some 1 ∨ x.channel = some 2) ∧
      x.number.testBit 0 = decide (x.channel = some 0 ∨ x.channel = some 2) := by
  obtain ⟨channel, lamp⟩ := x
  cases channel with
  | none => simp [ChainSlot.number]
  | some c => fin_cases c <;> simp [ChainSlot.number] <;> decide

/-- Settles O44: each event of a phase through `pulseEvent`, and the joining of the chain through the refresh. -/
theorem pulsePhasesFollowInOrder : Obligations.PulsePhasesFollowInOrder := by
  intro s c p hs hp put
  have taken : ∀ act, pulseEvent c act s = act p s := fun act => pulseEvent_driving act hs hp
  refine ⟨fun h r m => ⟨connectEnd_due hs hp h (by simp [State.refreshes, m]), congrArg Host.Outcome.next ?_⟩,
    fun h r => ⟨connectEnd_due hs hp h (by simp [State.refreshes, r]), congrArg Host.Outcome.next ?_⟩,
    fun h r m => congrArg Host.Outcome.next ?_, fun h => congrArg Host.Outcome.next ?_,
    fun h l => ⟨congrArg Host.Outcome.next ?_, kickEnd_due hs hp (by simp [Pulse.kickOver, h, l])⟩,
    fun h l => congrArg Host.Outcome.next ?_, fun h m => congrArg Host.Outcome.next ?_,
    fun h m k => congrArg Host.Outcome.next ?_, fun h m k => congrArg Host.Outcome.next ?_, ?_, fun h r one => ?_, fun b => ?_⟩
  · rw [taken, endConnect_marked h (by simp [State.refreshes, m]), refreshChain_idle s r]
    rfl
  · have works : (refreshChain s).works := by rw [refreshChain_frame]; exact hs
    have refreshed : (refreshChain s).pulse? c = some p.refresh := by rw [refreshChain_pulse, if_pos r, hp]; rfl
    rw [← refreshChain_due s r, taken, pulseEvent_driving _ works refreshed]
    exact endConnect_refreshes h r
  · rw [taken, endConnect, if_neg (by simp [State.refreshes, r, m])]
  · rw [taken, endDeadtime, h]
    exact beginKick_eq c p s
  · rw [taken, endKick, if_pos (by simp [Pulse.kickOver, h, l])]
    rfl
  · rw [taken, endKick, if_neg (by simp [Pulse.kickOver, l])]
  · rw [taken, endDeadtime, h]
    exact if_pos m
  · rw [taken, endDeadtime, h]
    simp only [endSecondDeadtime, m, Bool.false_eq_true, if_false, if_neg (Nat.pos_iff_ne_zero.mp k)]
    rfl
  · have driving : (put { p with phase := .brake, brakeStart := s.ms }).pulse? c =
        some { p with phase := .brake, brakeStart := s.ms } := State.setPulse_pulse_self s c _
    rw [taken, endDeadtime, h, pulseEvent_driving _ (show (put _).works from hs) driving, endBrake,
      if_pos (by simp [Pulse.brakeOver, k, put])]
    simp only [endSecondDeadtime, m, Bool.false_eq_true, if_false, if_pos k]
    rfl
  · intro driven
    rw [State.gates, if_pos hs.running, hp]
    exact p.gates_eq driven fun duty => rfl
  · refine ⟨_, rfl, ?_⟩
    rw [taken, endConnect_marked h (by simp [State.refreshes, r])]
    have chain : ∀ b : BayIx, ((refreshChain s).setPulse c { p with phase := .deadtime1, refreshed := false }).chain[b] =
        ⟨s.carriedChannel b, (s.bay b).lampValue⟩ := fun b => by
      rw [← Bay.lampOn_eq]; exact (refreshChain_chain s b).trans (if_pos r)
    exact ⟨by rw [chain, State.carriedChannel_some hp (by simp [h]) one], fun b k => by
      rw [chain, State.carriedChannel_none s b k]⟩
  · obtain ⟨h2, h1, h0⟩ := ChainSlot.number_bits s.chain[b]
    simp only [State.selectBits, hs.running, if_true, h2, h1, h0]

end Sys2Proof.Machine
end

section
/-! A state with one bay record replaced: what each operation at that bay makes of it. -/

namespace Sys2Proof.Machine

/-- The state with the record `y` at bay `b`. -/
def State.put (s : State) (b : BayIx) (y : Bay) : State := { s with bays := s.bays.set b.val y b.isLt }

section Put
variable (s : State) (b : BayIx) (y : Bay)

@[simp] theorem State.put_bay : (s.put b y).bay b = y := s.modBay_bay_self b fun _ => y

theorem State.put_other {o : BayIx} (h : o ≠ b) : (s.put b y).bay o = s.bay o := s.modBay_bay_ne (fun _ => y) b o h

@[simp] theorem State.put_put (z : Bay) : (s.put b y).put b z = s.put b z := s.modBay_modBay b (fun _ => y) fun _ => z

theorem State.modBay_put (f : Bay → Bay) : (s.put b y).modBay b f = s.put b (f y) := s.modBay_modBay b (fun _ => y) f

theorem State.modBay_eq_put (f : Bay → Bay) : s.modBay b f = s.put b (f (s.bay b)) := rfl

@[simp] theorem State.put_self : s.put b (s.bay b) = s := s.modBay_id b

theorem changeState_put (new : BayState) : changeState b new (s.put b y) = s.entered b new new.lamp y :=
  changeState_modBay b new s fun _ => y

theorem enterDocked_put : EntrySettled b (s.entered b .docked .off y) (enterDocked b (s.put b y)) :=
  enterDocked_modBay b s fun _ => y

theorem enterFault_put : FaultEntered b y s (enterFault b (s.put b y)) := enterFault_modBay b s fun _ => y

theorem rederive_put : Rederived b y s (rederive b (s.put b y)) := rederive_modBay b s fun _ => y

/-- Re-derivation drops whatever link and drive stage the record has. -/
theorem Rederived.of_request {b : BayIx} {y z : Bay} {s t : State} (h : Rederived b z s t)
    (e : z = { y with link := z.link, driveStage := z.driveStage }) : Rederived b y s t := by
  rw [e] at h
  exact h

theorem enterLatching_put : enterLatching b (s.put b y) =
    { s.entered b .latching .slow { y with attempts := 0, link := .unlinked, driveStage := .queued } with
      queue := s.queue ++ [⟨b, .latch, s.nextOrder⟩], nextOrder := s.nextOrder + 1 } :=
  enterLatching_modBay b s fun _ => y

theorem enterReadiness_put : enterUnlatching b .readiness (s.put b y) =
    { s.entered b .unlatching .slow { y with attempts := 0, link := .readiness, driveStage := .queued } with
      queue := s.queue ++ [⟨b, .unlatchReady, s.nextOrder⟩], nextOrder := s.nextOrder + 1 } :=
  enterUnlatching_modBay b .readiness s .unlatchReady (fun y h l => by simp [Bay.requestKind, h, l]) fun _ => y

/-- The record re-derivation leaves of a bay whose bike has gone (R17). -/
def Bay.emptied (y : Bay) : Bay :=
  { y with
    attempts := 0, presenceChanged := false, faultCause := none, link := .unlinked, driveStage := .noRequest
    identity := none, arrival := none, processed := false }

theorem rederive_vacant (p : y.presence = .absent) (l : y.latch = .opened) :
    rederive b (s.put b y) = s.entered b .vacant .off y.emptied := by
  have h := rederive_put s b y
  simpa only [Rederived, Bay.emptied, p, l] using h

theorem rederive_readiness (p : y.presence = .absent) (l : y.latch = .closed) : rederive b (s.put b y) =
    { s.entered b .unlatching .slow { y.emptied with link := .readiness, driveStage := .queued } with
      queue := s.queue ++ [⟨b, .unlatchReady, s.nextOrder⟩], nextOrder := s.nextOrder + 1 } := by
  have h := rederive_put s b y
  simpa only [Rederived, Bay.emptied, p, l] using h

/-- The state with the request of a bay taken out of the queue. -/
def State.unqueued (s : State) (b : BayIx) : State := { s with queue := s.queue.filter fun q => decide (q.bay ≠ b) }

theorem withdrawRequest_put : withdrawRequest b (s.put b y) =
    (s.unqueued b).put b { y with driveStage := .noRequest, retryDelay := none } :=
  State.modBay_put (s.unqueued b) b y _

theorem raiseAlarm_put (a : Alarm) : raiseAlarm b a (s.put b y) =
    (s.postBay b .alarm).put b { y with alarms := y.alarms.add a } := by
  rw [raiseAlarm, State.modBay_put]; rfl

theorem discardRelease_put (o : LastOutcome) (h : s.hasRelease b) (l : y.link = (s.bay b).link) :
    discardRelease b o (s.put b y) = s.discarded b o y := discardRelease_modBay b o s (fun _ => y) h l

theorem recordArrival_put : recordArrival b (s.put b y) = s.put b { y with arrival := some s.clock.minute } :=
  State.modBay_put s b y _

theorem clearArrival_put : clearArrival b (s.put b y) = s.put b { y with arrival := none } := State.modBay_put s b y _

theorem forgetBike_put : forgetBike b (s.put b y) = s.put b y.clearBike := State.modBay_put s b y _

theorem markChanged_put : markChanged b (s.put b y) = s.put b { y with presenceChanged := true } := State.modBay_put s b y _

/-- A presence change while a pulse is in flight sets the mark. -/
theorem presenceMoved_driven (h : y.driveStage = .driving) :
    presenceMoved b (s.put b y) = s.put b { y with presenceChanged := true } := by
  rw [presenceMoved, if_pos (by simp [State.drivenBay, h]), markChanged_put]

/-- With none in flight it withdraws the request and re-derives the bay. -/
theorem presenceMoved_undriven (h : y.driveStage ≠ .driving) : presenceMoved b (s.put b y) =
    rederive b ((s.unqueued b).put b { y with link := .unlinked, driveStage := .noRequest, retryDelay := none }) := by
  rw [presenceMoved, if_neg (by simp [State.drivenBay, h]), State.modBay_put, withdrawRequest_put]

/-- The bike that arrives at a VACANT bay: its minute is recorded, and a pending tag becomes its identity (R5, R20). -/
def Bay.arrived (y : Bay) (minute : Nat) : Bay :=
  { y with arrival := some minute, identity := (y.pendingTag.map (·.identity)).or y.identity, pendingTag := none }

theorem vacantRise_opened (l : y.latch = .opened) :
    vacantRise b (s.put b y) = enterLatching b (s.put b (y.arrived s.clock.minute)) := by
  unfold vacantRise
  rw [recordArrival_put, State.modBay_put]
  cases tag : y.pendingTag <;> simp [tag, Bay.arrived, l]

theorem vacantRise_closed (l : y.latch = .closed) :
    vacantRise b (s.put b y) = enterDocked b (s.put b (y.arrived s.clock.minute)) := by
  unfold vacantRise
  rw [recordArrival_put, State.modBay_put]
  cases tag : y.pendingTag <;> simp [tag, Bay.arrived, l]

end Put

/-! ### A change of state that is one -/

theorem Bay.changedTo_ne {now : Nat} {new : BayState} {p : LampPattern} {y : Bay} (h : y.state ≠ new) :
    y.changedTo now new p = { y with
      state := new
      pendingTag := if y.state = .vacant then none else y.pendingTag
      tagWindow := if y.state = .docked ∨ y.state = .fault then none else y.tagWindow
      takeWindow := if y.state = .released then none else y.takeWindow
      retryDelay := if y.state = .latching ∨ y.state = .unlatching then none else y.retryDelay
      deadline := if new = .released ∨ new = .fault then .stopped else y.deadline
      lamp := p
      lampPhase := if y.lamp = p then y.lampPhase else 0
      lampSince := if y.lamp = p then y.lampSince else now } := if_neg h

theorem State.entered_ne {s : State} {b : BayIx} {new : BayState} {p : LampPattern} {y : Bay} (h : y.state ≠ new) :
    s.entered b new p y = (s.put b (y.changedTo s.ms new p)).postBay b .state := by
  rw [State.entered, if_neg h]; rfl

theorem State.entered_bays_other {s : State} {b o : BayIx} (new : BayState) (p : LampPattern) (y : Bay) (h : o ≠ b) :
    (s.entered b new p y).bay o = s.bay o := by
  have : b.val ≠ o.val := fun e => h (Fin.ext e.symm)
  simp [State.entered, State.bay, this]

/-! ### What an entry that secures a bike brings -/

/-- An arrival minute that stands is not replaced (R95). -/
theorem processReturn_arrival {b : BayIx} {s : State} {m : Nat} (h : (s.bay b).arrival = some m) :
    ((processReturn b s).bay b).arrival = some m := by
  unfold processReturn
  simp only
  split
  · exact h
  · split
    · split
      · rw [localReturn_bay, markProcessed_bay, h]; rfl
      · split
        · rw [fixMinute_bay, h]; rfl
        · rw [foreignReturn_bay, markProcessed_bay, h]; rfl
    · exact h

section Secured
variable (b : BayIx) (s : State)

/-- Of the bay an entry writes tag window, mark, arrival minute and held return only. -/
theorem secured_bay : (secured b s).bay b = { s.bay b with
    tagWindow := ((secured b s).bay b).tagWindow, processed := ((secured b s).bay b).processed
    arrival := ((secured b s).bay b).arrival, held := ((secured b s).bay b).held } := by
  unfold secured
  rw [processReturn_bay, startTagWindow_bay]

theorem secured_arrival {m : Nat} (h : (s.bay b).arrival = some m) : ((secured b s).bay b).arrival = some m :=
  processReturn_arrival (by rw [startTagWindow_bay]; exact h)

/-- With no identity known the tag window starts and nothing else happens (R19). -/
theorem secured_unknown (h : (s.bay b).identity = none) : secured b s =
    s.put b { s.bay b with tagWindow := some (s.ms + 1000 * s.settings.tagWindow) } := by
  have e : startTagWindow b s = s.put b { s.bay b with tagWindow := some (s.ms + 1000 * s.settings.tagWindow) } := by
    simp [startTagWindow, h, State.modBay_eq_put]
  rw [secured, e, processReturn_idle b _ (by simp [Bay.returnDue, h])]

/-- With the return processed, or no identity known, only the tag window is written. -/
theorem secured_settles (h : (s.bay b).processed = true ∨ (s.bay b).identity = none) :
    ∃ w, secured b s = s.put b { s.bay b with tagWindow := w } := by
  by_cases i : (s.bay b).identity = none
  · exact ⟨_, secured_unknown b s i⟩
  · have p := h.resolve_right i
    refine ⟨(s.bay b).tagWindow, ?_⟩
    rw [secured, startTagWindow_known b s i, processReturn_idle b s (by simp [Bay.returnDue, p])]
    exact (s.put_self b).symm

theorem enterDocked_put_eq (y : Bay) : enterDocked b (s.put b y) = secured b (s.entered b .docked .off y) := by
  rw [enterDocked, changeState_put]
  rfl

/-- Of a bay that enters DOCKED the change of state and what the entry brings are written. -/
theorem enterDocked_put_bay (y : Bay) : (enterDocked b (s.put b y)).bay b = { y.changedTo s.ms .docked .off with
    tagWindow := ((enterDocked b (s.put b y)).bay b).tagWindow, processed := ((enterDocked b (s.put b y)).bay b).processed
    arrival := ((enterDocked b (s.put b y)).bay b).arrival, held := ((enterDocked b (s.put b y)).bay b).held } := by
  rw [enterDocked_put_eq, secured_bay, State.entered_bay]

end Secured

end Sys2Proof.Machine
end

section
/-! Causes once posted stand through every operation at a bay, and what each operation posts. -/

namespace Sys2Proof.Machine

/-- The set of causes holds a cause. -/
def BayCauses.has (x : BayCauses) : BayCause → Bool
  | .state => x.state
  | .outcome => x.outcome
  | .alarm => x.alarm
  | .returned => x.returned
  | .held => x.held

theorem BayCauses.has_add (x : BayCauses) (c d : BayCause) : (x.add c).has d = (x.has d || decide (d = c)) := by
  cases c <;> cases d <;> simp [BayCauses.has, BayCauses.add]

/-- Every cause of a bay that stands in `s` stands in `t`. -/
def CausesStand (s t : State) : Prop :=
  ∀ (o : BayIx) (d : BayCause), ((s.changes.bays)[o]).has d = true → ((t.changes.bays)[o]).has d = true

namespace CausesStand

theorem refl (s : State) : CausesStand s s := fun _ _ h => h

theorem trans {s t u : State} (h : CausesStand s t) (k : CausesStand t u) : CausesStand s u := fun o d x => k o d (h o d x)

theorem of_same {s t : State} (h : t.changes.bays = s.changes.bays) : CausesStand s t := fun o d x => by rw [h]; exact x

theorem postBay (s : State) (b : BayIx) (c : BayCause) : CausesStand s (s.postBay b c) := by
  intro o d h
  by_cases e : o = b
  · subst e
    have : ((s.postBay o c).changes.bays)[o] = (s.changes.bays[o]).add c := s.postBay_cause_self o c
    rw [this, BayCauses.has_add, h]; rfl
  · rw [State.postBay_cause_ne s b o c e]; exact h

theorem modBay_postBay (s : State) (b : BayIx) (f : Bay → Bay) (c : BayCause) :
    CausesStand s ((s.modBay b f).postBay b c) := (of_same rfl).trans (postBay (s.modBay b f) b c)

theorem appendRecord (r : JournalRecord) (s : State) : CausesStand s (appendRecord r s) := by
  unfold Machine.appendRecord
  simp only
  split <;> exact of_same rfl

theorem localReturn (b : BayIx) (m : Nat) (k : Fin 64) (r : Rental) (s : State) : CausesStand s (localReturn b m k r s) := by
  unfold Machine.localReturn
  exact (appendRecord _ s).trans ((of_same rfl).trans (postBay _ b .returned))

theorem foreignReturn (b : BayIx) (m : Nat) (i : Identity) (s : State) : CausesStand s (foreignReturn b m i s) := by
  unfold Machine.foreignReturn
  simp only
  split
  · exact (appendRecord _ s).trans (postBay _ b _)
  · exact (of_same rfl).trans (postBay _ b .held)

theorem processReturn (b : BayIx) (s : State) : CausesStand s (processReturn b s) := by
  unfold Machine.processReturn
  simp only
  split
  · exact refl s
  · split
    · split
      · exact (of_same rfl).trans (localReturn b _ _ _ (markProcessed b s))
      · split
        · exact of_same rfl
        · exact (of_same rfl).trans (foreignReturn b _ _ (markProcessed b s))
    · exact refl s

theorem startTagWindow (b : BayIx) (s : State) : CausesStand s (startTagWindow b s) :=
  of_same (by rw [startTagWindow_frame])

theorem secured (b : BayIx) (s : State) : CausesStand s (secured b s) :=
  (startTagWindow b s).trans (processReturn b _)

theorem changeState (b : BayIx) (new : BayState) (s : State) : CausesStand s (changeState b new s) := by
  unfold Machine.changeState
  split
  · exact refl s
  · exact modBay_postBay s b _ .state

theorem writeHeld (b : BayIx) (r : ForeignReturn) (s : State) : CausesStand s (writeHeld b r s) := by
  unfold Machine.writeHeld
  exact (appendRecord _ s).trans ((of_same rfl).trans (postBay _ b .returned))

theorem flushFrom (l : List BayIx) (s : State) : CausesStand s (flushFrom l s).1 := by
  induction l generalizing s with
  | nil => exact refl s
  | cons b rest ih =>
    unfold Machine.flushFrom
    split
    · rename_i r _
      split
      · exact (writeHeld b r s).trans (ih _)
      · exact refl s
    · exact (of_same rfl).trans (ih { s with heldOrder := s.heldOrder.tail })

theorem processReturns (l : List BayIx) (s : State) :
    CausesStand s (l.foldl (fun t b => Machine.processReturn b t) s) := by
  induction l generalizing s with
  | nil => exact refl s
  | cons b rest ih => exact (processReturn b s).trans (ih _)

theorem flush (s : State) : CausesStand s (flush s) := (flushFrom _ s).trans (processReturns _ _)

theorem enterDocked (b : BayIx) (s : State) : CausesStand s (enterDocked b s) :=
  (changeState b .docked s).trans (secured b _)

theorem enterFault (b : BayIx) (s : State) : CausesStand s (enterFault b s) := by
  unfold Machine.enterFault
  simp only
  split
  · exact (changeState b .fault s).trans (secured b _)
  · exact changeState b .fault s

theorem postRequest (b : BayIx) (s : State) : CausesStand s (postRequest b s) :=
  of_same (by rw [postRequest_frame])

theorem postRequest_modBay (b : BayIx) (f : Bay → Bay) (s : State) :
    CausesStand s (Machine.postRequest b (s.modBay b f)) :=
  trans (t := s.modBay b f) (of_same rfl) (postRequest b _)

theorem enterLatching (b : BayIx) (s : State) : CausesStand s (enterLatching b s) :=
  (changeState b .latching s).trans (postRequest_modBay b _ _)

theorem enterUnlatching (b : BayIx) (l : Link) (s : State) : CausesStand s (enterUnlatching b l s) :=
  (changeState b .unlatching s).trans (postRequest_modBay b _ _)

theorem rederive (b : BayIx) (s : State) : CausesStand s (rederive b s) := by
  unfold Machine.rederive
  simp only
  have start : CausesStand s (s.modBay b (Bay.rederived s.clock.minute)) := of_same rfl
  split
  · exact start.trans (enterDocked b _)
  · exact start.trans (enterLatching b _)
  · exact start.trans (changeState b _ _)
  · exact start.trans (enterUnlatching b _ _)

end CausesStand

/-! ### What is posted -/

/-- The cause stands at the bay. -/
def State.posted (s : State) (b : BayIx) (c : BayCause) : Prop := ((s.changes.bays)[b]).has c = true

theorem CausesStand.posted {s t : State} (h : CausesStand s t) {b : BayIx} {c : BayCause} (k : s.posted b c) : t.posted b c :=
  h b c k

theorem postBay_posted (s : State) (b : BayIx) (c : BayCause) : (s.postBay b c).posted b c := by
  have : ((s.postBay b c).changes.bays)[b] = (s.changes.bays[b]).add c := s.postBay_cause_self b c
  rw [State.posted, this, BayCauses.has_add]
  simp

theorem changeState_posted {b : BayIx} {new : BayState} {s : State} (h : (s.bay b).state ≠ new) :
    (changeState b new s).posted b .state := by
  rw [changeState_ne b new s h]
  exact postBay_posted _ b .state

theorem enterDocked_posted {b : BayIx} {s : State} (h : (s.bay b).state ≠ .docked) : (enterDocked b s).posted b .state :=
  (CausesStand.secured b _).posted (changeState_posted h)

theorem enterLatching_posted {b : BayIx} {s : State} (h : (s.bay b).state ≠ .latching) :
    (enterLatching b s).posted b .state := by
  have still : CausesStand (changeState b .latching s) (enterLatching b s) :=
    CausesStand.postRequest_modBay b _ _
  exact still.posted (changeState_posted h)

theorem enterUnlatching_posted {b : BayIx} {l : Link} {s : State} (h : (s.bay b).state ≠ .unlatching) :
    (enterUnlatching b l s).posted b .state := by
  have still : CausesStand (changeState b .unlatching s) (enterUnlatching b l s) :=
    CausesStand.postRequest_modBay b _ _
  exact still.posted (changeState_posted h)

theorem enterFault_posted {b : BayIx} {s : State} (h : (s.bay b).state ≠ .fault) : (enterFault b s).posted b .state := by
  unfold enterFault
  simp only
  split
  · exact (CausesStand.secured b _).posted (changeState_posted h)
  · exact changeState_posted h

/-- Re-derivation to another state posts STATE (R4, R17). -/
theorem rederive_posted {b : BayIx} {s : State} (h : (s.bay b).state ≠ restState (s.bay b).presence (s.bay b).latch) :
    (rederive b s).posted b .state := by
  obtain ⟨hp, hl⟩ := Bay.rederived_levels s.clock.minute (s.bay b)
  have same : ((s.modBay b (Bay.rederived s.clock.minute)).bay b).state = (s.bay b).state := by
    rw [State.modBay_bay_self]
    unfold Bay.rederived
    cases (s.bay b).presence <;> rfl
  unfold rederive
  simp only [State.modBay_bay_self, hp, hl]
  cases h1 : (s.bay b).presence <;> cases h2 : (s.bay b).latch <;> rw [h1, h2, ← same] at h
  · exact changeState_posted h
  · exact enterUnlatching_posted h
  · exact enterLatching_posted h
  · exact enterDocked_posted h

end Sys2Proof.Machine
end

section
/-! The sense events by the state of the bay: O53, O54, O55. -/

namespace Sys2Proof.Machine

/-! ### A sense event by the points that are due -/

section Sense
variable {s : State} {b : BayIx}

theorem Presence.flip_eq (p : Presence) : p.flip = if p = .absent then .present else .absent := by cases p <;> rfl

theorem Latch.flip_eq (l : Latch) : l.flip = if l = .opened then .closed else .opened := by cases l <;> rfl

/-- With no pulse at the bay a latch that closes ends no drive. -/
theorem latchClosedEndsDrive_alone (h : ∀ (c : Fin 4) p, s.pulse? c = some p → p.bay ≠ b) : latchClosedEndsDrive b s = s := by
  have still : ∀ l : List (Fin 4), l.foldl (fun t c => match t.pulse? c with
      | some p => if p.bay = b ∧ p.kind = .latch ∧ p.phase.drives then endDrive c p t else t
      | none => t) s = s := by
    intro l
    induction l with
    | nil => rfl
    | cons c rest ih =>
      rw [List.foldl_cons]
      cases hp : s.pulse? c with
      | none => simpa [hp] using ih
      | some p => simpa [hp, h c p hp] using ih
  exact still _

/-- What the due points of a bay leave of its record (R2). -/
theorem Bay.accept_eq (y : Bay) : y.accept = { y with
    presence := if y.presenceDue then y.presence.flip else y.presence
    presenceAgree := if y.presenceDue then 0 else y.presenceAgree, presenceDue := false
    latch := if y.latchDue then y.latch.flip else y.latch, latchAgree := if y.latchDue then 0 else y.latchAgree
    latchDue := false } := by
  unfold Bay.accept
  obtain ⟨_, _, _, _, _, _, _, presenceDue, latchDue⟩ := y
  cases presenceDue <;> cases latchDue <;> rfl

theorem Bay.accept_none {y : Bay} (hp : y.presenceDue = false) (hl : y.latchDue = false) : y.accept = y := by
  simp [Bay.accept, hp, hl]

@[simp] theorem Bay.accept_state (y : Bay) : y.accept.state = y.state := by rw [Bay.accept_eq]

theorem Bay.accept_presence {y : Bay} (h : y.presenceDue = true) : y.accept.presence = y.presence.flip := by
  simp [Bay.accept_eq, h]

theorem Bay.accept_latch {y : Bay} (h : y.latchDue = true) : y.accept.latch = y.latch.flip := by
  simp [Bay.accept_eq, h]

theorem Bay.accept_presence_still {y : Bay} (h : y.presenceDue = false) : y.accept.presence = y.presence := by
  simp [Bay.accept_eq, h]

theorem Bay.accept_latch_still {y : Bay} (h : y.latchDue = false) : y.accept.latch = y.latch := by
  simp [Bay.accept_eq, h]

/-- The state after a latch that closes has ended a drive of its bay, if one was in flight. -/
def drivesEnded (b : BayIx) (y : Bay) (s : State) : State :=
  if y.latchDue = true ∧ y.accept.latch = .closed then latchClosedEndsDrive b (s.put b y.accept) else s.put b y.accept

theorem drivesEnded_alone (h : ∀ (c : Fin 4) p, s.pulse? c = some p → p.bay ≠ b) (y : Bay) :
    drivesEnded b y s = s.put b y.accept := by
  unfold drivesEnded
  split
  · exact latchClosedEndsDrive_alone h
  · rfl

theorem drivesEnded_opens (y : Bay) (h : y.accept.latch = .opened) : drivesEnded b y s = s.put b y.accept := by
  simp [drivesEnded, h]

/-- A sense event with no latch due, or at a bay for which no pulse is in flight, ends no drive. -/
theorem drivesEnded_unless (h : (s.bay b).latchDue = true → ∀ (c : Fin 4) p, s.pulse? c = some p → p.bay ≠ b) :
    drivesEnded b (s.bay b) s = s.put b (s.bay b).accept := by
  cases hl : (s.bay b).latchDue
  · simp [drivesEnded, hl]
  · exact drivesEnded_alone (h hl) _

/-- A sense event through its presence, then through its latch (R2). -/
theorem senseEvent_eq (b : BayIx) (s : State) : senseEvent b s =
    let u := if (s.bay b).presenceDue then handlePresence b (drivesEnded b (s.bay b) s) else drivesEnded b (s.bay b) s
    if (s.bay b).latchDue ∧ (u.bay b).state = (s.bay b).state then handleLatch b u else u := by
  unfold senseEvent drivesEnded
  simp only [State.modBay_eq_put, State.put_bay]

theorem senseEvent_idle (hp : (s.bay b).presenceDue = false) (hl : (s.bay b).latchDue = false) : senseEvent b s = s := by
  simp [senseEvent_eq, hp, hl, drivesEnded_unless, Bay.accept_none]

theorem senseEvent_presence (hp : (s.bay b).presenceDue = true) (hl : (s.bay b).latchDue = false) :
    senseEvent b s = handlePresence b (s.put b (s.bay b).accept) := by
  simp [senseEvent_eq, hp, hl, drivesEnded_unless]

theorem senseEvent_latch (hp : (s.bay b).presenceDue = false) (hl : (s.bay b).latchDue = true)
    (h : drivesEnded b (s.bay b) s = s.put b (s.bay b).accept) :
    senseEvent b s = handleLatch b (s.put b (s.bay b).accept) := by
  simp [senseEvent_eq, hp, hl, h]

/-- A drive that a latch ends leaves everything but channels and the CHANNEL cause. -/
structure OffChannels (s t : State) : Prop where
  frame  : t = { s with channels := t.channels, changes := t.changes }
  causes : t.changes.bays = s.changes.bays

theorem OffChannels.refl (s : State) : OffChannels s s := ⟨rfl, rfl⟩

theorem OffChannels.trans {s t u : State} (h : OffChannels s t) (k : OffChannels t u) : OffChannels s u :=
  ⟨by rw [k.frame, h.frame], k.causes.trans h.causes⟩

theorem OffChannels.endDrive (c : Fin 4) (p : Pulse) (s : State) : OffChannels s (endDrive c p s) := by
  unfold Machine.endDrive
  split <;> exact ⟨rfl, rfl⟩

theorem OffChannels.latchClosedEndsDrive (b : BayIx) (s : State) : OffChannels s (latchClosedEndsDrive b s) := by
  have each : ∀ (l : List (Fin 4)) s, OffChannels s (l.foldl (fun t c => match t.pulse? c with
      | some p => if p.bay = b ∧ p.kind = .latch ∧ p.phase.drives then Machine.endDrive c p t else t
      | none => t) s) := by
    intro l
    induction l with
    | nil => exact refl
    | cons c rest ih =>
      intro s
      refine .trans ?_ (ih _)
      simp only
      split
      · split
        · exact .endDrive c _ s
        · exact refl s
      · exact refl s
  exact each _ s

/-- What the sense event of a latch that closes leaves before the bay handles it. -/
theorem drivesEnded_frame (y : Bay) (s : State) : ∃ u, drivesEnded b y s = u.put b y.accept ∧ OffChannels s u := by
  unfold drivesEnded
  split
  · have h := OffChannels.latchClosedEndsDrive b (s.put b y.accept)
    refine ⟨{ s with channels := (latchClosedEndsDrive b (s.put b y.accept)).channels
                     changes := (latchClosedEndsDrive b (s.put b y.accept)).changes }, h.frame, rfl, h.causes⟩
  · exact ⟨s, rfl, .refl s⟩

/-- With the presence that changes the state the latch change asks for nothing more. -/
theorem senseEvent_moved (hp : (s.bay b).presenceDue = true)
    (h : ((handlePresence b (drivesEnded b (s.bay b) s)).bay b).state ≠ (s.bay b).state) :
    senseEvent b s = handlePresence b (drivesEnded b (s.bay b) s) := by
  simp [senseEvent_eq, hp, h]

end Sense

/-! ### The rule of each state -/

section Rules
variable {s : State} {b : BayIx}

theorem handlePresence_vacant (h : (s.bay b).state = .vacant) (p : (s.bay b).presence = .present) :
    handlePresence b s = vacantRise b s := by simp only [handlePresence, h, p]

theorem handlePresence_latching_falls (h : (s.bay b).state = .latching) (p : (s.bay b).presence = .absent) :
    handlePresence b s = presenceMoved b (forgetBike b s) := by simp only [handlePresence, h, p]

theorem handlePresence_latching_rises (h : (s.bay b).state = .latching) (p : (s.bay b).presence = .present) :
    handlePresence b s = if (s.bay b).presenceChanged then recordArrival b s else s := by simp only [handlePresence, h, p]

theorem handlePresence_docked (h : (s.bay b).state = .docked) (p : (s.bay b).presence = .absent) :
    handlePresence b s = dockedFall b s := by simp only [handlePresence, h, p]

theorem handlePresence_unlatching_falls (h : (s.bay b).state = .unlatching) (p : (s.bay b).presence = .absent) :
    handlePresence b s = unlatchingFall b s := by simp only [handlePresence, h, p]

theorem handlePresence_unlatching_rises (h : (s.bay b).state = .unlatching) (p : (s.bay b).presence = .present) :
    handlePresence b s = unlatchingRise b s := by simp only [handlePresence, h, p]

theorem handlePresence_released (h : (s.bay b).state = .released) (p : (s.bay b).presence = .absent) :
    handlePresence b s = rederive b (removeBike b s) := by simp only [handlePresence, h, p]

theorem handlePresence_fault_falls (h : (s.bay b).state = .fault) (p : (s.bay b).presence = .absent) :
    handlePresence b s = faultFall b s := by simp only [handlePresence, h, p]

theorem handlePresence_fault_rises (h : (s.bay b).state = .fault) (p : (s.bay b).presence = .present) :
    handlePresence b s = s := by simp only [handlePresence, h, p]

theorem handlePresence_service (h : (s.bay b).state = .service) : handlePresence b s = s := by
  simp only [handlePresence, h]

theorem handleLatch_vacant (h : (s.bay b).state = .vacant) (l : (s.bay b).latch = .closed) (p : (s.bay b).presence = .absent) :
    handleLatch b s = enterUnlatching b .readiness s := by simp only [handleLatch, h, l, p]

theorem handleLatch_latching (h : (s.bay b).state = .latching) (l : (s.bay b).latch = .closed)
    (d : (s.bay b).driveStage = .queued ∨ (s.bay b).driveStage = .retryWait) : handleLatch b s = closedUndriven b s := by
  simp only [handleLatch, h, l, if_pos d]

theorem handleLatch_docked (h : (s.bay b).state = .docked) (l : (s.bay b).latch = .opened) (p : (s.bay b).presence = .present) :
    handleLatch b s = latchSlip b s := by simp only [handleLatch, h, l, p]

theorem handleLatch_released (h : (s.bay b).state = .released) (l : (s.bay b).latch = .closed)
    (p : (s.bay b).presence = .present) : handleLatch b s = enterDocked b (discardRelease b .latchReclosed s) := by
  simp only [handleLatch, h, l, p]

theorem handleLatch_still (h : (s.bay b).state = .fault ∨ (s.bay b).state = .service) : handleLatch b s = s := by
  rcases h with h | h <;> simp only [handleLatch, h]

end Rules

/-! ### The arrival of a bike -/

/-- A sense event of a running part. -/
theorem exec_senseEvent {s t : State} {b : BayIx} (h : s.works) (e : senseEvent b s = t) :
    exec (.senseEvent b) s = .next t := congrArg Host.Outcome.next ((whenRunning_works s _ h).trans e)

/-- Settles O53. -/
theorem arrivalAtAVacantBay : Obligations.ArrivalAtAVacantBay := by
  intro s b hs y posted
  refine ⟨fun hp hl => exec_senseEvent hs (senseEvent_idle hp hl), fun hv ha hp hl ho => exec_senseEvent hs ?_,
    fun hv ha hp h => ?_, fun hv ha hp ho hl alone => exec_senseEvent hs ?_⟩
  · have vacant : y.accept.state = .vacant := by simp [hv]
    have present : y.accept.presence = .present := by rw [Bay.accept_presence hp, ha]; rfl
    have opened : y.accept.latch = .opened := by rw [Bay.accept_latch_still hl, ho]
    rw [senseEvent_presence hp hl, handlePresence_vacant (by simpa using hv) (by simpa using present),
      vacantRise_opened s b _ opened, enterLatching_put, State.entered_ne (by simp [Bay.arrived, hv]), Bay.changedTo_ne (by simp [Bay.arrived, hv])]
    simp [Bay.arrived, Bay.accept_eq, y, hv, ha, hp, hl, ho, Presence.flip, State.put, State.postBay, posted, BayCauses.add]
  · have vacant : y.accept.state = .vacant := by simp [hv]
    have present : y.accept.presence = .present := by rw [Bay.accept_presence hp, ha]; rfl
    have closed : y.accept.latch = .closed := by
      rcases h with ⟨h1, h2⟩ | ⟨h1, h2⟩ <;> simp [Bay.accept_eq, h1, h2, Latch.flip]
    obtain ⟨u, hu, same⟩ := drivesEnded_frame (b := b) y s
    have handled : handlePresence b (drivesEnded b y s) = enterDocked b (u.put b (y.accept.arrived s.clock.minute)) := by
      rw [hu, handlePresence_vacant (by simpa using vacant) (by simpa using present), vacantRise_closed u b _ closed,
        same.frame]
    have moved : ((handlePresence b (drivesEnded b y s)).bay b).state ≠ y.state := by
      rw [handled, enterDocked_state]; simp [hv]
    have off : ∀ o, o ≠ b → u.bay o = s.bay o := fun o _ => by rw [same.frame]; rfl
    refine ⟨_, exec_senseEvent hs ((senseEvent_moved hp moved).trans handled), ?_, ?_, fun o ho => ?_, ?_, ?_⟩
    · rw [enterDocked_queue, same.frame]; rfl
    · rw [enterDocked_nextOrder, same.frame]; rfl
    · rw [enterDocked_other b o _ ho, State.put_other _ _ _ ho, off o ho]
    · exact enterDocked_posted (by rw [State.put_bay]; exact ne_of_eq_of_ne vacant (by decide))
    · have record : (y.accept.arrived s.clock.minute).state ≠ .docked := ne_of_eq_of_ne vacant (by decide)
      have bay := secured_bay b (u.entered b .docked .off (y.accept.arrived s.clock.minute))
      have arrival := secured_arrival b (u.entered b .docked .off (y.accept.arrived s.clock.minute)) (m := s.clock.minute)
      rw [State.entered_bay, Bay.changedTo_ne record] at arrival
      rw [State.entered_bay, Bay.changedTo_ne record, ← enterDocked_put_eq] at bay
      have identity : ((enterDocked b (u.put b (y.accept.arrived s.clock.minute))).bay b).identity =
          (y.pendingTag.map (·.identity)).or y.identity := by rw [bay]; simp [Bay.arrived, Bay.accept_eq]
      refine ⟨enterDocked_state b _, ?_, ?_, ?_, identity, ?_, ?_, ?_, fun alone => ?_, fun unknown => ?_⟩
      · rw [bay]; exact present
      · rw [bay]; exact closed
      · rw [enterDocked_put_eq]; exact arrival rfl
      · rw [bay]; exact if_pos vacant
      · rw [bay]; simp [Bay.arrived, Bay.accept_eq]
      · rw [bay]; simp [Bay.arrived, Bay.accept_eq]
      · have still : u.put b y.accept = s.put b y.accept := by
          rw [← hu]
          cases hl : y.latchDue
          · simp [drivesEnded, hl]
          · exact drivesEnded_alone (alone hl) y
        have arrived : y.accept.arrived s.clock.minute = { y with
            presence := .present, presenceAgree := 0, presenceDue := false, latch := .closed
            latchAgree := if y.latchDue = true then 0 else y.latchAgree, latchDue := false
            arrival := some s.clock.minute, identity := (y.pendingTag.map (·.identity)).or y.identity
            pendingTag := none } := by
          rw [← present, ← closed]
          simp [Bay.arrived, Bay.accept_eq, hp]
        rw [← arrived, ← u.put_put b y.accept, still, State.put_put]
        exact enterDocked_put s b _
      · have none : ((u.entered b .docked .off (y.accept.arrived s.clock.minute)).bay b).identity = none := by
          rw [State.entered_bay, Bay.changedTo_ne record, ← unknown, identity]
          simp [Bay.arrived, Bay.accept_eq]
        rw [enterDocked_put_eq, secured_unknown b _ none, State.put_bay, same.frame]
        rfl
  · have vacant : y.accept.state = .vacant := by simp [hv]
    have absent : y.accept.presence = .absent := by rw [Bay.accept_presence_still hp, ha]
    have closed : y.accept.latch = .closed := by rw [Bay.accept_latch hl, ho]; rfl
    rw [senseEvent_latch hp hl (drivesEnded_alone alone _),
      handleLatch_vacant (by simpa using hv) (by simpa using closed) (by simpa using absent),
      enterReadiness_put, State.entered_ne (by simpa [y] using ne_of_eq_of_ne hv (by decide)),
      Bay.changedTo_ne (by simpa [y] using ne_of_eq_of_ne hv (by decide))]
    simp [Bay.accept_eq, y, hv, ha, hp, hl, ho, Latch.flip, State.put, State.postBay, posted, BayCauses.add]

end Sys2Proof.Machine
end

section
/-! A bike that leaves with no release, a latch that slips or shuts, FAULT and SERVICE: O55. -/

namespace Sys2Proof.Machine

/-- The state with the ALARM cause of a bay posted, where one is raised. -/
def State.alarmed (s : State) (b : BayIx) (raised : Bool) : State :=
  { s with changes := { s.changes with
      bays := s.changes.bays.set b.val { s.changes.bays[b] with alarm := raised || (s.changes.bays[b]).alarm } b.isLt } }

/-- UNRENTED_REMOVAL in the alarm set, where it is raised. -/
def Bay.unrented (y : Bay) (raised : Bool) : Bay :=
  { y with alarms := { y.alarms with unrentedRemoval := raised || y.alarms.unrentedRemoval } }

theorem alarmed_posted (s : State) (b : BayIx) : (s.alarmed b true).posted b .alarm := by
  simp [State.posted, State.alarmed, BayCauses.has]

section
variable (s : State) (b : BayIx) (y : Bay)

theorem raiseUnrented_put (p : Prop) [Decidable p] : (if p then raiseAlarm b .unrentedRemoval (s.put b y) else s.put b y) =
    (s.alarmed b (decide p)).put b (y.unrented (decide p)) := by
  split
  · rename_i h
    rw [raiseAlarm_put]
    simp [State.alarmed, Bay.unrented, h, State.postBay, BayCauses.add, Alarms.add]
  · rename_i h
    rw [decide_eq_false h]
    have still : s.alarmed b false = s := by
      show { s with changes := { s.changes with bays := s.changes.bays.set b.val s.changes.bays[b.val] b.isLt } } = s
      rw [Vector.set_getElem_self]
    rw [still]
    rfl

/-- The record of a bay in DOCKED or FAULT whose bike has gone. -/
def Bay.left (y : Bay) : Bay := { y.clearBike with tagWindow := none }

theorem dockedFall_put : dockedFall b (s.put b y) =
    rederive b ((s.alarmed b y.identity.isSome).put b (y.left.unrented y.identity.isSome)) := by
  unfold dockedFall
  simp only [State.put_bay]
  rw [raiseUnrented_put, forgetBike_put, State.modBay_put, Bool.decide_coe]
  rfl

theorem faultFall_put : faultFall b (s.put b y) =
    (s.alarmed b (y.identity.isSome && !y.processed)).put b (y.left.unrented (y.identity.isSome && !y.processed)) := by
  have raised : decide (y.identity.isSome = true ∧ ¬ y.processed = true) = (y.identity.isSome && !y.processed) := by
    cases y.identity.isSome <;> cases y.processed <;> rfl
  unfold faultFall
  simp only [State.put_bay]
  rw [raiseUnrented_put, forgetBike_put, State.modBay_put, raised]
  rfl

theorem latchSlip_put : latchSlip b (s.put b y) = enterLatching b
    ((s.postBay b .alarm).put b { y with alarms := { y.alarms with latchSlip := true }, tagWindow := none }) := by
  unfold latchSlip
  rw [raiseAlarm_put, State.modBay_put]
  rfl

theorem closedUndriven_put : closedUndriven b (s.put b y) =
    enterDocked b ((s.unqueued b).put b { y with driveStage := .noRequest, retryDelay := none, attempts := 0 }) := by
  unfold closedUndriven
  rw [withdrawRequest_put, State.modBay_put]

end

/-- The record from which a DOCKED bay is re-derived once its bike has gone (R7). -/
def Bay.dockedGone (y : Bay) : Bay := y.accept.left.unrented y.identity.isSome

/-- The record from which a LATCHING bay is re-derived once its bike has gone and its request is withdrawn (R6). -/
def Bay.latchingGone (y : Bay) : Bay :=
  { y.accept.clearBike with link := .unlinked, driveStage := .noRequest, retryDelay := none }

theorem Bay.dockedGone_levels (y : Bay) : y.dockedGone.state = y.state ∧ y.dockedGone.presence = y.accept.presence ∧
    y.dockedGone.latch = y.accept.latch := by
  simp [Bay.dockedGone, Bay.unrented, Bay.left, Bay.clearBike]

theorem Bay.latchingGone_levels (y : Bay) : y.latchingGone.state = y.state ∧ y.latchingGone.presence = y.accept.presence ∧
    y.latchingGone.latch = y.accept.latch := by
  simp [Bay.latchingGone, Bay.clearBike]

theorem Bay.dockedGone_eq {y : Bay} (hp : y.presence = .present) (hd : y.presenceDue = true) : y.dockedGone = { y with
    presence := .absent, presenceAgree := 0, presenceDue := false, identity := none, arrival := none, processed := false
    latch := if y.latchDue = true then (if y.latch = .opened then .closed else .opened) else y.latch
    latchAgree := if y.latchDue = true then 0 else y.latchAgree, latchDue := false, tagWindow := none
    alarms := { y.alarms with unrentedRemoval := y.identity.isSome || y.alarms.unrentedRemoval } } := by
  simp only [Bay.dockedGone, Bay.unrented, Bay.left, Bay.clearBike, Bay.accept_eq, hp, hd, Presence.flip, Latch.flip_eq,
    if_true]

theorem Bay.latchingGone_eq {y : Bay} (hp : y.presence = .present) (hd : y.presenceDue = true) : y.latchingGone = { y with
    presence := .absent, presenceAgree := 0, presenceDue := false, identity := none, arrival := none, processed := false
    latch := if y.latchDue = true then (if y.latch = .opened then .closed else .opened) else y.latch
    latchAgree := if y.latchDue = true then 0 else y.latchAgree, latchDue := false
    link := .unlinked, driveStage := .noRequest, retryDelay := none } := by
  simp only [Bay.latchingGone, Bay.clearBike, Bay.accept_eq, hp, hd, Presence.flip, Latch.flip_eq, if_true]

theorem Bay.accept_identity (y : Bay) : y.accept.identity = y.identity := by rw [Bay.accept_eq]

theorem Bay.accept_driveStage (y : Bay) : y.accept.driveStage = y.driveStage := by rw [Bay.accept_eq]

section
variable {s : State} {b : BayIx} (hd : (s.bay b).presenceDue = true) (hp : (s.bay b).presence = .present)
include hd hp

theorem accept_absent : (s.bay b).accept.presence = .absent := by rw [Bay.accept_presence hd, hp]; rfl

variable (h : drivesEnded b (s.bay b) s = s.put b (s.bay b).accept)
include h

/-- The bike of a DOCKED bay leaves: the bay is re-derived without it. -/
theorem senseEvent_docked_falls (hs : (s.bay b).state = .docked) :
    senseEvent b s = rederive b ((s.alarmed b (s.bay b).identity.isSome).put b (s.bay b).dockedGone) := by
  have absent := accept_absent hd hp
  have falls : handlePresence b (s.put b (s.bay b).accept) =
      rederive b ((s.alarmed b (s.bay b).identity.isSome).put b (s.bay b).dockedGone) := by
    rw [handlePresence_docked (by simpa using hs) (by simpa using absent), dockedFall_put, Bay.accept_identity]
    rfl
  rw [senseEvent_moved hd, h, falls]
  have gone : (s.bay b).dockedGone.presence = .absent := (s.bay b).dockedGone_levels.2.1.trans absent
  rw [h, falls, rederive_state, State.put_bay, hs, gone]
  cases (s.bay b).dockedGone.latch <;> decide

/-- The bike of a LATCHING bay with no pulse in flight leaves: the request is withdrawn and the bay re-derived. -/
theorem senseEvent_latching_falls (hs : (s.bay b).state = .latching) (u : (s.bay b).driveStage ≠ .driving) :
    senseEvent b s = rederive b ((s.unqueued b).put b (s.bay b).latchingGone) := by
  have absent := accept_absent hd hp
  have falls : handlePresence b (s.put b (s.bay b).accept) = rederive b ((s.unqueued b).put b (s.bay b).latchingGone) := by
    rw [handlePresence_latching_falls (by simpa using hs) (by simpa using absent), forgetBike_put,
      presenceMoved_undriven s b (s.bay b).accept.clearBike ((s.bay b).accept_driveStage.trans_ne u)]
    rfl
  rw [senseEvent_moved hd, h, falls]
  have gone : (s.bay b).latchingGone.presence = .absent := (s.bay b).latchingGone_levels.2.1.trans absent
  rw [h, falls, rederive_state, State.put_bay, hs, gone]
  cases (s.bay b).latchingGone.latch <;> decide

end

/-- The latch of a LATCHING bay with no pulse in flight closes: the bay is DOCKED. -/
theorem senseEvent_latching_closes {s : State} {b : BayIx} (hs : (s.bay b).state = .latching)
    (d : (s.bay b).driveStage = .queued ∨ (s.bay b).driveStage = .retryWait) (hp : (s.bay b).presenceDue = false)
    (hl : (s.bay b).latchDue = true) (l : (s.bay b).latch = .opened)
    (h : ∀ (c : Fin 4) p, s.pulse? c = some p → p.bay ≠ b) :
    senseEvent b s = enterDocked b ((s.unqueued b).put b { s.bay b with
      latch := .closed, latchAgree := 0, latchDue := false, driveStage := .noRequest, retryDelay := none, attempts := 0 }) := by
  have closed : (s.bay b).accept.latch = .closed := by rw [Bay.accept_latch hl, l]; rfl
  rw [senseEvent_latch hp hl (drivesEnded_alone h _), handleLatch_latching (by simpa using hs) (by simpa using closed)
    (by simpa [Bay.accept_driveStage] using d), closedUndriven_put]
  simp [Bay.accept_eq, hp, hl, l, Latch.flip]

/-- In FAULT and SERVICE the levels are written, and a fall in FAULT has its own rule (R10, R11). -/
theorem senseEvent_resting {s : State} {b : BayIx} (hs : (s.bay b).state = .fault ∨ (s.bay b).state = .service)
    (h : drivesEnded b (s.bay b) s = s.put b (s.bay b).accept) :
    senseEvent b s = if (s.bay b).state = .fault ∧ (s.bay b).presence = .present ∧ (s.bay b).presenceDue = true
      then faultFall b (s.put b (s.bay b).accept) else s.put b (s.bay b).accept := by
  have resting : ((s.put b (s.bay b).accept).bay b).state = .fault ∨ ((s.put b (s.bay b).accept).bay b).state = .service := by
    simpa using hs
  have handled : (if (s.bay b).presenceDue then handlePresence b (s.put b (s.bay b).accept) else s.put b (s.bay b).accept) =
      if (s.bay b).state = .fault ∧ (s.bay b).presence = .present ∧ (s.bay b).presenceDue = true
        then faultFall b (s.put b (s.bay b).accept) else s.put b (s.bay b).accept := by
    cases due : (s.bay b).presenceDue
    · simp
    · rcases hs with hs | hs
      · cases p : (s.bay b).presence
        · have present : (s.bay b).accept.presence = .present := by rw [Bay.accept_presence due, p]; rfl
          simp [handlePresence_fault_rises (s := s.put b (s.bay b).accept) (b := b) (by simpa using hs) (by simpa using present)]
        · have absent := accept_absent due p
          simp [handlePresence_fault_falls (s := s.put b (s.bay b).accept) (b := b) (by simpa using hs) (by simpa using absent), hs]
      · simp [handlePresence_service (s := s.put b (s.bay b).accept) (b := b) (by simpa using hs), hs]
  have after : ∀ u : State, (u.bay b).state = .fault ∨ (u.bay b).state = .service →
      (if (s.bay b).latchDue = true ∧ (u.bay b).state = (s.bay b).state then handleLatch b u else u) = u := fun u hu => by
    rw [handleLatch_still hu, ite_self]
  rw [senseEvent_eq, h]
  simp only [handled]
  refine after _ ?_
  split
  · rename_i c
    refine .inl ?_
    rw [faultFall_put, State.put_bay]
    exact (Bay.accept_state _).trans c.1
  · exact resting

theorem senseEvent_fault_falls {s : State} {b : BayIx} (hs : (s.bay b).state = .fault) (hp : (s.bay b).presence = .present)
    (hd : (s.bay b).presenceDue = true) (h : drivesEnded b (s.bay b) s = s.put b (s.bay b).accept) :
    senseEvent b s = (s.alarmed b ((s.bay b).identity.isSome && !(s.bay b).processed)).put b
      ((s.bay b).accept.left.unrented ((s.bay b).identity.isSome && !(s.bay b).processed)) := by
  have processed : (s.bay b).accept.processed = (s.bay b).processed := by rw [Bay.accept_eq]
  rw [senseEvent_resting (.inl hs) h, if_pos ⟨hs, hp, hd⟩, faultFall_put, Bay.accept_identity, processed]

theorem senseEvent_resting_still {s : State} {b : BayIx} (hs : (s.bay b).state = .fault ∨ (s.bay b).state = .service)
    (h : drivesEnded b (s.bay b) s = s.put b (s.bay b).accept)
    (k : ¬ ((s.bay b).state = .fault ∧ (s.bay b).presence = .present ∧ (s.bay b).presenceDue = true)) :
    senseEvent b s = s.put b (s.bay b).accept := by rw [senseEvent_resting hs h, if_neg k]

theorem alarmed_put_posted (s : State) (b : BayIx) (raised : Bool) (y : Bay) :
    ((s.alarmed b raised).put b y).postBay b .state = { s with
      bays := s.bays.set b.val y b.isLt
      changes := { s.changes with bays := s.changes.bays.set b.val { s.changes.bays[b] with
        state := true, alarm := raised || (s.changes.bays[b]).alarm } b.isLt } } := by
  simp [State.alarmed, State.put, State.postBay, BayCauses.add]

section Clauses
variable {s : State} {b : BayIx}

/-- Bike and latch leave together: the bay is VACANT. -/
theorem senseEvent_docked_opens (hs : (s.bay b).state = .docked) (hp : (s.bay b).presence = .present)
    (hd : (s.bay b).presenceDue = true) (l : (s.bay b).latch = .closed) (hl : (s.bay b).latchDue = true) :
    senseEvent b s = { s with
      bays := s.bays.set b.val { s.bay b with
        state := .vacant, presence := .absent, presenceAgree := 0, presenceDue := false, latch := .opened, latchAgree := 0
        latchDue := false, identity := none, arrival := none, processed := false, tagWindow := none
        alarms := { (s.bay b).alarms with
          unrentedRemoval := (s.bay b).identity.isSome || (s.bay b).alarms.unrentedRemoval }
        attempts := 0, presenceChanged := false, faultCause := none, link := .unlinked, driveStage := .noRequest
        lamp := .off
        lampPhase := if (s.bay b).lamp = .off then (s.bay b).lampPhase else 0
        lampSince := if (s.bay b).lamp = .off then (s.bay b).lampSince else s.ms } b.isLt
      changes := { s.changes with bays := s.changes.bays.set b.val { s.changes.bays[b] with
        state := true, alarm := (s.bay b).identity.isSome || (s.changes.bays[b]).alarm } b.isLt } } := by
  have opened : (s.bay b).accept.latch = .opened := by rw [Bay.accept_latch hl, l]; rfl
  obtain ⟨state, presence, latch⟩ := (s.bay b).dockedGone_levels
  have docked : (s.bay b).dockedGone.emptied.state ≠ .vacant := by
    rw [Bay.emptied, state, hs]
    decide
  rw [senseEvent_docked_falls hd hp (drivesEnded_opens _ opened) hs,
    rederive_vacant _ b (s.bay b).dockedGone (presence.trans (accept_absent hd hp)) (latch.trans opened),
    State.entered_ne docked, alarmed_put_posted, Bay.changedTo_ne docked]
  generalize s.bay b = y at *
  simp only [Bay.dockedGone, Bay.emptied, Bay.unrented, Bay.left, Bay.clearBike, Bay.accept_eq, hs, hp, hd, l, hl,
    Latch.flip, Presence.flip, if_true, reduceCtorEq, or_self, or_false, if_false, State.alarmed]

/-- The latch slips open under a bike: LATCHING with LATCH posted. -/
theorem senseEvent_docked_slips (hs : (s.bay b).state = .docked) (hp : (s.bay b).presence = .present)
    (hd : (s.bay b).presenceDue = false) (l : (s.bay b).latch = .closed) (hl : (s.bay b).latchDue = true) :
    senseEvent b s = { s with
      queue := s.queue ++ [⟨b, .latch, s.nextOrder⟩], nextOrder := s.nextOrder + 1
      bays := s.bays.set b.val { s.bay b with
        state := .latching, latch := .opened, latchAgree := 0, latchDue := false, tagWindow := none, link := .unlinked
        alarms := { (s.bay b).alarms with latchSlip := true }, driveStage := .queued, attempts := 0, lamp := .slow
        lampPhase := if (s.bay b).lamp = .slow then (s.bay b).lampPhase else 0
        lampSince := if (s.bay b).lamp = .slow then (s.bay b).lampSince else s.ms } b.isLt
      changes := { s.changes with
        bays := s.changes.bays.set b.val { s.changes.bays[b] with state := true, alarm := true } b.isLt } } := by
  have opened : (s.bay b).accept.latch = .opened := by rw [Bay.accept_latch hl, l]; rfl
  have present : (s.bay b).accept.presence = .present := by rw [Bay.accept_presence_still hd, hp]
  have docked : (s.bay b).state ≠ .latching := ne_of_eq_of_ne hs (by decide)
  rw [senseEvent_latch hd hl (drivesEnded_opens _ opened), handleLatch_docked (by simpa using hs) (by simpa using opened)
    (by simpa using present), latchSlip_put, enterLatching_put, State.entered_ne (by simpa using docked),
    Bay.changedTo_ne (by simpa using docked)]
  generalize hy : s.bay b = y at *
  simp only [Bay.accept_eq, hs, hp, hd, l, hl, Latch.flip, if_true, reduceCtorEq, or_false, or_self, if_false, State.put,
    State.postBay, BayCauses.add, Bool.false_eq_true]
  simp

/-- The bike falls out of a LATCHING bay during a pulse: the mark is set. -/
theorem senseEvent_latching_driven (hs : (s.bay b).state = .latching) (d : (s.bay b).driveStage = .driving)
    (hp : (s.bay b).presence = .present) (hd : (s.bay b).presenceDue = true) (hl : (s.bay b).latchDue = false) :
    senseEvent b s = s.put b { (s.bay b).accept.clearBike with presenceChanged := true } := by
  rw [senseEvent_presence hd hl, handlePresence_latching_falls (by simpa using hs) (by simpa using accept_absent hd hp),
    forgetBike_put, presenceMoved_driven s b (s.bay b).accept.clearBike ((s.bay b).accept_driveStage.trans d)]

/-- A bike that comes back during that pulse is recorded. -/
theorem senseEvent_latching_back (hs : (s.bay b).state = .latching) (m : (s.bay b).presenceChanged = true)
    (hp : (s.bay b).presence = .absent) (hd : (s.bay b).presenceDue = true) (hl : (s.bay b).latchDue = false) :
    senseEvent b s = s.put b { (s.bay b).accept with arrival := some s.clock.minute } := by
  have present : (s.bay b).accept.presence = .present := by rw [Bay.accept_presence hd, hp]; rfl
  have marked : ((s.put b (s.bay b).accept).bay b).presenceChanged = true := by rw [State.put_bay, Bay.accept_eq]; exact m
  rw [senseEvent_presence hd hl, handlePresence_latching_rises (by simpa using hs) (by simpa using present), if_pos marked,
    recordArrival_put]

/-- The bike of a DOCKED bay leaves its latch CLOSED: UNLATCHING under the readiness mark. -/
theorem senseEvent_docked_shut (hs : (s.bay b).state = .docked) (hp : (s.bay b).presence = .present)
    (hd : (s.bay b).presenceDue = true) (l : (s.bay b).latch = .closed) (hl : (s.bay b).latchDue = false) :
    senseEvent b s = { ((s.alarmed b (s.bay b).identity.isSome).put b
        (({ (s.bay b).dockedGone.emptied with link := .readiness, driveStage := .queued } : Bay).changedTo s.ms .unlatching
          .slow)).postBay b .state with
      queue := s.queue ++ [⟨b, .unlatchReady, s.nextOrder⟩], nextOrder := s.nextOrder + 1 } := by
  have closed : (s.bay b).accept.latch = .closed := by rw [Bay.accept_latch_still hl, l]
  obtain ⟨state, presence, latch⟩ := (s.bay b).dockedGone_levels
  have docked : ({ (s.bay b).dockedGone.emptied with link := .readiness, driveStage := .queued } : Bay).state ≠ .unlatching :=
    ne_of_eq_of_ne (state.trans hs) (by decide)
  rw [senseEvent_docked_falls hd hp (drivesEnded_unless fun k => absurd k (by simp [hl])) hs,
    rederive_readiness _ b (s.bay b).dockedGone (presence.trans (accept_absent hd hp)) (latch.trans closed),
    State.entered_ne docked]
  rfl

/-- The bike of a LATCHING bay leaves with the latch OPEN: VACANT, its request withdrawn. -/
theorem senseEvent_latching_opened (hs : (s.bay b).state = .latching) (u : (s.bay b).driveStage ≠ .driving)
    (hp : (s.bay b).presence = .present) (hd : (s.bay b).presenceDue = true) (l : (s.bay b).latch = .opened)
    (hl : (s.bay b).latchDue = false) :
    senseEvent b s = ((s.unqueued b).put b ((s.bay b).latchingGone.emptied.changedTo s.ms .vacant .off)).postBay b .state := by
  have opened : (s.bay b).accept.latch = .opened := by rw [Bay.accept_latch_still hl, l]
  obtain ⟨state, presence, latch⟩ := (s.bay b).latchingGone_levels
  have latching : (s.bay b).latchingGone.emptied.state ≠ .vacant := ne_of_eq_of_ne (state.trans hs) (by decide)
  rw [senseEvent_latching_falls hd hp (drivesEnded_unless fun k => absurd k (by simp [hl])) hs u,
    rederive_vacant _ b (s.bay b).latchingGone (presence.trans (accept_absent hd hp)) (latch.trans opened),
    State.entered_ne latching]
  rfl

end Clauses

/-- Settles O55. -/
theorem unrentedRemovalFromDocked : Obligations.UnrentedRemovalFromDocked := by
  intro s b hs y set falls rises alone left latch gone alarmed alarms filtered
  have quiet := fun h => drivesEnded_unless (s := s) (b := b) h
  have undriven : y.driveStage = .queued ∨ y.driveStage = .retryWait → y.driveStage ≠ .driving := by
    rintro (d | d) <;> simp [d]
  refine ⟨fun st p pd l ld => exec_senseEvent hs (senseEvent_docked_opens st p pd l ld),
    fun st p pd h => ⟨_, exec_senseEvent hs (senseEvent_docked_falls pd p (quiet h) st), ?_⟩,
    fun st p pd h d => ⟨_, exec_senseEvent hs (senseEvent_latching_falls pd p (quiet h) st (undriven d)), ?_⟩,
    fun st d p l ld h => ⟨_, exec_senseEvent hs (senseEvent_latching_closes st d p ld l h), enterDocked_put filtered b _⟩,
    fun st p l h => exec_senseEvent hs ?_,
    fun st ⟨p, pd, ld⟩ l => ⟨_, exec_senseEvent hs (senseEvent_docked_shut st p pd l ld), ?_⟩,
    fun st p pd l ld => exec_senseEvent hs (senseEvent_docked_slips st p pd l ld),
    fun st ⟨p, pd, ld⟩ d l => ⟨_, exec_senseEvent hs (senseEvent_latching_opened st (undriven d) p pd l ld), ?_⟩,
    fun st d => ⟨fun ⟨p, pd, ld⟩ => exec_senseEvent hs ?_, fun ⟨p, pd, ld⟩ m => exec_senseEvent hs ?_⟩,
    fun st d p l ld h => ⟨_, exec_senseEvent hs (senseEvent_latching_closes st d p ld l h), ?_⟩,
    fun st => ⟨fun ⟨p, pd, ld⟩ => exec_senseEvent hs ?_, fun ⟨p, pd, ld⟩ => exec_senseEvent hs ?_⟩,
    fun st p l h => exec_senseEvent hs ?_, fun st p l => exec_senseEvent hs ?_⟩
  · have record : y.dockedGone = { gone with tagWindow := none, alarms := alarms } := Bay.dockedGone_eq p pd
    rw [← record]
    exact rederive_put (s.alarmed b y.identity.isSome) b y.dockedGone
  · have record : y.latchingGone =
        { gone with link := .unlinked, driveStage := .noRequest, retryDelay := none } := Bay.latchingGone_eq p pd
    exact (rederive_put filtered b y.latchingGone).of_request (by rw [record])
  · by_cases c : y.state = .fault ∧ y.presence = .present
    · have record : y.accept.left.unrented (y.identity.isSome && !y.processed) = { gone with
          tagWindow := none
          alarms := { y.alarms with
            unrentedRemoval := (y.identity.isSome && !y.processed) || y.alarms.unrentedRemoval } } := by
        simp only [Bay.left, Bay.unrented, Bay.clearBike, Bay.accept_eq, gone, left, latch, p, c.2, Presence.flip,
          Latch.flip_eq, if_true]
      rw [if_pos c, senseEvent_fault_falls c.1 c.2 p (quiet fun _ => h)]
      exact congrArg ((s.alarmed b (y.identity.isSome && !y.processed)).put b) record
    · rw [if_neg c, senseEvent_resting_still st (quiet fun _ => h) fun k => c ⟨k.1, k.2.1⟩]
      refine congrArg (s.put b) ?_
      simp only [Bay.accept_eq, latch, y, show (s.bay b).presenceDue = _ from p, show (s.bay b).latchDue = _ from l,
        Presence.flip_eq, Latch.flip_eq, if_true]
  · obtain ⟨state, -, -⟩ := y.dockedGone_levels
    have docked : ({ y.dockedGone.emptied with link := .readiness, driveStage := .queued } : Bay).state ≠ .unlatching :=
      ne_of_eq_of_ne (state.trans st) (by decide)
    refine ⟨fun o ho => State.put_other _ b _ ho, rfl, rfl, rfl, ?_⟩
    intro z
    have record : z = _ := State.put_bay (s.alarmed b y.identity.isSome) b _
    rw [Bay.changedTo_ne docked, Bay.emptied, Bay.dockedGone_eq p pd] at record
    rw [record]
    refine ⟨rfl, rfl, rfl, rfl, rfl, rfl, ite_self none, rfl, rfl, fun known => ?_, postBay_posted _ b .state⟩
    rw [known]
    exact (CausesStand.postBay _ b .state).posted (alarmed_posted s b)
  · obtain ⟨state, -, -⟩ := y.latchingGone_levels
    have latching : y.latchingGone.emptied.state ≠ .vacant := ne_of_eq_of_ne (state.trans st) (by decide)
    refine ⟨fun o ho => State.put_other _ b _ ho, rfl, rfl, rfl, rfl, ?_⟩
    intro z
    have record : z = _ := State.put_bay (s.unqueued b) b _
    rw [Bay.changedTo_ne latching, Bay.emptied, Bay.latchingGone_eq p pd] at record
    rw [record]
    exact ⟨rfl, rfl, ite_self none, rfl, rfl, rfl, rfl, postBay_posted _ b .state⟩
  · rw [senseEvent_latching_driven st d p pd ld]
    have record : y.accept.clearBike = left := by
      simp only [Bay.accept_eq, Bay.clearBike, left, p, pd, ld, Presence.flip, if_true, if_false, Bool.false_eq_true]
    exact congrArg (s.put b) (congrArg (fun z : Bay => { z with presenceChanged := true }) record)
  · rw [senseEvent_latching_back st m p pd ld]
    refine congrArg (s.put b) ?_
    simp only [Bay.accept_eq, y, show (s.bay b).presence = _ from p, show (s.bay b).presenceDue = _ from pd,
      show (s.bay b).latchDue = _ from ld, Presence.flip, if_true, if_false, Bool.false_eq_true]
  · refine ⟨fun o ho => (enterDocked_other b o _ ho).trans (State.put_other _ b _ ho), ?_, ?_, ?_⟩
    · rw [enterDocked_queue]; rfl
    · exact (AtBays.enterDocked b _).channels
    · have latching : ∀ z : Bay, z.state = y.state → z.state ≠ .docked := fun z e => ne_of_eq_of_ne (e.trans st) (by decide)
      intro z
      have record : z = _ := enterDocked_put_bay b (s.unqueued b) _
      rw [Bay.changedTo_ne (by exact latching _ rfl)] at record
      have posted := enterDocked_posted (b := b) (s := (s.unqueued b).put b { y with
        latch := .closed, latchAgree := 0, latchDue := false, driveStage := .noRequest, retryDelay := none, attempts := 0 })
        (by rw [State.put_bay]; exact latching _ rfl)
      rw [record]
      exact ⟨rfl, rfl, rfl, ite_self none, rfl, rfl, posted⟩
  · have record : y.accept.left.unrented (y.identity.isSome && !y.processed) = { left with
        tagWindow := none
        alarms := { y.alarms with
          unrentedRemoval := (y.identity.isSome && !y.processed) || y.alarms.unrentedRemoval } } := by
      simp only [Bay.left, Bay.unrented, Bay.clearBike, Bay.accept_eq, left, p, pd, ld, Presence.flip, if_true, if_false,
        Bool.false_eq_true]
    have raised : decide (y.identity.isSome = true ∧ y.processed = false) = (y.identity.isSome && !y.processed) := by
      cases y.identity.isSome <;> cases y.processed <;> rfl
    rw [senseEvent_fault_falls st p pd (quiet fun k => absurd (k.symm.trans ld) (by decide))]
    simp only [raised]
    exact congrArg ((s.alarmed b (y.identity.isSome && !y.processed)).put b) record
  · rw [senseEvent_resting_still (.inl st) (quiet fun k => absurd (k.symm.trans ld) (by decide)) fun k => absurd (p.symm.trans k.2.1) (by decide)]
    refine congrArg (s.put b) ?_
    simp only [Bay.accept_eq, y, show (s.bay b).presence = _ from p, show (s.bay b).presenceDue = _ from pd,
      show (s.bay b).latchDue = _ from ld, Presence.flip, if_true, if_false, Bool.false_eq_true]
  · rw [senseEvent_resting_still st (quiet fun _ => h) fun k => absurd (p.symm.trans k.2.2) (by decide)]
    refine congrArg (s.put b) ?_
    simp only [Bay.accept_eq, y, show (s.bay b).presenceDue = _ from p, show (s.bay b).latchDue = _ from l, Latch.flip_eq,
      if_true, if_false, Bool.false_eq_true]
  · rw [senseEvent_resting_still (.inr st) (quiet fun k => absurd (k.symm.trans l) (by decide)) fun k => absurd (st.symm.trans k.1) (by decide)]
    refine congrArg (s.put b) ?_
    simp only [Bay.accept_eq, y, show (s.bay b).presenceDue = _ from p, show (s.bay b).latchDue = _ from l, Presence.flip_eq,
      if_true, if_false, Bool.false_eq_true]

end Sys2Proof.Machine
end

section
/-! The flush that follows the end of a release, and what an operation at one bay leaves of everything else. -/

namespace Sys2Proof.Machine

/-! ### Work at one bay -/

/-- `t` is `s` but for the record and the causes of bay `b` and the queue, and keeps the causes that stand. -/
structure OnlyAt (b : BayIx) (s t : State) : Prop where
  frame   : t = { s with queue := t.queue, nextOrder := t.nextOrder, bays := t.bays, changes := t.changes }
  station : t.changes.station = s.changes.station
  others  : ∀ o, o ≠ b → t.bay o = s.bay o ∧ t.changes.bays[o] = s.changes.bays[o]
  causes  : CausesStand s t

namespace OnlyAt
variable {b : BayIx}

theorem refl (s : State) : OnlyAt b s s := ⟨rfl, rfl, fun _ _ => ⟨rfl, rfl⟩, .refl s⟩

theorem trans {s t u : State} (h : OnlyAt b s t) (k : OnlyAt b t u) : OnlyAt b s u where
  frame := by rw [k.frame, h.frame]
  station := k.station.trans h.station
  others o e := ⟨(k.others o e).1.trans (h.others o e).1, (k.others o e).2.trans (h.others o e).2⟩
  causes := h.causes.trans k.causes

theorem put (s : State) (y : Bay) : OnlyAt b s (s.put b y) :=
  ⟨rfl, rfl, fun _ e => ⟨s.put_other b y e, rfl⟩, .of_same rfl⟩

theorem postBay (s : State) (c : BayCause) : OnlyAt b s (s.postBay b c) :=
  ⟨rfl, rfl, fun o e => ⟨rfl, s.postBay_cause_ne b o c e⟩, .postBay s b c⟩

theorem unqueued (s : State) : OnlyAt b s (s.unqueued b) := ⟨rfl, rfl, fun _ _ => ⟨rfl, rfl⟩, .of_same rfl⟩

theorem queued (s : State) (q : List DriveRequest) (n : Nat) : OnlyAt b s { s with queue := q, nextOrder := n } :=
  ⟨rfl, rfl, fun _ _ => ⟨rfl, rfl⟩, .of_same rfl⟩

theorem entered (s : State) (new : BayState) (p : LampPattern) (y : Bay) : OnlyAt b s (s.entered b new p y) := by
  by_cases h : y.state = new
  · rw [State.entered, if_pos h, Bay.changedTo, if_pos h]
    exact put s y
  · rw [State.entered_ne h]
    exact (put s _).trans (postBay _ .state)

theorem rentals {s t : State} (h : OnlyAt b s t) : t.rentals = s.rentals := by rw [h.frame]
theorem spent {s t : State} (h : OnlyAt b s t) : t.spent = s.spent := by rw [h.frame]
theorem journal {s t : State} (h : OnlyAt b s t) : t.journal = s.journal := by rw [h.frame]
theorem heldOrder {s t : State} (h : OnlyAt b s t) : t.heldOrder = s.heldOrder := by rw [h.frame]
theorem highWaterArmed {s t : State} (h : OnlyAt b s t) : t.highWaterArmed = s.highWaterArmed := by rw [h.frame]
theorem channels {s t : State} (h : OnlyAt b s t) : t.channels = s.channels := by rw [h.frame]
theorem clock {s t : State} (h : OnlyAt b s t) : t.clock = s.clock := by rw [h.frame]
theorem bay {s t : State} (h : OnlyAt b s t) {o : BayIx} (e : o ≠ b) : t.bay o = s.bay o := (h.others o e).1

end OnlyAt

/-! ### The flush reads nothing of a bay with no return due but its held return and its link -/

/-- Two states alike in everything that a flush of held returns reads or writes: of bay `b`, where no return is due, it reads
the held return, and the link for the committed count. -/
structure FlushAlike (b : BayIx) (x y : State) : Prop where
  journal   : x.journal = y.journal
  heldOrder : x.heldOrder = y.heldOrder
  highWater : x.highWaterArmed = y.highWaterArmed
  rentals   : x.rentals = y.rentals
  spent     : x.spent = y.spent
  station   : x.changes.station = y.changes.station
  minute    : x.clock.minute = y.clock.minute
  others    : ∀ o, o ≠ b → x.bay o = y.bay o ∧ x.changes.bays[o] = y.changes.bays[o]
  held      : (x.bay b).held = (y.bay b).held
  link      : (x.bay b).link = (y.bay b).link
  idle      : (x.bay b).returnDue = false ∧ (y.bay b).returnDue = false

namespace FlushAlike
variable {b : BayIx} {x y : State}

theorem refl (h : (x.bay b).returnDue = false) : FlushAlike b x x :=
  ⟨rfl, rfl, rfl, rfl, rfl, rfl, rfl, fun _ _ => ⟨rfl, rfl⟩, rfl, rfl, h, h⟩

theorem admits (h : FlushAlike b x y) : x.admitsForeign = y.admitsForeign := by
  have : x.committed = y.committed := committed_congr y x h.journal h.rentals fun o => by
    by_cases e : o = b
    · rw [e, h.link]
    · rw [(h.others o e).1]
  simp only [State.admitsForeign, this]

theorem bay_held (h : FlushAlike b x y) (o : BayIx) : (x.bay o).held = (y.bay o).held := by
  by_cases e : o = b
  · rw [e, h.held]
  · rw [(h.others o e).1]

theorem appendRecord (h : FlushAlike b x y) (r : JournalRecord) : FlushAlike b (appendRecord r x) (appendRecord r y) := by
  unfold Machine.appendRecord
  simp only [h.journal, h.highWater]
  split
  · exact { h with journal := rfl, highWater := rfl, station := congrArg (fun c : StationCauses => { c with journalHigh := true }) h.station }
  · exact { h with journal := rfl, highWater := rfl }

theorem postBay (h : FlushAlike b x y) (o : BayIx) (c : BayCause) : FlushAlike b (x.postBay o c) (y.postBay o c) :=
  { h with
    others := fun i e => by
      refine ⟨(h.others i e).1, ?_⟩
      by_cases k : i = o
      · subst k
        exact (x.postBay_cause_self i c).trans (.trans (congrArg (·.add c) (h.others i e).2) (y.postBay_cause_self i c).symm)
      · rw [State.postBay_cause_ne x o i c k, State.postBay_cause_ne y o i c k]
        exact (h.others i e).2 }

theorem setRental (h : FlushAlike b x y) (k : Fin 64) (r : Option Rental) :
    FlushAlike b (x.setRental k r) (y.setRental k r) :=
  { h with rentals := congrArg (fun v : Vector (Option Rental) 64 => v.set k.val r k.isLt) h.rentals }

theorem setHeldOrder (h : FlushAlike b x y) (l : List BayIx) :
    FlushAlike b { x with heldOrder := l } { y with heldOrder := l } := { h with heldOrder := rfl }

/-- A write at another bay. -/
theorem modBay (h : FlushAlike b x y) {o : BayIx} (e : o ≠ b) (f : Bay → Bay) : FlushAlike b (x.modBay o f) (y.modBay o f) := by
  have still : ∀ z : State, (z.modBay o f).bay b = z.bay b := fun z => State.modBay_bay_ne z f o b (Ne.symm e)
  refine { h with
    others := fun i k => ⟨?_, (h.others i k).2⟩, held := by rw [still, still, h.held]
    link := by rw [still, still, h.link], idle := by rw [still, still]; exact h.idle }
  by_cases c : i = o
  · subst c; rw [State.modBay_bay_self, State.modBay_bay_self, (h.others i k).1]
  · rw [State.modBay_bay_ne x f o i c, State.modBay_bay_ne y f o i c, (h.others i k).1]

/-- The held return of a bay, written or forgotten. -/
theorem setHeld (h : FlushAlike b x y) (o : BayIx) (r : Option ForeignReturn) :
    FlushAlike b (x.modBay o fun z => { z with held := r }) (y.modBay o fun z => { z with held := r }) := by
  by_cases e : o = b
  · subst e
    refine { h with
      others := fun i k => ⟨?_, (h.others i k).2⟩, held := by rw [State.modBay_bay_self, State.modBay_bay_self]
      link := by rw [State.modBay_bay_self, State.modBay_bay_self, h.link]
      idle := by rw [State.modBay_bay_self, State.modBay_bay_self]; exact h.idle }
    rw [State.modBay_bay_ne x _ o i k, State.modBay_bay_ne y _ o i k, (h.others i k).1]
  · exact h.modBay e _

theorem writeHeld (h : FlushAlike b x y) (o : BayIx) (r : ForeignReturn) :
    FlushAlike b (writeHeld o r x) (writeHeld o r y) := by
  unfold Machine.writeHeld
  have tail : x.heldOrder.tail = y.heldOrder.tail := by rw [h.heldOrder]
  rw [tail]
  exact (((h.appendRecord _).setHeldOrder _).setHeld o none).postBay o .returned

theorem flushFrom (h : FlushAlike b x y) (l : List BayIx) :
    FlushAlike b (flushFrom l x).1 (flushFrom l y).1 ∧ (flushFrom l x).2 = (flushFrom l y).2 := by
  induction l generalizing x y with
  | nil => exact ⟨h, rfl⟩
  | cons o rest ih =>
    unfold Machine.flushFrom
    rw [h.bay_held o, h.admits]
    split
    · split
      · obtain ⟨alike, same⟩ := ih (h.writeHeld o _)
        exact ⟨alike, congrArg (o :: ·) same⟩
      · exact ⟨h, rfl⟩
    · rw [h.heldOrder]
      exact ih (h.setHeldOrder _)

theorem localReturn (h : FlushAlike b x y) (o : BayIx) (m : Nat) (k : Fin 64) (r : Rental) :
    FlushAlike b (localReturn o m k r x) (localReturn o m k r y) := by
  unfold Machine.localReturn
  exact ((h.appendRecord _).setRental k none).postBay o .returned

theorem foreignReturn (h : FlushAlike b x y) (o : BayIx) (m : Nat) (i : Identity) :
    FlushAlike b (foreignReturn o m i x) (foreignReturn o m i y) := by
  unfold Machine.foreignReturn
  simp only [h.admits]
  split
  · exact (h.appendRecord _).postBay o .returned
  · rw [h.heldOrder]
    exact ((h.setHeldOrder _).setHeld o _).postBay o .held

theorem processReturn (h : FlushAlike b x y) (o : BayIx) : FlushAlike b (processReturn o x) (processReturn o y) := by
  by_cases e : o = b
  · subst e
    rw [processReturn_idle o x h.idle.1, processReturn_idle o y h.idle.2]
    exact h
  · have same : x.bay o = y.bay o := (h.others o e).1
    have found : ∀ bike, x.openRental? bike = y.openRental? bike := fun bike => by rw [State.openRental?, State.openRental?, h.rentals]
    have fixed : FlushAlike b (fixMinute o x) (fixMinute o y) := by
      rw [fixMinute, fixMinute, h.minute]
      exact h.modBay e _
    have marked : FlushAlike b (markProcessed o x) (markProcessed o y) := by
      rw [markProcessed, markProcessed, h.minute]
      exact h.modBay e _
    unfold Machine.processReturn
    simp only [same, h.minute, found]
    split
    · exact h
    · split
      · split
        · exact marked.localReturn o _ _ _
        · split
          · exact fixed
          · exact marked.foreignReturn o _ _
      · exact h

theorem flush (h : FlushAlike b x y) : FlushAlike b (flush x) (flush y) := by
  have returns : ∀ (l : List BayIx) {x y : State}, FlushAlike b x y → FlushAlike b
      (l.foldl (fun t o => Machine.processReturn o t) x) (l.foldl (fun t o => Machine.processReturn o t) y) := by
    intro l
    induction l with
    | nil => exact id
    | cons o rest ih => exact fun h => ih (h.processReturn o)
  obtain ⟨alike, same⟩ := h.flushFrom y.heldOrder
  unfold Machine.flush
  simp only [h.heldOrder, same]
  exact returns _ alike

end FlushAlike

/-! ### The flush at the bay itself -/

theorem writeHeld_bay_self (b : BayIx) (r : ForeignReturn) (s : State) :
    (writeHeld b r s).bay b = { s.bay b with held := none } := by
  unfold writeHeld
  rw [State.postBay_bay, State.modBay_bay_self]
  exact congrArg (fun z : Bay => { z with held := none }) (appendRecord_bay _ s b)

theorem writeHeld_bay_ne (b : BayIx) (r : ForeignReturn) (s : State) {o : BayIx} (h : o ≠ b) :
    (writeHeld b r s).bay o = s.bay o := by
  unfold writeHeld
  rw [State.postBay_bay, State.modBay_bay_ne _ _ b o h]
  exact appendRecord_bay _ s o

/-- Of a bay with no return due a flush writes the held return only. -/
theorem flush_bay {b : BayIx} {s : State} (h : (s.bay b).returnDue = false) :
    (flush s).bay b = { s.bay b with held := ((flush s).bay b).held } := by
  have written : ∀ (l : List BayIx) (t : State), ((flushFrom l t).1).bay b = { t.bay b with held := (((flushFrom l t).1).bay b).held } := by
    intro l
    induction l with
    | nil => exact fun _ => rfl
    | cons o rest ih =>
      intro t
      unfold flushFrom
      split
      · split
        · refine (ih _).trans ?_
          by_cases e : b = o
          · subst e; rw [writeHeld_bay_self]
          · rw [writeHeld_bay_ne o _ t e]
        · rfl
      · exact ih _
  have returned : ∀ (l : List BayIx) (t : State), (t.bay b).returnDue = false →
      (l.foldl (fun t o => processReturn o t) t).bay b = t.bay b := by
    intro l
    induction l with
    | nil => exact fun _ _ => rfl
    | cons o rest ih =>
      intro t due
      have still : (processReturn o t).bay b = t.bay b := by
        by_cases e : b = o
        · subst e; rw [processReturn_idle b t due]
        · exact processReturn_other o b t e
      exact (ih _ (by rw [still]; exact due)).trans still
  have due : (((flushFrom s.heldOrder s).1).bay b).returnDue = false := by
    rw [written]; exact h
  have out : (flush s).bay b = ((flushFrom s.heldOrder s).1).bay b := returned _ _ due
  rw [out]
  exact written _ s

/-! ### The end of a release -/

/-- The record of a bay whose release has ended with a last outcome (R23, R77, R84). -/
def Bay.ended (y : Bay) (o : LastOutcome) : Bay :=
  { y with lastOutcome := o, deadline := .stopped, takeWindow := none, link := .unlinked }

theorem State.discarded_eq (s : State) (b : BayIx) (o : LastOutcome) (y : Bay) :
    s.discarded b o y = flush (((s.withoutRelease b).postBay b .outcome).put b (y.ended o)) := by
  have frame : (s.withoutRelease b).changes = s.changes := by
    unfold State.withoutRelease
    dsimp only
    split
    · split <;> rfl
    · rfl
    · rfl
    · rfl
  have bays : (s.withoutRelease b).bays.set b.val (y.ended o) b.isLt = s.bays.set b.val (y.ended o) b.isLt := by
    unfold State.withoutRelease
    dsimp only
    split
    · split <;> simp
    · simp
    · simp
    · simp
  rw [State.put, State.postBay]
  dsimp only
  rw [bays, frame]
  rfl

/-- Without its release a state has only that release's link, record and HELD entry fewer. -/
theorem State.withoutRelease_frame (s : State) (b : BayIx) : s.withoutRelease b =
    { s.put b { s.bay b with link := .unlinked } with
      rentals := (s.withoutRelease b).rentals, spent := (s.withoutRelease b).spent } := by
  unfold State.withoutRelease
  dsimp only
  split
  · split <;> rfl
  · rfl
  · rfl
  · rfl

/-- The release a bay holds depends on its link, the table and the spent list alone. -/
theorem State.withoutRelease_congr {s t : State} {b : BayIx} (hl : (t.bay b).link = (s.bay b).link) (hr : t.rentals = s.rentals)
    (hs : t.spent = s.spent) : (t.withoutRelease b).rentals = (s.withoutRelease b).rentals ∧
      (t.withoutRelease b).spent = (s.withoutRelease b).spent := by
  unfold State.withoutRelease
  dsimp only
  rw [hl, hr, hs]
  split
  · split <;> exact ⟨rfl, rfl⟩
  · exact ⟨rfl, rfl⟩
  · exact ⟨rfl, rfl⟩
  · exact ⟨rfl, rfl⟩

/-- A return is due only at a bay that stands in DOCKED or FAULT (R18). -/
theorem Bay.returnDue_off {y : Bay} (h : y.state ≠ .docked) (k : y.state ≠ .fault) : y.returnDue = false := by
  simp [Bay.returnDue, h, k]

section Discarded
variable {b : BayIx} {s t : State} {y : Bay}

/-- The state in which a release has ended at the bay is as the flush sees it the state without the release. -/
theorem FlushAlike.released (h : FlushAlike b t s) (hy : y.returnDue = false) (hh : y.held = (s.bay b).held)
    (o : LastOutcome) :
    FlushAlike b (((t.withoutRelease b).postBay b .outcome).put b (y.ended o)) (s.withoutRelease b) := by
  obtain ⟨hr, hs⟩ := State.withoutRelease_congr h.link h.rentals h.spent
  rw [t.withoutRelease_frame, s.withoutRelease_frame]
  refine ⟨h.journal, h.heldOrder, h.highWater, hr, hs, h.station, h.minute, fun i e => ?_, ?_, ?_, ?_, ?_⟩
  · refine ⟨?_, ?_⟩
    · exact (State.put_other _ b _ e).trans ((State.put_other t b _ e).trans ((h.others i e).1.trans
        (State.put_other s b _ e).symm))
    · exact (State.postBay_cause_ne t b i .outcome e).trans (h.others i e).2
  · exact (congrArg Bay.held (State.put_bay _ b _)).trans (hh.trans
      (congrArg Bay.held (State.put_bay s b { s.bay b with link := .unlinked })).symm)
  · exact (congrArg Bay.link (State.put_bay _ b _)).trans (congrArg Bay.link
      (State.put_bay s b { s.bay b with link := .unlinked })).symm
  · exact (congrArg Bay.returnDue (State.put_bay _ b _)).trans hy
  · exact (congrArg Bay.returnDue (State.put_bay s b _)).trans h.idle.2

/-- A discarded release leaves journal, lists and the other bays as the flush of the state without it (R84, R87, R130). -/
theorem releaseFlushed_discarded (h : FlushAlike b t s) (hy : y.returnDue = false) (hh : y.held = (s.bay b).held)
    (o : LastOutcome) : ReleaseFlushed b s (t.discarded b o y) := by
  rw [State.discarded_eq]
  have alike := (h.released hy hh o).flush
  have record : (((t.withoutRelease b).postBay b .outcome).put b (y.ended o)).bay b = y.ended o := State.put_bay _ b _
  refine ⟨alike.journal, alike.heldOrder, alike.highWater, alike.rentals, alike.spent, alike.station, alike.others,
    alike.held, ?_, ?_⟩
  · rw [flush_bay (by rw [record]; exact hy), record]
    rfl
  · have stands : CausesStand ((t.withoutRelease b).postBay b .outcome)
        (flush (((t.withoutRelease b).postBay b .outcome).put b (y.ended o))) :=
      CausesStand.trans (t := ((t.withoutRelease b).postBay b .outcome).put b (y.ended o)) (.of_same rfl) (.flush _)
    exact stands.posted (postBay_posted _ b .outcome)

/-- The bay itself keeps all but its link, its timers and its last outcome; a held return may be written. -/
theorem discarded_bay (hy : y.returnDue = false) (o : LastOutcome) :
    (t.discarded b o y).bay b = { y.ended o with held := ((t.discarded b o y).bay b).held } := by
  have record : (((t.withoutRelease b).postBay b .outcome).put b (y.ended o)).bay b = y.ended o := State.put_bay _ b _
  rw [State.discarded_eq]
  have h := flush_bay (by rw [record]; exact hy : ((((t.withoutRelease b).postBay b .outcome).put b (y.ended o)).bay b).returnDue = false)
  rw [record] at h
  exact h

/-- The flush leaves the queue, the channels and the clock. -/
theorem discarded_frame (s : State) (b : BayIx) (o : LastOutcome) (y : Bay) : s.discarded b o y = { s with
    journal := (s.discarded b o y).journal, highWaterArmed := (s.discarded b o y).highWaterArmed
    changes := (s.discarded b o y).changes, heldOrder := (s.discarded b o y).heldOrder
    rentals := (s.discarded b o y).rentals, spent := (s.discarded b o y).spent, bays := (s.discarded b o y).bays } := by
  rw [State.discarded_eq, flush_frame, s.withoutRelease_frame]
  rfl

/-- With no return held nothing is flushed. -/
theorem discarded_unheld (h : s.heldOrder = []) (o : LastOutcome) (y : Bay) :
    s.discarded b o y = ((s.withoutRelease b).postBay b .outcome).put b (y.ended o) := by
  rw [State.discarded_eq, flush_empty _ (by rw [s.withoutRelease_frame]; exact h)]

/-- The discard of a rental with no return held: the record and a CASUAL one's HELD entry are gone, and no more (R84). -/
theorem discarded_rental (h : s.heldOrder = []) {k : Fin 64} {r : Rental} (hl : (s.bay b).link = .rental k)
    (hr : s.rentals[k] = some r) (o : LastOutcome) (y : Bay) :
    (s.discarded b o y).rentals = s.rentals.set k.val none k.isLt ∧
      (s.discarded b o y).spent = (if r.plan = .casual then s.spent.filter fun x =>
        !(decide (x.rider = r.rider) && decide (x.serial = r.serial) && decide (x.state = .held)) else s.spent) ∧
      (s.discarded b o y).journal = s.journal ∧ ∀ i, i ≠ b → (s.discarded b o y).bay i = s.bay i := by
  rw [discarded_unheld h]
  refine ⟨?_, ?_, ?_, fun i c => ?_⟩
  · simp only [State.withoutRelease, hl, hr]; rfl
  · simp only [State.withoutRelease, hl, hr]; rfl
  · rw [s.withoutRelease_frame]; rfl
  · rw [State.put_other _ b _ c, s.withoutRelease_frame]
    exact State.put_other s b _ c

/-- A later operation at the bay alone keeps what the discard left. -/
theorem ReleaseFlushed.onlyAt {u : State} (h : ReleaseFlushed b s t) (k : OnlyAt b t u)
    (hh : (u.bay b).held = (t.bay b).held) (hl : (u.bay b).link = .unlinked) : ReleaseFlushed b s u where
  journal := k.journal.trans h.journal
  heldOrder := k.heldOrder.trans h.heldOrder
  highWater := k.highWaterArmed.trans h.highWater
  rentals := k.rentals.trans h.rentals
  spent := k.spent.trans h.spent
  station := k.station.trans h.station
  others o e := ⟨(k.others o e).1.trans (h.others o e).1, (k.others o e).2.trans (h.others o e).2⟩
  held := hh.trans h.held
  link := hl
  outcome := k.causes b .outcome h.outcome

end Discarded

end Sys2Proof.Machine
end

section
/-! The removal of a released bike, and a latch that shuts on a bike not taken: O54. -/

namespace Sys2Proof.Machine

/-! ### The removal -/

/-- The state in which the removal of the bike of a bay with the record `y` has been recorded (R82, R83, R88). -/
def State.recorded (s : State) (b : BayIx) (y : Bay) : State := match y.link with
  | .rental k => match s.heldRental? k with
    | some r => openRental k r s
    | none => s
  | .staff => appendRecord (staffRecord b s.clock.minute y.identity) s
  | .unlinked | .readiness => s

/-- The record of a bay whose released bike has been taken (R8, R9, R21). -/
def Bay.departed (y : Bay) : Bay := (y.ended .checkedOut).clearBike

/-- A record is appended whatever bay records the state holds. -/
theorem appendRecord_put (r : JournalRecord) (s : State) (b : BayIx) (y : Bay) :
    appendRecord r (s.put b y) = (appendRecord r s).put b y := by
  unfold appendRecord
  simp only
  by_cases h : (s.journal ++ [r]).length = 192 ∧ s.highWaterArmed = true
  · rw [if_pos h]; exact if_pos h
  · rw [if_neg h]; exact if_neg h

theorem openRental_put (k : Fin 64) (r : Rental) (s : State) (b : BayIx) (y : Bay) :
    openRental k r (s.put b y) = (openRental k r s).put b y := by
  unfold openRental
  rw [← appendRecord_put]
  dsimp only
  split <;> rfl

theorem recorded_put (s : State) (b : BayIx) (y z : Bay) : (s.put b z).recorded b y = (s.recorded b y).put b z := by
  unfold State.recorded
  have found : ∀ k, (s.put b z).heldRental? k = s.heldRental? k := fun _ => rfl
  simp only [found]
  split
  · split
    · exact openRental_put _ _ s b z
    · rfl
  · exact appendRecord_put _ s b z
  · rfl
  · rfl

theorem removeBike_put (s : State) (b : BayIx) (y : Bay) :
    removeBike b (s.put b y) = ((s.recorded b y).postBay b .outcome).put b y.departed := by
  have e : removeBike b (s.put b y) = (endRelease b .checkedOut ((s.put b y).recorded b y)).modBay b Bay.clearBike := by
    unfold removeBike State.recorded
    rw [State.put_bay] <;> rfl
  rw [e, recorded_put, endRelease, State.modBay_put]
  exact State.modBay_put ((s.recorded b y).postBay b .outcome) b _ _

/-- What a CHECKOUT leaves of the books: the record OPEN, a CASUAL rental's HELD entry FINAL, the journal record, and the rise
to the high-water mark (R61, R82, R83, R135). -/
def CheckedOut (s : State) (k : Fin 64) (r : Rental) (t : State) : Prop :=
  t.rentals = s.rentals.set k.val (some { r with stage := .opened, checkout := some s.clock.minute }) k.isLt ∧
    t.spent = (if r.plan = .casual then s.spent.map fun e =>
      if e.rider = r.rider ∧ e.serial = r.serial ∧ e.state = .held then { e with state := .finalized } else e
      else s.spent) ∧
    t.journal = s.journal ++ [.checkout ⟨s.clock.minute, r.bay, r.bike, r.cls, r.rider, r.serial, r.plan, r.hold⟩] ∧
    (s.journal.length = 191 → s.highWaterArmed = true → t.changes.station.journalHigh = true ∧ t.highWaterArmed = false)

/-- What a staff removal leaves of the books (R88). -/
def StaffRemoved (s : State) (b : BayIx) (i : Option Identity) (t : State) : Prop :=
  t.rentals = s.rentals ∧ t.spent = s.spent ∧
    t.journal = s.journal ++ [.staffRemoval ⟨s.clock.minute, b, (i.map (·.bike)).getD 0, i.map (·.cls)⟩]

/-- A record appended as the 192nd, with the flag armed, posts JOURNAL_HIGH. -/
theorem appendRecord_high (r : JournalRecord) (s : State) (h : s.journal.length = 191) (a : s.highWaterArmed = true) :
    (appendRecord r s).changes.station.journalHigh = true ∧ (appendRecord r s).highWaterArmed = false := by
  unfold appendRecord
  rw [if_pos ⟨by simp [h], a⟩]
  exact ⟨rfl, rfl⟩

theorem checkedOut_openRental (s : State) (k : Fin 64) (r : Rental) : CheckedOut s k r (openRental k r s) := by
  unfold openRental
  refine ⟨?_, ?_, ?_, fun h a => appendRecord_high _ _ ?_ ?_⟩
  · rw [appendRecord_frame]; dsimp only; split <;> rfl
  · rw [appendRecord_frame]; dsimp only; split <;> rfl
  · rw [appendRecord_frame]; dsimp only; split <;> rfl
  · split <;> exact h
  · split <;> exact a

theorem OnlyAt.checkedOut {b : BayIx} {s t u : State} {k : Fin 64} {r : Rental} (h : OnlyAt b t u) (c : CheckedOut s k r t) :
    CheckedOut s k r u := by
  obtain ⟨rentals, spent, journal, high⟩ := c
  refine ⟨h.rentals.trans rentals, h.spent.trans spent, h.journal.trans journal, fun l a => ?_⟩
  rw [h.station, h.highWaterArmed]
  exact high l a

theorem OnlyAt.staffRemoved {b : BayIx} {s t u : State} {i : Option Identity} (h : OnlyAt b t u)
    (c : StaffRemoved s b i t) : StaffRemoved s b i u := by
  obtain ⟨rentals, spent, journal⟩ := c
  exact ⟨h.rentals.trans rentals, h.spent.trans spent, h.journal.trans journal⟩

section Recorded
variable (s : State) (b : BayIx) (y : Bay)

theorem recorded_frame : s.recorded b y = { s with
    rentals := (s.recorded b y).rentals, spent := (s.recorded b y).spent, journal := (s.recorded b y).journal
    highWaterArmed := (s.recorded b y).highWaterArmed, changes := (s.recorded b y).changes } := by
  unfold State.recorded
  split
  · split
    · rw [openRental_frame]
    · rfl
  · rw [appendRecord_frame]
  · rfl
  · rfl

variable {s b y}

theorem recorded_rental {k : Fin 64} {r : Rental} (hl : y.link = .rental k) (hr : s.rentals[k] = some r)
    (hs : r.stage ≠ .opened) : s.recorded b y = openRental k r s := by
  have found : s.heldRental? k = some r := by
    show (s.rentals[k]).filter _ = _
    rw [hr]
    simp [hs]
  simp only [State.recorded, hl, found]

theorem recorded_staff (hl : y.link = .staff) : StaffRemoved s b y.identity (s.recorded b y) := by
  simp only [State.recorded, hl]
  rw [appendRecord_frame]
  exact ⟨rfl, rfl, rfl⟩

end Recorded

/-! ### The bay after a removal -/

/-- The bike of the bay is gone and its release has ended. -/
structure Bay.IsGone (y : Bay) : Prop where
  identity    : y.identity = none
  arrival     : y.arrival = none
  processed   : y.processed = false
  takeWindow  : y.takeWindow = none
  deadline    : y.deadline = .stopped
  lastOutcome : y.lastOutcome = .checkedOut

theorem Bay.isGone_departed (y : Bay) : y.departed.IsGone := ⟨rfl, rfl, rfl, rfl, rfl, rfl⟩

theorem Bay.IsGone.changedTo {y : Bay} (h : y.IsGone) (now : Nat) (new : BayState) (p : LampPattern) :
    (y.changedTo now new p).IsGone := by
  obtain ⟨identity, arrival, processed, takeWindow, deadline, lastOutcome⟩ := h
  unfold Bay.changedTo
  split
  · exact ⟨identity, arrival, processed, takeWindow, deadline, lastOutcome⟩
  · refine ⟨identity, arrival, processed, ?_, ?_, lastOutcome⟩
    · show (if _ then none else y.takeWindow) = none
      rw [takeWindow, ite_self]
    · show (if _ then Deadline.stopped else y.deadline) = .stopped
      rw [deadline, ite_self]

/-- What a removal leaves: the bay without its bike, OUTCOME posted, no channel and no other bay changed (R8, R9). -/
def BikeTaken (s : State) (b : BayIx) (t : State) : Prop :=
  (t.bay b).identity = none ∧ (t.bay b).arrival = none ∧ (t.bay b).processed = false ∧ (t.bay b).takeWindow = none ∧
    (t.bay b).deadline = .stopped ∧ (t.bay b).lastOutcome = .checkedOut ∧ ((t.changes.bays)[b]).outcome = true ∧
    t.channels = s.channels ∧ (∀ o, o ≠ b → t.bay o = s.bay o)

/-- The state a removal has left before the bay takes its next state. -/
def State.taken (s : State) (b : BayIx) (y : Bay) : State := (s.recorded b y).postBay b .outcome

section Taken
variable {s : State} {b : BayIx} {y : Bay} {t : State}

theorem taken_frame : s.taken b y = { s with
    rentals := (s.taken b y).rentals, spent := (s.taken b y).spent, journal := (s.taken b y).journal
    highWaterArmed := (s.taken b y).highWaterArmed, changes := (s.taken b y).changes } := by
  rw [State.taken, recorded_frame]
  rfl

theorem bikeTaken_of (h : OnlyAt b (s.taken b y) t) (g : (t.bay b).IsGone) : BikeTaken s b t := by
  have posted : t.posted b .outcome := h.causes.posted (postBay_posted _ b .outcome)
  refine ⟨g.identity, g.arrival, g.processed, g.takeWindow, g.deadline, g.lastOutcome, posted, ?_, fun o e => ?_⟩
  · rw [h.channels, taken_frame]
  · rw [h.bay e, taken_frame]
    rfl

theorem checkedOut_of {k : Fin 64} {r : Rental} (h : OnlyAt b (s.taken b y) t) (hl : y.link = .rental k)
    (hr : s.rentals[k] = some r) (hs : r.stage ≠ .opened) : CheckedOut s k r t := by
  refine h.checkedOut ((OnlyAt.postBay _ .outcome).checkedOut ?_)
  rw [recorded_rental hl hr hs]
  exact checkedOut_openRental s k r

theorem staffRemoved_of (h : OnlyAt b (s.taken b y) t) (hl : y.link = .staff) : StaffRemoved s b y.identity t :=
  h.staffRemoved ((OnlyAt.postBay _ .outcome).staffRemoved (recorded_staff hl))

end Taken

/-- What re-derivation leaves of an empty bay whose latch reads OPEN. -/
structure LeftVacant (b : BayIx) (v t : State) (z : Bay) : Prop where
  only       : OnlyAt b v t
  gone       : z.IsGone → (t.bay b).IsGone
  state      : (t.bay b).state = .vacant
  link       : (t.bay b).link = .unlinked
  lamp       : (t.bay b).lamp = .off
  posted     : ((t.changes.bays)[b]).state = true
  driveStage : (t.bay b).driveStage = .noRequest
  retryDelay : z.retryDelay = none → (t.bay b).retryDelay = none
  queue      : t.queue = v.queue

theorem leftVacant {b : BayIx} {z : Bay} (v : State) (h : z.state ≠ .vacant) (p : z.presence = .absent)
    (l : z.latch = .opened) : LeftVacant b v (rederive b (v.put b z)) z := by
  rw [rederive_vacant v b z p l]
  have moved : z.emptied.state ≠ .vacant := h
  have record : (v.entered b .vacant .off z.emptied).bay b = z.emptied.changedTo v.ms .vacant .off := State.entered_bay _ _ _ _ _
  refine ⟨.entered v .vacant .off _, fun g => ?_, ?_, ?_, ?_, ?_, ?_, fun n => ?_, rfl⟩
  · have empty : z.emptied.IsGone := { g with identity := rfl, arrival := rfl, processed := rfl }
    rw [record]
    exact empty.changedTo _ _ _
  · rw [record, Bay.changedTo_ne moved]
  · rw [record, Bay.changedTo_ne moved]; rfl
  · rw [record, Bay.changedTo_ne moved]
  · rw [State.entered_ne moved]
    exact postBay_posted _ b .state
  · rw [record, Bay.changedTo_ne moved]; rfl
  · rw [record, Bay.changedTo_ne moved]
    show (if _ then none else z.retryDelay) = none
    rw [n, ite_self]

/-- What re-derivation leaves of an empty bay whose latch reads CLOSED. -/
structure LeftShut (b : BayIx) (v t : State) (z : Bay) : Prop where
  only       : OnlyAt b v t
  gone       : z.IsGone → (t.bay b).IsGone
  state      : (t.bay b).state = .unlatching
  link       : (t.bay b).link = .readiness
  driveStage : (t.bay b).driveStage = .queued
  retryDelay : z.retryDelay = none → (t.bay b).retryDelay = none
  queue      : t.queue = v.queue ++ [⟨b, .unlatchReady, v.nextOrder⟩]

theorem leftShut {b : BayIx} {z : Bay} (v : State) (p : z.presence = .absent) (l : z.latch = .closed) :
    LeftShut b v (rederive b (v.put b z)) z := by
  rw [rederive_readiness v b z p l]
  let x : Bay := { z.emptied with link := .readiness, driveStage := .queued }
  have record : (v.entered b .unlatching .slow x).bay b = x.changedTo v.ms .unlatching .slow := State.entered_bay _ _ _ _ _
  have request : (x.changedTo v.ms .unlatching .slow).link = .readiness ∧
      (x.changedTo v.ms .unlatching .slow).driveStage = .queued := by
    unfold Bay.changedTo
    split <;> exact ⟨rfl, rfl⟩
  refine ⟨(OnlyAt.entered v .unlatching .slow x).trans (.queued _ _ _), fun g => ?_, ?_, ?_, ?_, fun n => ?_, rfl⟩
  · have empty : x.IsGone := { g with identity := rfl, arrival := rfl, processed := rfl }
    have g := empty.changedTo v.ms .unlatching .slow
    rw [← record] at g
    exact g
  · exact (congrArg Bay.state record).trans (Bay.changedTo_state _ _ _ _)
  · exact (congrArg Bay.link record).trans request.1
  · exact (congrArg Bay.driveStage record).trans request.2
  · refine (congrArg Bay.retryDelay record).trans ?_
    unfold Bay.changedTo
    split
    · exact n
    · show (if _ then none else z.retryDelay) = none
      rw [n, ite_self]

/-! ### The sense event of a fall under a release -/

theorem Bay.accept_link (y : Bay) : y.accept.link = y.link := by rw [Bay.accept_eq]

section Falls
variable {s : State} {b : BayIx} (hd : (s.bay b).presenceDue = true) (hp : (s.bay b).presence = .present)
include hd hp

/-- The bike of a RELEASED bay is taken (R9). -/
theorem senseEvent_released_falls (h : drivesEnded b (s.bay b) s = s.put b (s.bay b).accept)
    (hs : (s.bay b).state = .released) :
    senseEvent b s = rederive b ((s.taken b (s.bay b).accept).put b (s.bay b).accept.departed) := by
  have absent := accept_absent hd hp
  have falls : handlePresence b (s.put b (s.bay b).accept) =
      rederive b ((s.taken b (s.bay b).accept).put b (s.bay b).accept.departed) := by
    rw [handlePresence_released (by simpa using hs) (by simpa using absent), removeBike_put]
    rfl
  rw [senseEvent_moved hd, h, falls]
  have gone : (s.bay b).accept.departed.presence = .absent := absent
  rw [h, falls, rederive_state, State.put_bay, hs, gone]
  cases (s.bay b).accept.departed.latch <;> decide

variable (hl : (s.bay b).latchDue = false) (hs : (s.bay b).state = .unlatching)
  (hk : (∃ k, (s.bay b).link = .rental k) ∨ (s.bay b).link = .staff)
include hl hs hk

theorem unlatchingFall_taken : senseEvent b s =
    presenceMoved b ((s.taken b (s.bay b).accept).put b (s.bay b).accept.departed) := by
  have absent := accept_absent hd hp
  have removed : unlatchingFall b (s.put b (s.bay b).accept) = presenceMoved b (removeBike b (s.put b (s.bay b).accept)) := by
    unfold unlatchingFall
    rw [State.put_bay, Bay.accept_link]
    rcases hk with ⟨k, hk⟩ | hk <;> rw [hk]
  rw [senseEvent_presence hd hl, handlePresence_unlatching_falls (by simpa using hs) (by simpa using absent), removed,
    removeBike_put]
  rfl

/-- During a pulse the bay stays in UNLATCHING with the presence-changed mark (R8). -/
theorem senseEvent_unlatching_driven (d : (s.bay b).driveStage = .driving) : senseEvent b s =
    (s.taken b (s.bay b).accept).put b { (s.bay b).accept.departed with presenceChanged := true } := by
  rw [unlatchingFall_taken hd hp hl hs hk,
    presenceMoved_driven _ b (s.bay b).accept.departed ((s.bay b).accept_driveStage.trans d)]

/-- With no pulse in flight the request is withdrawn and the bay re-derived (R8). -/
theorem senseEvent_unlatching_undriven (d : (s.bay b).driveStage ≠ .driving) : senseEvent b s =
    rederive b (((s.taken b (s.bay b).accept).unqueued b).put b
      { (s.bay b).accept.departed with link := .unlinked, driveStage := .noRequest, retryDelay := none }) := by
  rw [unlatchingFall_taken hd hp hl hs hk,
    presenceMoved_undriven _ b (s.bay b).accept.departed ((s.bay b).accept_driveStage.trans_ne d)]

end Falls

/-! ### The committed count of a removal -/

/-- A sum over all indices of a function changed at one. -/
theorem sum_changed {n : Nat} (f g : Fin n → Nat) (k : Fin n) (h : ∀ j, j ≠ k → f j = g j) :
    ((List.finRange n).map f).sum + g k = ((List.finRange n).map g).sum + f k := by
  have rest : ∑ j ∈ Finset.univ.erase k, f j = ∑ j ∈ Finset.univ.erase k, g j :=
    Finset.sum_congr rfl fun j hj => h j (Finset.ne_of_mem_erase hj)
  rw [← Fin.sum_univ_def, ← Fin.sum_univ_def, ← Finset.add_sum_erase _ f (Finset.mem_univ k),
    ← Finset.add_sum_erase _ g (Finset.mem_univ k), rest]
  omega

/-- A RELEASED rental that opens keeps the committed count: its two places become its record and its CHECKOUT (R126). -/
theorem committedSum_checkedOut {s t : State} {k : Fin 64} {r : Rental} (c : CheckedOut s k r t) (hr : s.rentals[k] = some r)
    (hs : r.stage = .released) (hl : ∀ o, bayWeight (t.bay o) = bayWeight (s.bay o)) : t.committedSum = s.committedSum := by
  obtain ⟨rentals, -, journal, -⟩ := c
  have slots := sum_changed (fun j => slotWeight t.rentals[j]) (fun j => slotWeight s.rentals[j]) k fun j e => by
    have : k.val ≠ j.val := fun v => e (Fin.ext v.symm)
    show slotWeight t.rentals[j.val] = _
    rw [getElem_congr_coll rentals, Vector.getElem_set_ne _ _ this]
    rfl
  have before : slotWeight s.rentals[k] = 2 := by rw [hr]; simp [slotWeight, hs]
  have after : slotWeight t.rentals[k] = 1 := by
    show slotWeight t.rentals[k.val] = 1
    rw [getElem_congr_coll rentals, Vector.getElem_set_self]
    rfl
  have bays : (List.finRange 32).map (fun b => bayWeight t.bays[b]) = (List.finRange 32).map fun b => bayWeight s.bays[b] :=
    List.map_congr_left fun o _ => hl o
  simp only [before, after] at slots
  unfold State.committedSum
  rw [bays, journal, List.length_append, List.length_singleton]
  omega

end Sys2Proof.Machine
end

section
/-! The sense events of a release: O54. -/

namespace Sys2Proof.Machine

section Reclosed
variable {s : State} {b : BayIx}

/-- A latch that shuts on a bike not taken discards the release, and the bay is DOCKED (R9). -/
theorem senseEvent_recloses (hr : s.hasRelease b) (hs : (s.bay b).state = .released) (p : (s.bay b).presence = .present)
    (hp : (s.bay b).presenceDue = false) (l : (s.bay b).latch = .opened) (hl : (s.bay b).latchDue = true)
    (h : ∀ (c : Fin 4) q, s.pulse? c = some q → q.bay ≠ b) :
    senseEvent b s = enterDocked b (s.discarded b .latchReclosed { s.bay b with
      latch := .closed, latchAgree := 0, latchDue := false }) := by
  have closed : (s.bay b).accept.latch = .closed := by rw [Bay.accept_latch hl, l]; rfl
  have present : (s.bay b).accept.presence = .present := (Bay.accept_presence_still hp).trans p
  rw [senseEvent_latch hp hl (drivesEnded_alone h _), handleLatch_released (by simpa using hs) (by simpa using closed)
    (by simpa using present), discardRelease_put s b _ _ hr (Bay.accept_link _)]
  simp [Bay.accept_eq, hp, hl, l, Latch.flip]

/-- An entry to DOCKED with no return to process is work at that bay alone. -/
theorem OnlyAt.enterDocked (h : (s.bay b).processed = true ∨ (s.bay b).identity = none) :
    OnlyAt b s (enterDocked b s) := by
  obtain ⟨-, identity, processed⟩ := Bay.changedTo_bike s.ms .docked .off (s.bay b)
  obtain ⟨w, settled⟩ := secured_settles b (s.entered b .docked .off (s.bay b)) (by
    rw [State.entered_bay, processed, identity]
    exact h)
  have e := enterDocked_put_eq b s (s.bay b)
  rw [State.put_self, settled] at e
  rw [e]
  exact (OnlyAt.entered s .docked .off _).trans (.put _ _)

/-- With a return due neither processed mark, nor arrival minute, nor held return is written then. -/
theorem enterDocked_settled_bay (h : (s.bay b).processed = true ∨ (s.bay b).identity = none) :
    (enterDocked b s).bay b = { (s.bay b).changedTo s.ms .docked .off with
      tagWindow := ((enterDocked b s).bay b).tagWindow } := by
  obtain ⟨-, identity, processed⟩ := Bay.changedTo_bike s.ms .docked .off (s.bay b)
  obtain ⟨w, settled⟩ := secured_settles b (s.entered b .docked .off (s.bay b)) (by
    rw [State.entered_bay, processed, identity]
    exact h)
  have e := enterDocked_put_eq b s (s.bay b)
  rw [State.put_self, settled] at e
  rw [e, State.put_bay, State.entered_bay]

/-- The bay of a RELEASED release that is discarded and enters DOCKED with no return to process. -/
theorem enterDocked_discarded {o : LastOutcome} {y : Bay} (hy : y.state = .released)
    (h : y.processed = true ∨ y.identity = none) :
    OnlyAt b (s.discarded b o y) (enterDocked b (s.discarded b o y)) ∧
      (enterDocked b (s.discarded b o y)).bay b = { (y.ended o).changedTo s.ms .docked .off with
        held := ((s.discarded b o y).bay b).held
        tagWindow := ((enterDocked b (s.discarded b o y)).bay b).tagWindow } := by
  have due : y.returnDue = false := Bay.returnDue_off (by simp [hy]) (by simp [hy])
  have record := discarded_bay (t := s) (b := b) due o
  have ms : (s.discarded b o y).ms = s.ms := by rw [discarded_frame]
  have settled : ((s.discarded b o y).bay b).processed = true ∨ ((s.discarded b o y).bay b).identity = none := by
    rw [record]; exact h
  refine ⟨.enterDocked settled, (enterDocked_settled_bay settled).trans ?_⟩
  have held : ∀ (z : Bay) r, ({ z with held := r } : Bay).changedTo s.ms .docked .off =
      { z.changedTo s.ms .docked .off with held := r } := fun z r => by
    unfold Bay.changedTo
    split <;> rfl
  rw [ms, record, held]

end Reclosed

theorem rederive_latching (s : State) (b : BayIx) (y : Bay) (p : y.presence = .present) (l : y.latch = .opened) :
    rederive b (s.put b y) = { s.entered b .latching .slow { y with
        attempts := 0, presenceChanged := false, faultCause := none, link := .unlinked, driveStage := .queued
        arrival := some (y.arrival.getD s.clock.minute) } with
      queue := s.queue ++ [⟨b, .latch, s.nextOrder⟩], nextOrder := s.nextOrder + 1 } := by
  have h := rederive_put s b y
  simpa only [Rederived, p, l] using h

section Rises
variable {s : State} {b : BayIx}

/-- A bike that rises under the readiness mark (R8). -/
theorem senseEvent_readiness_rises (hk : (s.bay b).link = .readiness) (hd : (s.bay b).presenceDue = true)
    (hp : (s.bay b).presence = .absent) (hl : (s.bay b).latchDue = false) (hs : (s.bay b).state = .unlatching) :
    senseEvent b s = presenceMoved b (s.put b { (s.bay b).accept with arrival := some s.clock.minute }) := by
  have present : (s.bay b).accept.presence = .present := by rw [Bay.accept_presence hd, hp]; rfl
  have rises : unlatchingRise b (s.put b (s.bay b).accept) = presenceMoved b (recordArrival b (s.put b (s.bay b).accept)) := by
    unfold unlatchingRise
    rw [State.put_bay, Bay.accept_link, hk]
  rw [senseEvent_presence hd hl, handlePresence_unlatching_rises (by simpa using hs) (by simpa using present), rises,
    recordArrival_put]

/-- A bike that rises in UNLATCHING after a removal (R8). -/
theorem senseEvent_unlinked_rises (hk : (s.bay b).link = .unlinked) (hd : (s.bay b).presenceDue = true)
    (hp : (s.bay b).presence = .absent) (hl : (s.bay b).latchDue = false) (hs : (s.bay b).state = .unlatching) :
    senseEvent b s = s.put b { (s.bay b).accept with arrival := some s.clock.minute } := by
  have present : (s.bay b).accept.presence = .present := by rw [Bay.accept_presence hd, hp]; rfl
  have rises : unlatchingRise b (s.put b (s.bay b).accept) = recordArrival b (s.put b (s.bay b).accept) := by
    unfold unlatchingRise
    rw [State.put_bay, Bay.accept_link, hk]
  rw [senseEvent_presence hd hl, handlePresence_unlatching_rises (by simpa using hs) (by simpa using present), rises,
    recordArrival_put]

/-- A bike that leaves UNLATCHING with no release there (R8). -/
theorem senseEvent_unreleased_falls (hk : (s.bay b).link = .readiness ∨ (s.bay b).link = .unlinked)
    (hd : (s.bay b).presenceDue = true) (hp : (s.bay b).presence = .present) (hl : (s.bay b).latchDue = false)
    (hs : (s.bay b).state = .unlatching) :
    senseEvent b s = s.put b { (s.bay b).accept with arrival := none } := by
  have absent := accept_absent hd hp
  have falls : unlatchingFall b (s.put b (s.bay b).accept) = clearArrival b (s.put b (s.bay b).accept) := by
    unfold unlatchingFall
    rw [State.put_bay, Bay.accept_link]
    rcases hk with hk | hk <;> rw [hk]
  rw [senseEvent_presence hd hl, handlePresence_unlatching_falls (by simpa using hs) (by simpa using absent), falls,
    clearArrival_put]

end Rises

/-- Presence falls at a bay whose latch stands. -/
def FallDue (y : Bay) : Prop := y.presence = .present ∧ y.presenceDue = true ∧ y.latchDue = false

/-- The bay is under a release by its link (R12). -/
def ReleaseLink (y : Bay) : Prop := (∃ k, y.link = .rental k) ∨ y.link = .staff

section Ends
variable {s : State} {b : BayIx} (f : FallDue (s.bay b))
include f

theorem drivesEnded_fall : drivesEnded b (s.bay b) s = s.put b (s.bay b).accept :=
  drivesEnded_unless fun k => absurd (k.symm.trans f.2.2) (by decide)

variable (hs : s.works)

include hs in
theorem taken_released (l : (s.bay b).latch = .opened) (st : (s.bay b).state = .released) :
    ∃ t, exec (.senseEvent b) s = .next t ∧ LeftVacant b (s.taken b (s.bay b).accept) t (s.bay b).accept.departed := by
  have quiet := drivesEnded_fall f
  obtain ⟨p, pd, ld⟩ := f
  exact ⟨_, exec_senseEvent hs (senseEvent_released_falls pd p quiet st), leftVacant _
    (ne_of_eq_of_ne ((Bay.accept_state _).trans st) (by decide)) (accept_absent pd p) ((Bay.accept_latch_still ld).trans l)⟩

variable (st : (s.bay b).state = .unlatching) (hk : ReleaseLink (s.bay b))
include st hk

include hs in
/-- During a pulse the bay stays with no link and the mark (R8). -/
theorem taken_driven (d : (s.bay b).driveStage = .driving) : ∃ t, exec (.senseEvent b) s = .next t ∧
    OnlyAt b (s.taken b (s.bay b).accept) t ∧ (t.bay b).IsGone ∧ (t.bay b).state = .unlatching ∧
      (t.bay b).link = .unlinked ∧ (t.bay b).driveStage = .driving ∧ (t.bay b).presenceChanged = true ∧ t.queue = s.queue := by
  obtain ⟨p, pd, ld⟩ := f
  have gone := (s.bay b).accept.isGone_departed
  refine ⟨_, exec_senseEvent hs (senseEvent_unlatching_driven pd p ld st hk d), .put _ _, ?_⟩
  rw [State.put_bay]
  refine ⟨{ gone with }, (Bay.accept_state _).trans st, rfl, (Bay.accept_driveStage _).trans d, rfl, ?_⟩
  show (s.taken b _).queue = _
  rw [taken_frame]

variable (d : (s.bay b).driveStage = .queued ∨ (s.bay b).driveStage = .retryWait)
include d

/-- With the request withdrawn the bay is re-derived empty (R8, R17). -/
theorem taken_withdrawn : senseEvent b s = rederive b (((s.taken b (s.bay b).accept).unqueued b).put b
    { (s.bay b).accept.departed with link := .unlinked, driveStage := .noRequest, retryDelay := none }) := by
  obtain ⟨p, pd, ld⟩ := f
  exact senseEvent_unlatching_undriven pd p ld st hk (by rcases d with d | d <;> simp [d])

include hs in
theorem taken_opened (l : (s.bay b).latch = .opened) : ∃ t, exec (.senseEvent b) s = .next t ∧
    LeftVacant b ((s.taken b (s.bay b).accept).unqueued b) t
      { (s.bay b).accept.departed with link := .unlinked, driveStage := .noRequest, retryDelay := none } :=
  ⟨_, exec_senseEvent hs (taken_withdrawn f st hk d), leftVacant _
    (ne_of_eq_of_ne ((Bay.accept_state _).trans st) (by decide)) (accept_absent f.2.1 f.1)
    ((Bay.accept_latch_still f.2.2).trans l)⟩

include hs in
theorem taken_shut (l : (s.bay b).latch = .closed) : ∃ t, exec (.senseEvent b) s = .next t ∧
    LeftShut b ((s.taken b (s.bay b).accept).unqueued b) t
      { (s.bay b).accept.departed with link := .unlinked, driveStage := .noRequest, retryDelay := none } :=
  ⟨_, exec_senseEvent hs (taken_withdrawn f st hk d), leftShut _ (accept_absent f.2.1 f.1)
    ((Bay.accept_latch_still f.2.2).trans l)⟩

end Ends

section Shut
variable {s : State} {b : BayIx} (hs : s.works) (hrel : s.hasRelease b) (st : (s.bay b).state = .released)
  (p : (s.bay b).presence = .present) (pd : (s.bay b).presenceDue = false) (l : (s.bay b).latch = .opened)
  (ld : (s.bay b).latchDue = true) (alone : ∀ (c : Fin 4) q, s.pulse? c = some q → q.bay ≠ b)
  (settled : (s.bay b).processed = true ∨ (s.bay b).identity = none)
include hs hrel st p pd l ld alone settled

/-- A latch shut on a bike whose return is dealt with: the release is discarded and the bay DOCKED as it stood (R9). -/
theorem recloses_settled : ∃ t, exec (.senseEvent b) s = .next t ∧
    OnlyAt b (s.discarded b .latchReclosed { s.bay b with latch := .closed, latchAgree := 0, latchDue := false }) t ∧
    ReleaseFlushed b s t ∧ (t.bay b).state = .docked ∧
    (t.bay b).lastOutcome = .latchReclosed ∧ (t.bay b).takeWindow = none ∧ (t.bay b).identity = (s.bay b).identity ∧
    (t.bay b).arrival = (s.bay b).arrival ∧ (t.bay b).processed = (s.bay b).processed ∧ t.queue = s.queue := by
  obtain ⟨only, record⟩ := enterDocked_discarded (s := s) (b := b) (o := .latchReclosed)
    (y := { s.bay b with latch := .closed, latchAgree := 0, latchDue := false }) st settled
  have due : ∀ z : Bay, z.state = (s.bay b).state → z.returnDue = false := fun z e =>
    Bay.returnDue_off (ne_of_eq_of_ne (e.trans st) (by decide)) (ne_of_eq_of_ne (e.trans st) (by decide))
  have flushed := releaseFlushed_discarded (FlushAlike.refl (due (s.bay b) rfl))
    (due { s.bay b with latch := .closed, latchAgree := 0, latchDue := false } rfl) rfl .latchReclosed
  refine ⟨_, exec_senseEvent hs (senseEvent_recloses hrel st p pd l ld alone), only, ?_⟩
  rw [Bay.changedTo_ne (by exact ne_of_eq_of_ne st (by decide))] at record
  refine ⟨flushed.onlyAt only (by rw [record]) (by rw [record]; rfl), ?_⟩
  rw [record]
  refine ⟨rfl, rfl, if_pos st, rfl, rfl, rfl, ?_⟩
  rw [enterDocked_queue, discarded_frame]

/-- With nothing held the discard is all that happens to the lists and the journal. -/
theorem recloses_unheld (none : s.heldOrder = []) {k : Fin 64} {r : Rental} (hl : (s.bay b).link = .rental k)
    (hr : s.rentals[k] = some r) : ∃ t, exec (.senseEvent b) s = .next t ∧
      t.rentals = s.rentals.set k.val Option.none k.isLt ∧
      t.spent = (if r.plan = .casual then s.spent.filter fun x =>
        !(decide (x.rider = r.rider) && decide (x.serial = r.serial) && decide (x.state = .held)) else s.spent) ∧
      (t.bay b).state = .docked ∧ (t.bay b).lastOutcome = .latchReclosed ∧ (t.bay b).link = .unlinked ∧
      (t.bay b).takeWindow = Option.none ∧ (t.bay b).identity = (s.bay b).identity ∧ (t.bay b).arrival = (s.bay b).arrival ∧
      ((t.changes.bays)[b]).outcome = true ∧ t.journal = s.journal ∧ t.queue = s.queue ∧
      (∀ o, o ≠ b → t.bay o = s.bay o) := by
  obtain ⟨t, e, only, flushed, state, outcome, window, identity, arrival, -, queue⟩ :=
    recloses_settled hs hrel st p pd l ld alone settled
  obtain ⟨rentals, spent, journal, others⟩ := discarded_rental none hl hr .latchReclosed
    { s.bay b with latch := .closed, latchAgree := 0, latchDue := false }
  exact ⟨t, e, only.rentals.trans rentals, only.spent.trans spent, state, outcome, flushed.link, window, identity, arrival,
    flushed.outcome, only.journal.trans journal, queue, fun o c => (only.bay c).trans (others o c)⟩

end Shut

/-- The record of a bay with presence PRESENT, as re-derivation takes it to its next state (R17). -/
def Bay.cleared (y : Bay) (minute : Nat) : Bay :=
  { y with
    attempts := 0, presenceChanged := false, faultCause := none, link := .unlinked, driveStage := .noRequest
    arrival := some (y.arrival.getD minute) }

theorem rederive_docked (s : State) (b : BayIx) (y : Bay) (p : y.presence = .present) (l : y.latch = .closed) :
    EntrySettled b (s.entered b .docked .off (y.cleared s.clock.minute)) (rederive b (s.put b y)) := by
  have h := rederive_put s b y
  simpa only [Rederived, Bay.cleared, p, l] using h

/-- Re-derivation to DOCKED of a bay whose bike is not known starts the tag window (R17, R19). -/
theorem rederive_closed_unknown (s : State) (b : BayIx) (y : Bay) (p : y.presence = .present) (l : y.latch = .closed)
    (i : y.identity = none) (h : y.state ≠ .docked) : rederive b (s.put b y) =
      (s.put b { (y.cleared s.clock.minute).changedTo s.ms .docked .off with
        tagWindow := some (s.ms + 1000 * s.settings.tagWindow) }).postBay b .state := by
  have unknown := (rederive_docked s b y p l).unknown (by
    rw [State.entered_bay, (Bay.changedTo_bike _ _ _ _).2.1]; exact i)
  have moved : (y.cleared s.clock.minute).state ≠ .docked := h
  rw [State.entered_bay, State.entered_ne moved] at unknown
  exact unknown.trans (congrArg (·.postBay b .state) (State.put_put s b _ _))

/-- The record of a bay whose presence has fallen. -/
theorem accept_falls {s : State} {b : BayIx} (p : (s.bay b).presence = .present) (pd : (s.bay b).presenceDue = true)
    (ld : (s.bay b).latchDue = false) :
    (s.bay b).accept = { s.bay b with presence := .absent, presenceAgree := 0, presenceDue := false } := by
  simp only [Bay.accept_eq, p, pd, ld, Presence.flip, if_true, if_false, Bool.false_eq_true]

section Readiness
variable {s : State} {b : BayIx} (p : (s.bay b).presence = .absent) (pd : (s.bay b).presenceDue = true)
  (ld : (s.bay b).latchDue = false)
include p pd ld

/-- The record of a bay whose bike has risen. -/
theorem accept_rises : (s.bay b).accept = { s.bay b with presence := .present, presenceAgree := 0, presenceDue := false } := by
  simp only [Bay.accept_eq, p, pd, ld, Presence.flip, if_true, if_false, Bool.false_eq_true]

variable (hs : s.works) (st : (s.bay b).state = .unlatching) (hl : (s.bay b).link = .readiness)
include hs st hl

theorem readiness_rises_driven (d : (s.bay b).driveStage = .driving) : exec (.senseEvent b) s = .next (s.put b { s.bay b with
    presence := .present, presenceAgree := 0, presenceDue := false, arrival := some s.clock.minute, presenceChanged := true }) := by
  have e := senseEvent_readiness_rises hl pd p ld st
  rw [accept_rises p pd ld, presenceMoved_driven s b _ (by exact d)] at e
  exact exec_senseEvent hs e

variable (d : (s.bay b).driveStage = .queued ∨ (s.bay b).driveStage = .retryWait)
include d

theorem readiness_rises_withdrawn : exec (.senseEvent b) s = .next (rederive b ((s.unqueued b).put b { s.bay b with
    presence := .present, presenceAgree := 0, presenceDue := false, arrival := some s.clock.minute
    link := .unlinked, driveStage := .noRequest, retryDelay := none })) := by
  have e := senseEvent_readiness_rises hl pd p ld st
  have undriven : (s.bay b).driveStage ≠ .driving := by rcases d with d | d <;> simp [d]
  rw [accept_rises p pd ld, presenceMoved_undriven s b _ (by exact undriven)] at e
  exact exec_senseEvent hs e

theorem readiness_rises_opened (l : (s.bay b).latch = .opened) : ∃ t, exec (.senseEvent b) s = .next t ∧
    (t.bay b).state = .latching ∧ (t.bay b).link = .unlinked ∧ (t.bay b).arrival = some s.clock.minute ∧
    (t.bay b).driveStage = .queued ∧ (t.bay b).retryDelay = none ∧
    t.queue = (s.queue.filter fun q => decide (q.bay ≠ b)) ++ [⟨b, .latch, s.nextOrder⟩] ∧
    (∀ o, o ≠ b → t.bay o = s.bay o) := by
  refine ⟨_, readiness_rises_withdrawn p pd ld hs st hl d, ?_⟩
  rw [rederive_latching _ _ _ (by rfl) (by exact l)]
  refine ⟨?_, ?_, ?_, ?_, ?_, rfl, fun o c => (State.entered_bays_other (s := s.unqueued b) _ _ _ c)⟩
  all_goals
    refine (congrArg _ (State.entered_bay (s.unqueued b) b _ _ _)).trans ?_
    rw [Bay.changedTo_ne (by exact ne_of_eq_of_ne st (by decide))]
  · rfl
  · exact if_pos (.inr st)

theorem readiness_rises_closed (l : (s.bay b).latch = .closed) (i : (s.bay b).identity = none) :
    ∃ t, exec (.senseEvent b) s = .next t ∧ (t.bay b).state = .docked ∧ (t.bay b).link = .unlinked ∧
      (t.bay b).presence = .present ∧ (t.bay b).arrival = some s.clock.minute ∧ (t.bay b).driveStage = .noRequest ∧
      (t.bay b).retryDelay = none ∧ (t.bay b).attempts = 0 ∧ (t.bay b).identity = none ∧
      (t.bay b).tagWindow = some (s.ms + 1000 * s.settings.tagWindow) ∧
      (t.queue = s.queue.filter fun q => decide (q.bay ≠ b)) ∧ t.nextOrder = s.nextOrder ∧ t.rentals = s.rentals ∧
      t.journal = s.journal ∧ ((t.changes.bays)[b]).state = true ∧ (∀ o, o ≠ b → t.bay o = s.bay o) := by
  have unknown := rederive_closed_unknown (s.unqueued b) b { s.bay b with
    presence := .present, presenceAgree := 0, presenceDue := false, arrival := some s.clock.minute
    link := .unlinked, driveStage := .noRequest, retryDelay := none } rfl l i (ne_of_eq_of_ne st (by decide))
  refine ⟨_, (readiness_rises_withdrawn p pd ld hs st hl d).trans (congrArg Host.Outcome.next unknown), ?_⟩
  rw [Bay.changedTo_ne (by exact ne_of_eq_of_ne st (by decide))]
  have record := fun y : Bay => (State.put_bay (s.unqueued b) b y)
  refine ⟨congrArg Bay.state (record _), congrArg Bay.link (record _), congrArg Bay.presence (record _),
    congrArg Bay.arrival (record _), congrArg Bay.driveStage (record _), (congrArg Bay.retryDelay (record _)).trans ?_,
    congrArg Bay.attempts (record _), (congrArg Bay.identity (record _)).trans i, congrArg Bay.tagWindow (record _),
    rfl, rfl, rfl, rfl, postBay_posted _ b .state, fun o c => State.put_other (s.unqueued b) b _ c⟩
  exact if_pos (.inr st)

end Readiness

/-- Settles O54. -/
theorem removalOfAReleasedRental : Obligations.RemovalOfAReleasedRental := by
  intro s b hs y m set gone opens staffed vacant reopens falls
  have gone_of : ∀ {t : State}, OnlyAt b (s.taken b y.accept) t → (t.bay b).IsGone → gone t := bikeTaken_of
  have opens_of : ∀ {t : State} {k : Fin 64} {r : Rental}, OnlyAt b (s.taken b y.accept) t → y.link = .rental k →
      s.rentals[k] = some r → r.stage ≠ .opened → opens k r t :=
    fun only hl hr hst => checkedOut_of only ((Bay.accept_link y).trans hl) hr hst
  have staffed_of : ∀ {t : State}, OnlyAt b (s.taken b y.accept) t → y.link = .staff → staffed t := fun only hl => by
    have h := staffRemoved_of only ((Bay.accept_link y).trans hl)
    rw [Bay.accept_identity] at h
    exact h
  have queue_of : (s.taken b y.accept).queue = s.queue := by rw [taken_frame]
  have order_of : (s.taken b y.accept).nextOrder = s.nextOrder := by rw [taken_frame]
  have departed := y.accept.isGone_departed
  have filtered : ∀ {t : State}, OnlyAt b ((s.taken b y.accept).unqueued b) t → OnlyAt b (s.taken b y.accept) t :=
    fun h => (OnlyAt.unqueued _).trans h
  have unqueued : ((s.taken b y.accept).unqueued b).queue = s.queue.filter fun q => decide (q.bay ≠ b) := by
    rw [State.unqueued, queue_of]
  refine ⟨fun k r hl hr hst => ⟨fun f l st rs => ?_, fun st p pd l ld alone => ?_, fun f st d => ?_,
      fun st p pd l ld none pr alone =>
        recloses_unheld hs (.inr ⟨k, r, hl, hr, hst⟩) st p pd l ld alone (.inl pr) none hl hr⟩,
    fun k r hl hr hst f st d => ⟨fun l => ?_, fun l => ?_⟩,
    fun hrel st p pd l ld settled alone => ?_, fun hrel st p pd l ld alone => ?_,
    fun hl f => ⟨fun st d l => ?_, fun st l => ?_, fun st d => ?_, fun st d l => ?_⟩,
    fun st hl p pd ld => ⟨readiness_rises_driven p pd ld hs st hl, fun d => ⟨_, readiness_rises_withdrawn p pd ld hs st hl d,
        (rederive_put (s.unqueued b) b _).of_request rfl⟩,
      readiness_rises_opened p pd ld hs st hl, readiness_rises_closed p pd ld hs st hl⟩,
    fun st hl pd ld => exec_senseEvent hs ?_, fun st hl ⟨p, pd, ld⟩ => exec_senseEvent hs ?_⟩
  · obtain ⟨t, e, h⟩ := taken_released f hs l st
    have books : opens k r t := opens_of h.only hl hr hst
    refine ⟨t, e, gone_of h.only (h.gone departed), books, ⟨h.state, h.link, h.lamp, h.posted⟩,
      committedSum_checkedOut books hr rs fun o => ?_, h.queue.trans queue_of⟩
    by_cases c : o = b
    · subst c
      rw [bayWeight, bayWeight, h.link, show (s.bay o).link = _ from hl]
    · rw [h.only.bay c, taken_frame]; rfl
  · have closed : y.accept.latch = .closed := by rw [Bay.accept_latch ld, l]; rfl
    have h := leftShut (b := b) (s.taken b y.accept) (z := y.accept.departed) (accept_absent pd p) closed
    refine ⟨_, exec_senseEvent hs (senseEvent_released_falls pd p (drivesEnded_alone alone _) st),
      gone_of h.only (h.gone departed), opens_of h.only hl hr hst, h.state, h.link, h.driveStage, ?_⟩
    rw [h.queue, queue_of, order_of]
  · obtain ⟨t, e, only, empty, facts⟩ := taken_driven f hs st (.inl ⟨k, hl⟩) d
    exact ⟨t, e, gone_of only empty, opens_of only hl hr hst, facts⟩
  · obtain ⟨t, e, h⟩ := taken_opened f hs st (.inl ⟨k, hl⟩) d l
    exact ⟨t, e, gone_of (filtered h.only) (h.gone { departed with }), opens_of (filtered h.only) hl hr hst,
      ⟨h.state, h.link, h.lamp, h.posted⟩, h.driveStage, h.retryDelay rfl, h.queue.trans unqueued⟩
  · obtain ⟨t, e, h⟩ := taken_shut f hs st (.inl ⟨k, hl⟩) d l
    refine ⟨t, e, gone_of (filtered h.only) (h.gone { departed with }), opens_of (filtered h.only) hl hr hst,
      h.state, h.link, h.driveStage, h.retryDelay rfl, ?_⟩
    rw [h.queue, unqueued, State.unqueued, order_of]
  · obtain ⟨t, e, only, facts⟩ := recloses_settled hs hrel st p pd l ld alone settled
    exact ⟨t, e, facts⟩
  · have e := enterDocked_put (s.discarded b .latchReclosed { y with latch := .closed, latchAgree := 0, latchDue := false }) b
      ((s.discarded b .latchReclosed { y with latch := .closed, latchAgree := 0, latchDue := false }).bay b)
    rw [State.put_self] at e
    exact ⟨_, exec_senseEvent hs (senseEvent_recloses hrel st p pd l ld alone), e⟩
  · obtain ⟨t, e, h⟩ := taken_shut f hs st (.inr hl) d l
    refine ⟨t, e, gone_of (filtered h.only) (h.gone { departed with }), staffed_of (filtered h.only) hl,
      h.state, h.link, h.driveStage, h.retryDelay rfl, ?_⟩
    rw [h.queue, unqueued, State.unqueued, order_of]
  · obtain ⟨t, e, h⟩ := taken_released f hs l st
    exact ⟨t, e, gone_of h.only (h.gone departed), staffed_of h.only hl, ⟨h.state, h.link, h.lamp, h.posted⟩,
      h.queue.trans queue_of⟩
  · obtain ⟨t, e, only, empty, state, link, -, mark, -⟩ := taken_driven f hs st (.inr hl) d
    exact ⟨t, e, gone_of only empty, staffed_of only hl, state, link, mark⟩
  · obtain ⟨t, e, h⟩ := taken_opened f hs st (.inr hl) d l
    exact ⟨t, e, gone_of (filtered h.only) (h.gone { departed with }), staffed_of (filtered h.only) hl,
      ⟨h.state, h.link, h.lamp, h.posted⟩, h.driveStage, h.retryDelay rfl, h.queue.trans unqueued⟩
  · cases p : (s.bay b).presence
    case present =>
      rw [senseEvent_unreleased_falls (.inr hl) pd p ld st, accept_falls p pd ld]
      exact congrArg (s.put b) (if_neg (by decide)).symm
    case absent =>
      rw [senseEvent_unlinked_rises hl pd p ld st, accept_rises p pd ld]
      exact congrArg (s.put b) (if_pos rfl).symm
  · rw [senseEvent_unreleased_falls (.inl hl) pd p ld st, accept_falls p pd ld]
    rfl

end Sys2Proof.Machine
end

section
/-! The ends of a release at its timers: O57. -/

namespace Sys2Proof.Machine

theorem OnlyAt.enterLatching (b : BayIx) (s : State) : OnlyAt b s (enterLatching b s) := by
  have e := enterLatching_put s b (s.bay b)
  rw [State.put_self] at e
  rw [e]
  exact (OnlyAt.entered s .latching .slow _).trans (.queued _ _ _)

theorem enterLatching_queue (b : BayIx) (s : State) :
    (enterLatching b s).queue = s.queue ++ [⟨b, .latch, s.nextOrder⟩] := by
  have e := enterLatching_put s b (s.bay b)
  rw [State.put_self] at e
  rw [e]

theorem enterLatching_bay (b : BayIx) (s : State) : (enterLatching b s).bay b =
    { (s.bay b).changedTo s.ms .latching .slow with attempts := 0, link := .unlinked, driveStage := .queued } := by
  have e := enterLatching_put s b (s.bay b)
  rw [State.put_self] at e
  rw [e]
  exact (State.entered_bay s b _ _ _).trans (Bay.changedTo_request _ _ _ _ _ _ _)

theorem Bay.changedTo_driveStage (y : Bay) (now : Nat) (new : BayState) (p : LampPattern) (d : DriveStage) :
    ({ y with driveStage := d } : Bay).changedTo now new p = { y.changedTo now new p with driveStage := d } := by
  unfold Bay.changedTo
  split <;> rfl

theorem Bay.changedTo_held (y : Bay) (now : Nat) (new : BayState) (p : LampPattern) (r : Option ForeignReturn) :
    ({ y with held := r } : Bay).changedTo now new p = { y.changedTo now new p with held := r } := by
  unfold Bay.changedTo
  split <;> rfl

/-! ### Re-derivation where no return is due -/

section Rest
variable {s : State} {b : BayIx} (p : (s.bay b).presence = .present)
  (h : (s.bay b).processed = true ∨ (s.bay b).identity = none)
include p h

/-- Re-derivation of a bay with a bike and no return to process is work at that bay alone, and its record is the cleared one in
the state of the table, with its tag window and its drive stage (R17). -/
theorem rederive_settled : OnlyAt b s (rederive b s) ∧ ∃ w d, (rederive b s).bay b =
    { ((s.bay b).cleared s.clock.minute).changedTo s.ms (restState .present (s.bay b).latch)
        (restState .present (s.bay b).latch).lamp with tagWindow := w, driveStage := d } ∧
    ((s.bay b).latch = .closed → d = .noRequest ∧ (rederive b s).queue = s.queue) := by
  have own := s.put_self b
  cases l : (s.bay b).latch with
  | opened =>
    have e := rederive_latching s b (s.bay b) p l
    rw [own] at e
    rw [e]
    refine ⟨(OnlyAt.entered s .latching .slow _).trans (.queued _ _ _),
      (((s.bay b).cleared s.clock.minute).changedTo s.ms .latching .slow).tagWindow, .queued, ?_, nofun⟩
    exact (State.entered_bay s b _ _ _).trans
      (Bay.changedTo_driveStage ((s.bay b).cleared s.clock.minute) s.ms .latching .slow .queued)
  | closed =>
    have e := rederive_docked s b (s.bay b) p l
    rw [own] at e
    obtain ⟨-, identity, processed⟩ := Bay.changedTo_bike s.ms .docked .off ((s.bay b).cleared s.clock.minute)
    have record := State.entered_bay s b .docked .off ((s.bay b).cleared s.clock.minute)
    have only := OnlyAt.entered (b := b) s .docked .off ((s.bay b).cleared s.clock.minute)
    have stage : (((s.bay b).cleared s.clock.minute).changedTo s.ms .docked .off).driveStage = .noRequest := by
      unfold Bay.changedTo
      split <;> rfl
    by_cases i : (s.bay b).identity = none
    · have t := e.unknown (by rw [record, identity]; exact i)
      rw [t, record]
      exact ⟨only.trans (.put _ _), some (s.ms + 1000 * s.settings.tagWindow), _,
        State.put_bay (s.entered b .docked .off _) b _, fun _ => ⟨stage, rfl⟩⟩
    · have t := e.dealt (by rw [record, identity]; exact i) (by rw [record, processed]; exact h.resolve_right i)
      rw [t]
      exact ⟨only, _, _, record, fun _ => ⟨stage, rfl⟩⟩

end Rest

/-- A release that the bay holds is discarded from the record that stands. -/
theorem discardRelease_eq {s : State} {b : BayIx} (o : LastOutcome) (h : s.hasRelease b) :
    discardRelease b o s = s.discarded b o (s.bay b) := by
  have e := discardRelease_put s b (s.bay b) o h rfl
  rwa [State.put_self] at e

/-- The bay of a discarded release re-derived with no return to process: the discard with its flush, and then the cleared record
in the state of the table (R17, R84, R130). -/
theorem discarded_rederived {s t : State} {b : BayIx} {y : Bay} (a : FlushAlike b t s) (hh : y.held = (s.bay b).held)
    (p : y.presence = .present) (h : y.processed = true ∨ y.identity = none) (o : LastOutcome) :
    OnlyAt b (t.discarded b o y) (rederive b (t.discarded b o y)) ∧ ReleaseFlushed b s (rederive b (t.discarded b o y)) ∧
    ∃ w d, (rederive b (t.discarded b o y)).bay b = { ((y.ended o).cleared t.clock.minute).changedTo t.ms
        (restState .present y.latch) (restState .present y.latch).lamp with
      held := ((t.discarded b o y).bay b).held, tagWindow := w, driveStage := d } ∧
      (y.latch = .closed → d = .noRequest ∧ (rederive b (t.discarded b o y)).queue = t.queue) ∧
      (y.state ≠ restState .present y.latch → (rederive b (t.discarded b o y)).posted b .state) := by
  have due : y.returnDue = false := by rcases h with h | h <;> simp [Bay.returnDue, h]
  have flushed := releaseFlushed_discarded a due hh o
  have record := discarded_bay (t := t) (b := b) due o
  have frame := discarded_frame t b o y
  have ms : (t.discarded b o y).ms = t.ms := by rw [frame]
  have minute : (t.discarded b o y).clock.minute = t.clock.minute := by rw [frame]
  have queue : (t.discarded b o y).queue = t.queue := by rw [frame]
  obtain ⟨only, w, d, bay, shut⟩ := rederive_settled (s := t.discarded b o y) (b := b) (by rw [record]; exact p)
    (by rw [record]; exact h)
  have latch : ((t.discarded b o y).bay b).latch = y.latch := by rw [record]; rfl
  have cleared : ((t.discarded b o y).bay b).cleared t.clock.minute =
      { (y.ended o).cleared t.clock.minute with held := ((t.discarded b o y).bay b).held } := by
    rw [record]; rfl
  rw [ms, minute, latch, cleared, Bay.changedTo_held] at bay
  rw [latch, queue] at shut
  refine ⟨only, flushed.onlyAt only (by rw [bay]) ?_, w, d, bay, shut, fun st => rederive_posted ?_⟩
  · rw [bay]
    unfold Bay.changedTo
    split <;> rfl
  · rw [record]
    show y.state ≠ restState y.presence y.latch
    rw [p]
    exact st

/-! ### The take window -/

section Take
variable {s : State} {b : BayIx} (hr : s.hasRelease b) (st : (s.bay b).state = .released)
include hr st

/-- The expired take window: the release is discarded and the bay enters LATCHING with its request (R21, R85). -/
theorem takeExpired_ends : OnlyAt b (s.discarded b .takeExpired (s.bay b)) (takeExpired b s) ∧
    ReleaseFlushed b s (takeExpired b s) ∧
    (takeExpired b s).bay b = { ((s.bay b).ended .takeExpired).changedTo s.ms .latching .slow with
      held := ((s.discarded b .takeExpired (s.bay b)).bay b).held, attempts := 0, link := .unlinked, driveStage := .queued } ∧
    (takeExpired b s).queue = s.queue ++ [⟨b, .latch, s.nextOrder⟩] ∧ (takeExpired b s).posted b .state := by
  have due : (s.bay b).returnDue = false := Bay.returnDue_off (by simp [st]) (by simp [st])
  have flushed := releaseFlushed_discarded (.refl due) due rfl .takeExpired
  have record := discarded_bay (t := s) (b := b) due .takeExpired
  have frame := discarded_frame s b .takeExpired (s.bay b)
  have ms : (s.discarded b .takeExpired (s.bay b)).ms = s.ms := by rw [frame]
  have e : takeExpired b s = enterLatching b (s.discarded b .takeExpired (s.bay b)) := by
    rw [takeExpired, discardRelease_eq _ hr]
  have only := OnlyAt.enterLatching b (s.discarded b .takeExpired (s.bay b))
  have bay := enterLatching_bay b (s.discarded b .takeExpired (s.bay b))
  rw [ms, record, Bay.changedTo_held] at bay
  rw [e]
  refine ⟨only, flushed.onlyAt only (by rw [bay]) (by rw [bay]), bay, ?_, ?_⟩
  · rw [enterLatching_queue, frame]
  · exact enterLatching_posted (by rw [record]; exact ne_of_eq_of_ne st (by decide))

end Take

/-! ### The unlatch deadline -/

/-- The record of a bay whose request has been withdrawn at its deadline (R78). -/
def Bay.withdrawn (y : Bay) : Bay := { y with driveStage := .noRequest, retryDelay := none, attempts := 0 }

section Deadline
variable {s : State} {b : BayIx} (hr : s.hasRelease b)
  (d : (s.bay b).driveStage = .queued ∨ (s.bay b).driveStage = .retryWait)
include hr d

/-- The expired deadline of a waiting release discards it and re-derives the bay (R78). -/
theorem deadlineExpired_waiting :
    deadlineExpired b s = rederive b ((s.unqueued b).discarded b .deadline (s.bay b).withdrawn) := by
  have undriven : (s.bay b).driveStage ≠ .driving := by rcases d with d | d <;> simp [d]
  have withdrawn : withdrawRequest b s = (s.unqueued b).put b { s.bay b with driveStage := .noRequest, retryDelay := none } := by
    rw [← withdrawRequest_put, State.put_self]
  rw [deadlineExpired, if_neg undriven, withdrawn, State.modBay_put,
    discardRelease_put (s.unqueued b) b _ _ hr (by rfl)]
  rfl

variable (st : (s.bay b).state = .unlatching) (p : (s.bay b).presence = .present)
  (h : (s.bay b).processed = true ∨ (s.bay b).identity = none)
include st p h

theorem deadlineExpired_settled : ∃ w d,
    OnlyAt b ((s.unqueued b).discarded b .deadline (s.bay b).withdrawn) (deadlineExpired b s) ∧
    ReleaseFlushed b s (deadlineExpired b s) ∧
    (deadlineExpired b s).bay b = { (((s.bay b).withdrawn.ended .deadline).cleared s.clock.minute).changedTo s.ms
        (restState .present (s.bay b).latch) (restState .present (s.bay b).latch).lamp with
      held := (((s.unqueued b).discarded b .deadline (s.bay b).withdrawn).bay b).held, tagWindow := w, driveStage := d } ∧
    (deadlineExpired b s).posted b .state ∧
    ((s.bay b).latch = .closed → d = .noRequest ∧
      (deadlineExpired b s).queue = s.queue.filter fun q => decide (q.bay ≠ b)) := by
  have due : (s.bay b).returnDue = false := by rcases h with h | h <;> simp [Bay.returnDue, h]
  have alike : FlushAlike b (s.unqueued b) s := { FlushAlike.refl due with }
  obtain ⟨only, flushed, w, d, bay, shut, posted⟩ := discarded_rederived (y := (s.bay b).withdrawn) alike rfl p h .deadline
  rw [deadlineExpired_waiting hr ‹_›]
  refine ⟨w, d, only, flushed, bay, posted ?_, shut⟩
  show (s.bay b).state ≠ restState .present (s.bay b).latch
  rw [st]
  cases (s.bay b).latch <;> decide

end Deadline

/-- Settles O57. -/
theorem releasesEndAtTheirTimers : Obligations.ReleasesEndAtTheirTimers := by
  have window : ∀ {s : State} {b : BayIx} {e : Nat}, s.works → e ≤ s.ms → (s.bay b).state = .released →
      (s.bay b).takeWindow = some e → exec (.takeWindowExpiry b) s = .next (takeExpired b s) := fun {s b e} hs he st tw =>
    congrArg Host.Outcome.next (expire_due Bay.takeEnd b _ s hs e ((if_pos st).trans tw) he)
  have deadline : ∀ {s : State} {b : BayIx} {e : Nat}, s.works → e ≤ s.ms →
      (s.bay b).deadline = .running e → exec (.unlatchDeadlineExpiry b) s = .next (deadlineExpired b s) := fun {s b e} hs he h =>
    congrArg Host.Outcome.next (expire_due Bay.deadlineEnd b _ s hs e (congrArg Deadline.expiry? h) he)
  refine ⟨?_, ?_⟩
  · intro s b k r e hs he none hl hr hst withdrawn gone
    have hrel : s.hasRelease b := .inr ⟨k, r, hl, hr, hst⟩
    refine ⟨fun st tw => ⟨_, window hs he st tw, ?_⟩, fun st d dl p l pr => ⟨_, deadline hs he dl, ?_⟩⟩
    · obtain ⟨only, flushed, bay, queue, posted⟩ := takeExpired_ends hrel st
      obtain ⟨rentals, spent, journal, others⟩ := discarded_rental none hl hr .takeExpired (s.bay b)
      rw [Bay.changedTo_ne (by exact ne_of_eq_of_ne st (by decide))] at bay
      exact ⟨⟨only.rentals.trans rentals, only.spent.trans spent, fun o c => (only.bay c).trans (others o c), flushed.link,
        (congrArg Bay.takeWindow bay).trans (if_pos st), congrArg Bay.deadline bay,
        (congrArg Bay.identity bay).trans rfl,
        flushed.outcome, posted⟩, only.journal.trans journal, congrArg Bay.state bay, congrArg Bay.lastOutcome bay,
        congrArg Bay.attempts bay, queue⟩
    · obtain ⟨w, c, only, flushed, bay, posted, shut⟩ := deadlineExpired_settled hrel (.inl d) st p (.inl pr)
      obtain ⟨stage, queue⟩ := shut l
      obtain ⟨rentals, spent, journal, others⟩ := discarded_rental (s := s.unqueued b) (b := b) none hl hr .deadline
        (s.bay b).withdrawn
      rw [l, Bay.changedTo_ne (by exact ne_of_eq_of_ne st (by decide)), stage] at bay
      exact ⟨⟨only.rentals.trans rentals, only.spent.trans spent, fun o c => (only.bay c).trans (others o c), flushed.link,
        (congrArg Bay.takeWindow bay).trans (ite_self Option.none), congrArg Bay.deadline bay,
        (congrArg Bay.identity bay).trans rfl,
        flushed.outcome, posted⟩, only.journal.trans journal, congrArg Bay.state bay, congrArg Bay.lastOutcome bay,
        congrArg Bay.driveStage bay, congrArg Bay.attempts bay, queue⟩
  · intro s b e hs he hrel y
    refine ⟨fun st tw => ⟨_, window hs he st tw, ?_⟩, fun st d dl => ⟨_, deadline hs he dl, ?_⟩,
      fun st d dl p h => ⟨_, deadline hs he dl, ?_⟩⟩
    · obtain ⟨only, flushed, bay, queue, posted⟩ := takeExpired_ends hrel st
      rw [Bay.changedTo_ne (by exact ne_of_eq_of_ne st (by decide))] at bay
      exact ⟨flushed, congrArg Bay.state bay, congrArg Bay.lastOutcome bay, (congrArg Bay.takeWindow bay).trans (if_pos st),
        congrArg Bay.attempts bay, queue⟩
    · rw [deadlineExpired_waiting hrel d]
      have e := rederive_put ((s.unqueued b).discarded b .deadline (s.bay b).withdrawn) b
        (((s.unqueued b).discarded b .deadline (s.bay b).withdrawn).bay b)
      rw [State.put_self] at e
      exact e
    · obtain ⟨w, c, only, flushed, bay, -, -⟩ := deadlineExpired_settled hrel d st p h
      rw [Bay.changedTo_ne (by
        refine ne_of_eq_of_ne st ?_
        cases (s.bay b).latch <;> decide)] at bay
      refine ⟨flushed, ?_⟩
      rw [bay]
      exact ⟨rfl, rfl, ite_self Deadline.stopped, ite_self none, rfl⟩

end Sys2Proof.Machine
end

section
/-! How a bay handles the completion of a pulse (R13 to R16, R79, R80), as operations on its record. -/

namespace Sys2Proof.Machine

/-! ### The parts of a completion -/

section Complete
variable {s : State} {b : BayIx}

/-- A completion with the presence-changed mark re-derives the bay whole. -/
theorem completeChanged_rederived (s : State) (b : BayIx) : Rederived b (s.bay b) s (completeChanged b s) :=
  rederive_put s b { s.bay b with presenceChanged := false, driveStage := .noRequest, attempts := 0, link := .unlinked }

theorem retryOrFault_early (c : FaultCause) (h : (s.bay b).attempts < 2) : retryOrFault b c s = s.put b { s.bay b with
    attempts := (s.bay b).attempts + 1, driveStage := .retryWait, retryDelay := some (s.ms + 2000) } := if_pos h

theorem retryOrFault_third (c : FaultCause) (h : ¬ (s.bay b).attempts < 2) : retryOrFault b c s = enterFault b
    ((discardRelease b .jammed (s.put b ((s.bay b).thirdFailure c))).modBay b fun y => { y with link := .unlinked }) := if_neg h

/-- The third failure of a bay with no release (R16). -/
theorem retryOrFault_unreleased (c : FaultCause) (h : ¬ (s.bay b).attempts < 2)
    (l : (s.bay b).link = .unlinked ∨ (s.bay b).link = .readiness) :
    retryOrFault b c s = enterFault b (s.put b { (s.bay b).thirdFailure c with link := .unlinked }) := by
  have none : discardRelease b .jammed (s.put b ((s.bay b).thirdFailure c)) = s.put b ((s.bay b).thirdFailure c) := by
    have link : ((s.put b ((s.bay b).thirdFailure c)).bay b).link = (s.bay b).link := by rw [State.put_bay]; rfl
    unfold discardRelease
    rw [link]
    rcases l with l | l <;> rw [l]
  rw [retryOrFault_third c h, none, State.modBay_put]

/-- The third failure of a release: it is discarded JAMMED, and the bay enters FAULT (R16). -/
theorem retryOrFault_released (c : FaultCause) (h : ¬ (s.bay b).attempts < 2) (hr : s.hasRelease b) :
    retryOrFault b c s = enterFault b ((s.discarded b .jammed ((s.bay b).thirdFailure c)).put b
      { (s.discarded b .jammed ((s.bay b).thirdFailure c)).bay b with link := .unlinked }) := by
  rw [retryOrFault_third c h, discardRelease_put s b _ _ hr (by rfl), State.modBay_eq_put]

/-! ### The completion of each kind -/

variable (d : (s.bay b).driveStage = .driving)
include d

theorem complete_changed (m : (s.bay b).presenceChanged = true) (k : DriveKind) (r : PulseResult) :
    complete b k r s = completeChanged b s := by
  unfold complete
  rw [if_pos d]
  cases k
  · exact if_pos m
  · exact if_pos m
  · exact if_pos m
  · exact if_pos m

variable (m : (s.bay b).presenceChanged = false)
include m

theorem complete_latch (r : PulseResult) : complete b .latch r s = match r with
    | .done => if (s.bay b).latch = .closed then enterDocked b (clearStage b s) else retryOrFault b .latchJam s
    | .jam => retryOrFault b .latchJam s
    | .abort => postRequest b (clearStage b s) := by
  unfold complete
  rw [if_pos d]
  exact if_neg (by rw [m]; decide)

theorem complete_ready (r : PulseResult) : complete b .unlatchReady r s = match r with
    | .done => rederive b (s.put b { s.bay b with driveStage := .noRequest, link := .unlinked })
    | .jam => retryOrFault b .unlatchJam s
    | .abort => postRequest b (clearStage b s) := by
  have stage : (clearStage b s).modBay b (fun y => { y with link := .unlinked }) =
      s.put b { s.bay b with driveStage := .noRequest, link := .unlinked } := State.modBay_put s b _ _
  unfold complete
  rw [if_pos d, ← stage]
  exact if_neg (by rw [m]; decide)

/-- The two kinds of a release (R12). -/
def DriveKind.isRelease (k : DriveKind) : Prop := k = .unlatchRental ∨ k = .unlatchStaff

theorem complete_release {k : DriveKind} (hk : k.isRelease) (r : PulseResult) : complete b k r s = match r with
    | .done => enterReleased b s
    | .jam => if (s.bay b).deadline = .passed then rederive b (discardRelease b .jammed (clearStage b s))
      else retryOrFault b .unlatchJam s
    | .abort => rederive b (discardRelease b .powerAbort (clearStage b s)) := by
  unfold complete
  rw [if_pos d]
  rcases hk with rfl | rfl
  · exact if_neg (by rw [m]; decide)
  · exact if_neg (by rw [m]; decide)

omit d m in
/-- A release that is ended with an outcome while no pulse drives it, with the bay then re-derived. -/
theorem discard_cleared (o : LastOutcome) (hr : s.hasRelease b) : discardRelease b o (clearStage b s) =
    s.discarded b o { s.bay b with driveStage := .noRequest } := discardRelease_put s b _ o hr rfl

omit d m in
/-- Re-derivation from the record that stands. -/
theorem rederive_self (s : State) (b : BayIx) : Rederived b (s.bay b) s (rederive b s) := by
  have e := rederive_put s b (s.bay b)
  rwa [State.put_self] at e

end Complete

/-! ### Entry to FAULT -/

/-- An entry to FAULT with no return to process is work at that bay alone, which keeps everything of the record but its tag
window and what the change of state itself changes. -/
theorem enterFault_settled {b : BayIx} (s : State) (y : Bay)
    (h : y.presence = .present → y.processed = true ∨ y.identity = none) :
    OnlyAt b s (enterFault b (s.put b y)) ∧ ∃ w, (enterFault b (s.put b y)).bay b =
      { y.changedTo s.ms .fault .fast with tagWindow := w } := by
  obtain ⟨present, absent⟩ := enterFault_put s b y
  obtain ⟨-, identity, processed⟩ := Bay.changedTo_bike s.ms .fault .fast y
  have record := State.entered_bay s b .fault .fast y
  have only := OnlyAt.entered (b := b) s .fault .fast y
  cases p : y.presence with
  | absent =>
    rw [absent p]
    exact ⟨only, _, record⟩
  | present =>
    by_cases i : y.identity = none
    · rw [(present p).unknown (by rw [record, identity]; exact i), record]
      exact ⟨only.trans (.put _ _), _, State.put_bay (s.entered b .fault .fast y) b _⟩
    · rw [(present p).dealt (by rw [record, identity]; exact i) (by rw [record, processed]; exact (h p).resolve_right i)]
      exact ⟨only, _, record⟩

/-- Of a bay that enters FAULT the change of state and what the entry brings are written. -/
theorem enterFault_put_bay (b : BayIx) (s : State) (y : Bay) : (enterFault b (s.put b y)).bay b =
    { y.changedTo s.ms .fault .fast with
      tagWindow := ((enterFault b (s.put b y)).bay b).tagWindow, processed := ((enterFault b (s.put b y)).bay b).processed
      arrival := ((enterFault b (s.put b y)).bay b).arrival, held := ((enterFault b (s.put b y)).bay b).held } := by
  unfold enterFault
  rw [changeState_put]
  simp only
  split
  · rw [secured_bay, State.entered_bay]; rfl
  · rw [State.entered_bay]; rfl

/-- The bay of a release discarded at its third failure enters FAULT with no return to process (R16, R84, R130). -/
theorem discarded_faulted {s t : State} {b : BayIx} {y : Bay} (a : FlushAlike b t s) (hh : y.held = (s.bay b).held)
    (due : y.returnDue = false) (h : y.presence = .present → y.processed = true ∨ y.identity = none) (o : LastOutcome) :
    let u := enterFault b ((t.discarded b o y).put b { (t.discarded b o y).bay b with link := .unlinked })
    OnlyAt b (t.discarded b o y) u ∧ ReleaseFlushed b s u ∧ u.queue = t.queue ∧ (y.state ≠ .fault → u.posted b .state) ∧
      ∃ w, u.bay b = { (y.ended o).changedTo t.ms .fault .fast with
        held := ((t.discarded b o y).bay b).held, tagWindow := w } := by
  intro u
  have flushed := releaseFlushed_discarded a due hh o
  have record := discarded_bay (t := t) (b := b) due o
  have frame := discarded_frame t b o y
  have ms : (t.discarded b o y).ms = t.ms := by rw [frame]
  have queue : (t.discarded b o y).queue = t.queue := by rw [frame]
  have link : ({ (t.discarded b o y).bay b with link := .unlinked } : Bay) =
      { y.ended o with held := ((t.discarded b o y).bay b).held } := by rw [record]; rfl
  obtain ⟨only, w, bay⟩ := enterFault_settled (b := b) (t.discarded b o y)
    { (t.discarded b o y).bay b with link := .unlinked } (by rw [link]; exact h)
  rw [link, ms, Bay.changedTo_held, ← link] at bay
  refine ⟨only, flushed.onlyAt only ((congrArg Bay.held bay).trans rfl) ((congrArg Bay.link bay).trans ?_),
    (enterFault_queue b _).trans queue, fun st => enterFault_posted ?_, w, bay⟩
  · unfold Bay.changedTo
    split <;> rfl
  · rw [State.put_bay, link]
    exact st

/-! ### Re-derivation of a record and its request -/

theorem Bay.rederived_present {y : Bay} (p : y.presence = .present) (m : Nat) : y.rederived m = y.cleared m := by
  simp only [Bay.rederived, Bay.cleared, p]

theorem rederive_enterDocked {s : State} {b : BayIx} (p : (s.bay b).presence = .present) (l : (s.bay b).latch = .closed) :
    rederive b s = enterDocked b (s.put b ((s.bay b).cleared s.clock.minute)) := by
  unfold rederive
  simp only [State.modBay_eq_put, State.put_bay, Bay.rederived_present p, Bay.cleared, p, l]

/-- What re-derivation leaves of the marks and the request of a bay (R17). -/
theorem rederive_request (b : BayIx) (s : State) : ((rederive b s).bay b).presenceChanged = false ∧
    ((rederive b s).bay b).attempts = 0 ∧
    (((rederive b s).bay b).driveStage = .noRequest ∧ (rederive b s).queue = s.queue ∨
      ((rederive b s).bay b).driveStage = .queued ∧ ∃ k, (rederive b s).queue = s.queue ++ [⟨b, k, s.nextOrder⟩] ∧
        k = if (s.bay b).presence = .present then .latch else .unlatchReady) := by
  have own := s.put_self b
  have marks : ∀ (y : Bay) (new : BayState) (p : LampPattern), (y.changedTo s.ms new p).presenceChanged = y.presenceChanged ∧
      (y.changedTo s.ms new p).attempts = y.attempts ∧ (y.changedTo s.ms new p).driveStage = y.driveStage := fun y new p => by
    unfold Bay.changedTo
    split <;> exact ⟨rfl, rfl, rfl⟩
  have entered : ∀ (y : Bay) (new : BayState) (p : LampPattern), ((s.entered b new p y).bay b).presenceChanged = y.presenceChanged ∧
      ((s.entered b new p y).bay b).attempts = y.attempts ∧ ((s.entered b new p y).bay b).driveStage = y.driveStage := by
    intro y new p
    rw [State.entered_bay]
    exact marks y new p
  cases p : (s.bay b).presence <;> cases l : (s.bay b).latch
  case present.closed =>
    rw [rederive_enterDocked p l, enterDocked_put_bay]
    obtain ⟨m1, m2, m3⟩ := marks ((s.bay b).cleared s.clock.minute) .docked .off
    exact ⟨m1, m2, .inl ⟨m3, enterDocked_queue _ _⟩⟩
  case present.opened =>
    have e := rederive_latching s b (s.bay b) p l
    rw [own] at e
    rw [e]
    obtain ⟨m1, m2, m3⟩ := entered { s.bay b with
      attempts := 0, presenceChanged := false, faultCause := none, link := .unlinked, driveStage := .queued
      arrival := some ((s.bay b).arrival.getD s.clock.minute) } .latching .slow
    exact ⟨m1, m2, .inr ⟨m3, .latch, rfl, rfl⟩⟩
  case absent.closed =>
    have e := rederive_readiness s b (s.bay b) p l
    rw [own] at e
    rw [e]
    obtain ⟨m1, m2, m3⟩ := entered { (s.bay b).emptied with link := .readiness, driveStage := .queued } .unlatching .slow
    exact ⟨m1, m2, .inr ⟨m3, .unlatchReady, rfl, rfl⟩⟩
  case absent.opened =>
    have e := rederive_vacant s b (s.bay b) p l
    rw [own] at e
    rw [e]
    obtain ⟨m1, m2, m3⟩ := entered (s.bay b).emptied .vacant .off
    exact ⟨m1, m2, .inl ⟨m3, rfl⟩⟩

/-- Re-derivation of an empty bay is work at that bay alone. -/
theorem OnlyAt.rederive_absent {b : BayIx} {s : State} (p : (s.bay b).presence = .absent) : OnlyAt b s (rederive b s) := by
  have own := s.put_self b
  cases l : (s.bay b).latch with
  | opened =>
    have e := rederive_vacant s b (s.bay b) p l
    rw [own] at e
    rw [e]
    exact .entered s .vacant .off _
  | closed =>
    have e := rederive_readiness s b (s.bay b) p l
    rw [own] at e
    rw [e]
    exact (OnlyAt.entered s .unlatching .slow _).trans (.queued _ _ _)

end Sys2Proof.Machine
end

section
/-! The end of BRAKE: O47. -/

namespace Sys2Proof.Machine

/-- The state in which a channel has entered COAST with its result (R146). -/
def State.coasting (s : State) (c : Fin 4) (p : Pulse) (r : PulseResult) : State :=
  { s with channels := s.channels.set c.val { s.channels[c] with
      mode := .driving { p with phase := .coast, result := some r } } c.isLt }

section Report
variable {s : State} {c : Fin 4} {p : Pulse} (hs : s.works) (hp : s.pulse? c = some p) (h : p.phase = .brake)
include hs hp h

theorem brakeEnd_early (early : s.ms < p.brakeStart + p.profile.brakeTime) : exec (.brakeEnd c) s = .next s := by
  refine congrArg Host.Outcome.next ((pulseEvent_driving _ hs hp).trans (if_neg ?_))
  simp [Pulse.brakeOver, h, early]

theorem brakeEnd_reports (passed : p.brakeStart + p.profile.brakeTime ≤ s.ms) {r : PulseResult}
    (hr : pulseResult p.kind (s.bay p.bay).latch = r) :
    exec (.brakeEnd c) s = .next (complete p.bay p.kind r (s.coasting c p r)) := by
  subst hr
  refine congrArg Host.Outcome.next ((pulseEvent_driving _ hs hp).trans (if_pos ?_))
  simp [Pulse.brakeOver, h, passed]

end Report

/-- The result of a pulse in words: DONE for a LATCH with the latch CLOSED and for an unlatch with it OPEN (R152, R153). -/
theorem pulseResult_eq (k : DriveKind) (l : Latch) :
    pulseResult k l = if k = .latch ↔ l = .closed then .done else .jam := by
  cases k <;> cases l <;> simp [pulseResult]

theorem DriveKind.isRelease.not_latch {k : DriveKind} (h : k.isRelease) : k ≠ .latch := by
  rcases h with rfl | rfl <;> decide

/-- A change of channels alone is nothing that a flush reads. -/
theorem FlushAlike.coasting {s : State} {b : BayIx} (h : (s.bay b).returnDue = false) (c : Fin 4) (p : Pulse)
    (r : PulseResult) : FlushAlike b (s.coasting c p r) s := { FlushAlike.refl h with }

/-! ### A completed release -/

/-- The record of a bay that enters RELEASED (R21, R77, R80). -/
def Bay.enteredReleased (y : Bay) (now window : Nat) : Bay :=
  { y with
    state := .released, driveStage := .noRequest, deadline := .stopped, retryDelay := none
    takeWindow := some (now + 1000 * window), lamp := .steady
    lampPhase := if y.lamp = .steady then y.lampPhase else 0
    lampSince := if y.lamp = .steady then y.lampSince else now }

section Released
variable {s : State} {b : BayIx}

theorem enterReleased_eq (st : (s.bay b).state = .unlatching) (t : State) (ht : releaseRental b (clearStage b s) =
    t.put b { s.bay b with driveStage := .noRequest }) (ms : t.ms = s.ms) :
    enterReleased b s = (t.put b ((s.bay b).enteredReleased s.ms s.settings.takeWindow)).postBay b .state := by
  have moved : ({ s.bay b with driveStage := .noRequest } : Bay).state ≠ .released := ne_of_eq_of_ne st (by decide)
  unfold enterReleased
  rw [ht, changeState_put, State.entered_ne moved, Bay.changedTo_ne moved, ms]
  refine (State.modBay_put (t.postBay b .state) b _ _).trans ?_
  simp only [Bay.enteredReleased, st]
  rfl

theorem enterReleased_staff (st : (s.bay b).state = .unlatching) (l : (s.bay b).link = .staff) :
    enterReleased b s = (s.put b ((s.bay b).enteredReleased s.ms s.settings.takeWindow)).postBay b .state := by
  refine enterReleased_eq st s ?_ rfl
  have link : ((clearStage b s).bay b).link = .staff := by
    rw [clearStage, State.modBay_bay_self]; exact l
  unfold releaseRental
  rw [link]
  rfl

theorem enterReleased_rental (st : (s.bay b).state = .unlatching) {k : Fin 64} {r : Rental} (l : (s.bay b).link = .rental k)
    (hr : s.rentals[k] = some r) (hst : r.stage ≠ .opened) :
    enterReleased b s = ((s.setRental k (some { r with stage := .released })).put b
      ((s.bay b).enteredReleased s.ms s.settings.takeWindow)).postBay b .state := by
  refine enterReleased_eq st (s.setRental k (some { r with stage := .released })) ?_ rfl
  have link : ((clearStage b s).bay b).link = .rental k := by
    rw [clearStage, State.modBay_bay_self]; exact l
  have found : (clearStage b s).heldRental? k = some r := by
    show (s.rentals[k]).filter _ = _
    rw [hr]
    simp [hst]
  unfold releaseRental
  rw [link]
  simp only [found]
  rfl

end Released

/-! ### The obligation, by result -/

section Reported
variable {s : State} {c : Fin 4} {p : Pulse} (hs : s.works) (hp : s.pulse? c = some p) (h : p.phase = .brake)
  (passed : p.brakeStart + p.profile.brakeTime ≤ s.ms) (d : (s.bay p.bay).driveStage = .driving)
include hs hp h passed d

/-- With the presence-changed mark the bay is re-derived whole, whatever the result (R13 to R15). -/
theorem brakeEnd_changed (m : (s.bay p.bay).presenceChanged = true) : ∃ t, exec (.brakeEnd c) s = .next t ∧
    Rederived p.bay (s.bay p.bay)
      (s.coasting c p (if p.kind = .latch ↔ (s.bay p.bay).latch = .closed then .done else .jam)) t ∧
    (t.bay p.bay).presenceChanged = false ∧ (t.bay p.bay).attempts = 0 ∧
    (t.bay p.bay).state = restState (s.bay p.bay).presence (s.bay p.bay).latch ∧
    t.channels = (s.coasting c p (if p.kind = .latch ↔ (s.bay p.bay).latch = .closed then .done else .jam)).channels ∧
    (∀ o, o ≠ p.bay → t.bay o = s.bay o) ∧
    ((t.bay p.bay).driveStage = .noRequest ∧ t.queue = s.queue ∨ (t.bay p.bay).driveStage = .queued ∧
      ∃ k, t.queue = s.queue ++ [⟨p.bay, k, s.nextOrder⟩] ∧
        k = if (s.bay p.bay).presence = .present then .latch else .unlatchReady) ∧
    ((s.bay p.bay).presence = .absent → t.rentals = s.rentals ∧ t.journal = s.journal ∧ (t.bay p.bay).identity = none) := by
  have report := brakeEnd_reports hs hp h passed (pulseResult_eq p.kind _)
  generalize (if p.kind = .latch ↔ (s.bay p.bay).latch = .closed then PulseResult.done else .jam) = r at *
  rw [complete_changed (by exact d) (by exact m)] at report
  obtain ⟨z, hz⟩ : ∃ z : Bay, z = { s.bay p.bay with
    presenceChanged := false, driveStage := .noRequest, attempts := 0, link := .unlinked } := ⟨_, rfl⟩
  have e : completeChanged p.bay (s.coasting c p r) = rederive p.bay ((s.coasting c p r).put p.bay z) := by rw [hz]; rfl
  have record : ((s.coasting c p r).put p.bay z).bay p.bay = z := State.put_bay _ _ _
  obtain ⟨mark, attempts, request⟩ := rederive_request p.bay ((s.coasting c p r).put p.bay z)
  obtain ⟨state, others, -, -, -, identity⟩ := rederive_items p.bay ((s.coasting c p r).put p.bay z) _ rfl
  rw [record] at request state identity
  have presence : z.presence = (s.bay p.bay).presence := by rw [hz]
  have latch : z.latch = (s.bay p.bay).latch := by rw [hz]
  rw [presence] at request state identity
  rw [latch] at state
  refine ⟨_, report, completeChanged_rederived (s.coasting c p r) p.bay, ?_⟩
  rw [e]
  refine ⟨mark, attempts, state, (AtBays.rederive _ _).channels, fun o k => (others o k).trans (State.put_other _ _ _ k),
    request, fun absent => ?_⟩
  have only : OnlyAt p.bay ((s.coasting c p r).put p.bay z) (rederive p.bay ((s.coasting c p r).put p.bay z)) :=
    .rederive_absent (by rw [record]; exact presence.trans absent)
  refine ⟨only.rentals, only.journal, ?_⟩
  rw [identity, absent]
  rfl

variable (m : (s.bay p.bay).presenceChanged = false)
include m

/-- A LATCH with the latch CLOSED docks the bay (R13). -/
theorem brakeEnd_docks (k : p.kind = .latch) (l : (s.bay p.bay).latch = .closed) (st : (s.bay p.bay).state = .latching) :
    ∃ t, exec (.brakeEnd c) s = .next t ∧
      EntrySettled p.bay ((s.coasting c p .done).entered p.bay .docked .off { s.bay p.bay with driveStage := .noRequest }) t ∧
      (t.bay p.bay).state = .docked ∧ (t.bay p.bay).driveStage = .noRequest ∧
      t.channels = (s.coasting c p .done).channels ∧ t.queue = s.queue ∧ t.ms = s.ms ∧
      (∀ o, o ≠ p.bay → t.bay o = s.bay o) := by
  have report := brakeEnd_reports hs hp h passed (r := .done) (by rw [k, l]; rfl)
  rw [k, complete_latch (s := s.coasting c p .done) d m] at report
  have docks : exec (.brakeEnd c) s =
      .next (enterDocked p.bay ((s.coasting c p .done).put p.bay { s.bay p.bay with driveStage := .noRequest })) :=
    report.trans (congrArg Host.Outcome.next (if_pos l))
  have work := AtBays.enterDocked p.bay ((s.coasting c p .done).put p.bay { s.bay p.bay with driveStage := .noRequest })
  refine ⟨_, docks, enterDocked_put _ _ _, enterDocked_state _ _, ?_, work.channels, enterDocked_queue _ _, work.ms,
    fun o n => (enterDocked_other _ o _ n).trans (State.put_other _ _ _ n)⟩
  rw [enterDocked_put_bay, Bay.changedTo_ne (by exact ne_of_eq_of_ne st (by decide))]

/-- A JAM with attempts left starts the retry delay (R16). -/
theorem brakeEnd_retries (k : if p.kind = .latch then (s.bay p.bay).latch = .opened
      else (s.bay p.bay).latch = .closed ∧ (p.kind = .unlatchReady ∨ (s.bay p.bay).deadline ≠ .passed))
    (a : (s.bay p.bay).attempts < 2) :
    exec (.brakeEnd c) s = .next ((s.coasting c p .jam).put p.bay { s.bay p.bay with
      attempts := (s.bay p.bay).attempts + 1, driveStage := .retryWait, retryDelay := some (s.ms + 2000) }) := by
  by_cases latch : p.kind = .latch
  · rw [if_pos latch] at k
    rw [brakeEnd_reports hs hp h passed (r := .jam) (by rw [latch, k]; rfl), latch, complete_latch (by exact d) (by exact m)]
    exact congrArg Host.Outcome.next (retryOrFault_early .latchJam a)
  · rw [if_neg latch] at k
    obtain ⟨l, k⟩ := k
    have jam : pulseResult p.kind (s.bay p.bay).latch = .jam := by rw [pulseResult_eq, l, if_neg (by simpa using latch)]
    rw [brakeEnd_reports hs hp h passed jam]
    by_cases ready : p.kind = .unlatchReady
    · rw [ready, complete_ready (by exact d) (by exact m)]
      exact congrArg Host.Outcome.next (retryOrFault_early .unlatchJam a)
    · have release : p.kind.isRelease := by
        cases e : p.kind <;> simp [e, DriveKind.isRelease] at latch ready ⊢
      rw [complete_release (by exact d) (by exact m) release]
      exact congrArg Host.Outcome.next ((if_neg (k.resolve_left ready)).trans (retryOrFault_early .unlatchJam a))

/-- A readiness unlatch with the latch OPEN re-derives the bay (R14). -/
theorem brakeEnd_ready (k : p.kind = .unlatchReady) (l : (s.bay p.bay).latch = .opened) : exec (.brakeEnd c) s =
    .next (rederive p.bay ((s.coasting c p .done).put p.bay { s.bay p.bay with driveStage := .noRequest, link := .unlinked })) := by
  rw [brakeEnd_reports hs hp h passed (r := .done) (by rw [k, l]; rfl), k, complete_ready (by exact d) (by exact m)]
  rfl

/-- A JAM of a readiness unlatch or of a LATCH at its third failure (R16). -/
theorem brakeEnd_faults (a : 2 ≤ (s.bay p.bay).attempts)
    (k : p.kind = .latch ∧ (s.bay p.bay).latch = .opened ∧ (s.bay p.bay).link = .unlinked ∨
      p.kind = .unlatchReady ∧ (s.bay p.bay).latch = .closed ∧ (s.bay p.bay).link = .readiness) :
    exec (.brakeEnd c) s = .next (enterFault p.bay ((s.coasting c p .jam).put p.bay
      { (s.bay p.bay).thirdFailure (if p.kind = .latch then .latchJam else .unlatchJam) with link := .unlinked })) := by
  have third : ¬ (s.bay p.bay).attempts < 2 := Nat.not_lt.mpr a
  rcases k with ⟨k, l, link⟩ | ⟨k, l, link⟩
  · rw [brakeEnd_reports hs hp h passed (r := .jam) (by rw [k, l]; rfl), k, complete_latch (by exact d) (by exact m)]
    exact congrArg Host.Outcome.next (retryOrFault_unreleased (s := s.coasting c p .jam) _ third (.inl link))
  · rw [brakeEnd_reports hs hp h passed (r := .jam) (by rw [k, l]; rfl), k, complete_ready (by exact d) (by exact m)]
    exact congrArg Host.Outcome.next (retryOrFault_unreleased (s := s.coasting c p .jam) _ third (.inr link))

variable (k : p.kind.isRelease)
include k

/-- A release with its latch OPEN is open to be taken (R15, R80). -/
theorem brakeEnd_releases (l : (s.bay p.bay).latch = .opened) :
    exec (.brakeEnd c) s = .next (enterReleased p.bay (s.coasting c p .done)) := by
  have done : pulseResult p.kind (s.bay p.bay).latch = .done := by
    rw [pulseResult_eq, l, if_pos (by simpa using k.not_latch)]
  rw [brakeEnd_reports hs hp h passed done, complete_release (by exact d) (by exact m) k]

variable (l : (s.bay p.bay).latch = .closed)
include l

/-- A JAM of a release whose deadline has passed discards it (R79). -/
theorem brakeEnd_discards (dl : (s.bay p.bay).deadline = .passed) (hr : s.hasRelease p.bay) : exec (.brakeEnd c) s =
    .next (rederive p.bay ((s.coasting c p .jam).discarded p.bay .jammed { s.bay p.bay with driveStage := .noRequest })) := by
  have jam : pulseResult p.kind (s.bay p.bay).latch = .jam := by
    rw [pulseResult_eq, l, if_neg (by simpa using k.not_latch)]
  rw [brakeEnd_reports hs hp h passed jam, complete_release (by exact d) (by exact m) k]
  exact congrArg Host.Outcome.next ((if_pos dl).trans
    (congrArg (rederive p.bay) (discard_cleared (s := s.coasting c p .jam) .jammed hr)))

/-- A JAM of a release at its third failure (R16). -/
theorem brakeEnd_fails (dl : (s.bay p.bay).deadline ≠ .passed) (a : 2 ≤ (s.bay p.bay).attempts) (hr : s.hasRelease p.bay) :
    exec (.brakeEnd c) s = .next (enterFault p.bay
      (((s.coasting c p .jam).discarded p.bay .jammed ((s.bay p.bay).thirdFailure .unlatchJam)).put p.bay
        { ((s.coasting c p .jam).discarded p.bay .jammed ((s.bay p.bay).thirdFailure .unlatchJam)).bay p.bay with
          link := .unlinked })) := by
  have jam : pulseResult p.kind (s.bay p.bay).latch = .jam := by
    rw [pulseResult_eq, l, if_neg (by simpa using k.not_latch)]
  rw [brakeEnd_reports hs hp h passed jam, complete_release (by exact d) (by exact m) k]
  exact congrArg Host.Outcome.next ((if_neg dl).trans
    (retryOrFault_released (s := s.coasting c p .jam) _ (Nat.not_lt.mpr a) hr))

end Reported

end Sys2Proof.Machine
end

section
/-! The end of BRAKE with the mark clear, result by result: O47. -/

namespace Sys2Proof.Machine

theorem Bay.changedTo_lastOutcome (y : Bay) (now : Nat) (new : BayState) (q : LampPattern) :
    (y.changedTo now new q).lastOutcome = y.lastOutcome := by
  unfold Bay.changedTo
  split <;> rfl

theorem Bay.changedTo_attempts (y : Bay) (now : Nat) (new : BayState) (q : LampPattern) :
    (y.changedTo now new q).attempts = y.attempts := by
  unfold Bay.changedTo
  split <;> rfl

/-- A deadline once stopped stays so through a change of state. -/
theorem Bay.changedTo_stopped {y : Bay} (h : y.deadline = .stopped) (now : Nat) (new : BayState) (q : LampPattern) :
    (y.changedTo now new q).deadline = .stopped := by
  unfold Bay.changedTo
  split
  · exact h
  · show (if _ then Deadline.stopped else y.deadline) = .stopped
    rw [h, ite_self]

section Results
variable {s : State} {c : Fin 4} {p : Pulse} (hs : s.works) (hp : s.pulse? c = some p) (h : p.phase = .brake)
  (passed : p.brakeStart + p.profile.brakeTime ≤ s.ms) (d : (s.bay p.bay).driveStage = .driving)
  (m : (s.bay p.bay).presenceChanged = false)
include hs hp h passed d m

/-- A readiness unlatch of an empty bay leaves it VACANT (R14). -/
theorem brakeEnd_vacates (k : p.kind = .unlatchReady) (l : (s.bay p.bay).latch = .opened)
    (a : (s.bay p.bay).presence = .absent) (st : (s.bay p.bay).state = .unlatching) :
    ∃ t, exec (.brakeEnd c) s = .next t ∧ (t.bay p.bay).state = .vacant ∧ (t.bay p.bay).link = .unlinked ∧
      (t.bay p.bay).driveStage = .noRequest ∧ (t.bay p.bay).attempts = 0 ∧ (t.bay p.bay).identity = none ∧
      t.channels = (s.coasting c p .done).channels ∧ t.queue = s.queue ∧ t.rentals = s.rentals ∧ t.journal = s.journal ∧
      (∀ o, o ≠ p.bay → t.bay o = s.bay o) := by
  obtain ⟨z, hz⟩ : ∃ z : Bay, z = { s.bay p.bay with driveStage := .noRequest, link := .unlinked } := ⟨_, rfl⟩
  have absent : z.presence = .absent := by rw [hz]; exact a
  have e := brakeEnd_ready hs hp h passed d m k l
  rw [← hz] at e
  have left := leftVacant (b := p.bay) (z := z) (s.coasting c p .done) (by rw [hz]; exact ne_of_eq_of_ne st (by decide)) absent
    (by rw [hz]; exact l)
  have record : ((s.coasting c p .done).put p.bay z).bay p.bay = z := State.put_bay _ _ _
  obtain ⟨-, attempts, -⟩ := rederive_request p.bay ((s.coasting c p .done).put p.bay z)
  obtain ⟨-, -, -, -, -, identity⟩ := rederive_items p.bay ((s.coasting c p .done).put p.bay z) _ rfl
  rw [record, absent] at identity
  exact ⟨_, e, left.state, left.link, left.driveStage, attempts, identity, left.only.channels, left.queue, left.only.rentals,
    left.only.journal, fun o n => left.only.bay n⟩

/-- At the third failure of a readiness unlatch of an empty bay (R16). -/
theorem brakeEnd_ready_faults (k : p.kind = .unlatchReady) (l : (s.bay p.bay).latch = .closed)
    (a : (s.bay p.bay).presence = .absent) (n : (s.bay p.bay).attempts = 2) (st : (s.bay p.bay).state = .unlatching)
    (link : (s.bay p.bay).link = .readiness) :
    ∃ t, exec (.brakeEnd c) s = .next t ∧ (t.bay p.bay).state = .fault ∧ (t.bay p.bay).faultCause = some .unlatchJam ∧
      (t.bay p.bay).link = .unlinked ∧ (t.bay p.bay).lastOutcome = (s.bay p.bay).lastOutcome ∧
      (t.bay p.bay).driveStage = .noRequest ∧ (t.bay p.bay).attempts = 0 ∧ (t.bay p.bay).retryDelay = none ∧
      (t.bay p.bay).lamp = .fast ∧ t.channels = (s.coasting c p .jam).channels ∧ t.queue = s.queue ∧
      t.rentals = s.rentals ∧ t.journal = s.journal ∧
      t.changes = { s.changes with bays := s.changes.bays.set p.bay.val { s.changes.bays[p.bay] with state := true } p.bay.isLt } ∧
      (∀ o, o ≠ p.bay → t.bay o = s.bay o) := by
  have e := brakeEnd_faults hs hp h passed d m (Nat.le_of_eq n.symm) (.inr ⟨k, l, link⟩)
  have moved : ({ (s.bay p.bay).thirdFailure .unlatchJam with link := .unlinked } : Bay).state ≠ .fault :=
    ne_of_eq_of_ne st (by decide)
  have fault := (enterFault_put (s.coasting c p .jam) p.bay
    { (s.bay p.bay).thirdFailure .unlatchJam with link := .unlinked }).2 a
  rw [k, if_neg (by decide), fault, State.entered_ne moved, Bay.changedTo_ne moved] at e
  refine ⟨_, e, ?_⟩
  rw [State.postBay_bay, State.put_bay]
  exact ⟨rfl, rfl, rfl, rfl, rfl, rfl, ite_self none, rfl, rfl, rfl, rfl, rfl, rfl, fun o i => State.put_other _ _ _ i⟩

/-- At the third failure of a LATCH (R16). -/
theorem brakeEnd_latch_faults (k : p.kind = .latch) (st : (s.bay p.bay).state = .latching)
    (l : (s.bay p.bay).latch = .opened) (n : (s.bay p.bay).attempts = 2) (link : (s.bay p.bay).link = .unlinked) :
    ∃ t, exec (.brakeEnd c) s = .next t ∧ (t.bay p.bay).state = .fault ∧ (t.bay p.bay).faultCause = some .latchJam ∧
      (t.bay p.bay).driveStage = .noRequest ∧ (t.bay p.bay).attempts = 0 ∧ (t.bay p.bay).retryDelay = none ∧
      (t.bay p.bay).identity = (s.bay p.bay).identity ∧ ((t.changes.bays)[p.bay]).state = true ∧
      (t.bay p.bay).lamp = .fast ∧ (∀ o, o ≠ p.bay → t.bay o = s.bay o) := by
  have e := brakeEnd_faults hs hp h passed d m (Nat.le_of_eq n.symm) (.inl ⟨k, l, link⟩)
  have moved : ({ (s.bay p.bay).thirdFailure .latchJam with link := .unlinked } : Bay).state ≠ .fault :=
    ne_of_eq_of_ne st (by decide)
  rw [if_pos k] at e
  have posted := enterFault_posted (b := p.bay) (s := (s.coasting c p .jam).put p.bay
    { (s.bay p.bay).thirdFailure .latchJam with link := .unlinked }) (by rw [State.put_bay]; exact moved)
  refine ⟨_, e, ?_⟩
  rw [enterFault_put_bay, Bay.changedTo_ne moved]
  exact ⟨rfl, rfl, rfl, rfl, ite_self none, rfl, posted, rfl,
    fun o i => (enterFault_other _ o _ i).trans (State.put_other _ _ _ i)⟩

variable (k : p.kind.isRelease) (l : (s.bay p.bay).latch = .closed) (hr : s.hasRelease p.bay)
  (a : (s.bay p.bay).presence = .present → (s.bay p.bay).processed = true ∨ (s.bay p.bay).identity = none)
include k l hr a

/-- A release discarded JAMMED after its deadline (R79), with no return to process. -/
theorem brakeEnd_jammed (dl : (s.bay p.bay).deadline = .passed) (pr : (s.bay p.bay).presence = .present) :
    ∃ t, exec (.brakeEnd c) s = .next t ∧
      OnlyAt p.bay ((s.coasting c p .jam).discarded p.bay .jammed { s.bay p.bay with driveStage := .noRequest }) t ∧
      ReleaseFlushed p.bay s t ∧ (t.bay p.bay).state = restState .present .closed ∧ (t.bay p.bay).lastOutcome = .jammed ∧
      (t.bay p.bay).driveStage = .noRequest ∧ (t.bay p.bay).deadline = .stopped ∧ (t.bay p.bay).attempts = 0 ∧
      t.channels = (s.coasting c p .jam).channels ∧ t.queue = s.queue := by
  have due : (s.bay p.bay).returnDue = false := by rcases a pr with a | a <;> simp [Bay.returnDue, a]
  obtain ⟨only, flushed, w, x, bay, shut, -⟩ := discarded_rederived (y := { s.bay p.bay with driveStage := .noRequest })
    (FlushAlike.coasting due c p .jam) rfl pr (a pr) .jammed
  obtain ⟨stage, queue⟩ := shut l
  refine ⟨_, brakeEnd_discards hs hp h passed d m k l dl hr, only, flushed, ?_⟩
  have channels : ((s.coasting c p .jam).discarded p.bay .jammed { s.bay p.bay with driveStage := .noRequest }).channels =
      (s.coasting c p .jam).channels := by rw [discarded_frame]
  rw [bay, stage]
  refine ⟨(Bay.changedTo_state _ _ _ _).trans (by rw [l]), Bay.changedTo_lastOutcome _ _ _ _, rfl,
    Bay.changedTo_stopped rfl _ _ _, Bay.changedTo_attempts _ _ _ _, only.channels.trans channels, queue⟩

/-- A release discarded JAMMED at its third failure (R16), with no return to process. -/
theorem brakeEnd_failed (dl : (s.bay p.bay).deadline ≠ .passed) (n : 2 ≤ (s.bay p.bay).attempts)
    (st : (s.bay p.bay).state = .unlatching) :
    ∃ t, exec (.brakeEnd c) s = .next t ∧
      OnlyAt p.bay ((s.coasting c p .jam).discarded p.bay .jammed ((s.bay p.bay).thirdFailure .unlatchJam)) t ∧
      ReleaseFlushed p.bay s t ∧ (t.bay p.bay).state = .fault ∧ (t.bay p.bay).faultCause = some .unlatchJam ∧
      (t.bay p.bay).lastOutcome = .jammed ∧ (t.bay p.bay).driveStage = .noRequest ∧ (t.bay p.bay).attempts = 0 ∧
      (t.bay p.bay).deadline = .stopped ∧ t.channels = (s.coasting c p .jam).channels ∧ t.posted p.bay .state := by
  have due : ∀ y : Bay, y.state = (s.bay p.bay).state → y.returnDue = false := fun y e =>
    Bay.returnDue_off (ne_of_eq_of_ne (e.trans st) (by decide)) (ne_of_eq_of_ne (e.trans st) (by decide))
  obtain ⟨only, flushed, queue, posted, w, bay⟩ := discarded_faulted (y := (s.bay p.bay).thirdFailure .unlatchJam)
    (FlushAlike.coasting (due _ rfl) c p .jam) rfl (due _ rfl) a .jammed
  have channels : ((s.coasting c p .jam).discarded p.bay .jammed ((s.bay p.bay).thirdFailure .unlatchJam)).channels =
      (s.coasting c p .jam).channels := by rw [discarded_frame]
  rw [Bay.changedTo_ne (by exact ne_of_eq_of_ne st (by decide))] at bay
  refine ⟨_, brakeEnd_fails hs hp h passed d m k l dl n hr, only, flushed, ?_⟩
  rw [bay]
  exact ⟨rfl, rfl, rfl, rfl, rfl, rfl, only.channels.trans channels,
    posted (ne_of_eq_of_ne st (by decide))⟩

end Results

/-- Settles O47. -/
theorem brakeEndReportsTheResult : Obligations.BrakeEndReportsTheResult := by
  intro s c p hs hp h y b coast left posts released
  refine ⟨brakeEnd_early hs hp h, fun passed d m => ⟨brakeEnd_docks hs hp h passed d m, brakeEnd_retries hs hp h passed d m,
    fun k l st link => ?_, fun i r k l st link hr pending => ?_, brakeEnd_vacates hs hp h passed d m,
    fun i r k l dl pr done link hr hst none => ?_, fun i r k l dl n st done link hr hst none => ?_,
    fun k l st hr pr a e => ?_, fun k l st => ⟨_, brakeEnd_ready hs hp h passed d m k l, ?_⟩, fun k l st hr => ?_,
    fun n k => ⟨_, brakeEnd_faults hs hp h passed d m n ?_, enterFault_put _ _ _⟩, brakeEnd_ready_faults hs hp h passed d m,
    brakeEnd_latch_faults hs hp h passed d m⟩, brakeEnd_changed hs hp h⟩
  · rw [brakeEnd_releases hs hp h passed d m (.inr k) l, enterReleased_staff (s := s.coasting c p .done) (by exact st) link]
    rfl
  · rw [brakeEnd_releases hs hp h passed d m (.inl k) l,
      enterReleased_rental (s := s.coasting c p .done) (by exact st) link hr (by rw [pending]; decide)]
    rfl
  · obtain ⟨t, e, only, flushed, state, outcome, stage, deadline, attempts, channels, queue⟩ := brakeEnd_jammed hs hp h passed
      d m (.inl k) l (.inr ⟨i, r, link, hr, hst⟩) (fun _ => .inl done) dl pr
    obtain ⟨rentals, -, -, others⟩ := discarded_rental (s := s.coasting c p .jam) (b := b) none link hr .jammed
      { s.bay p.bay with driveStage := .noRequest }
    exact ⟨t, e, only.rentals.trans rentals, state, outcome, flushed.link, stage, deadline, attempts, channels, queue,
      flushed.outcome, fun o n => (only.bay n).trans (others o n)⟩
  · obtain ⟨t, e, only, flushed, state, cause, outcome, stage, attempts, deadline, channels, posted⟩ :=
      brakeEnd_failed hs hp h passed d m (.inl k) l (.inr ⟨i, r, link, hr, hst⟩) (fun _ => .inl done) dl (Nat.le_of_eq n.symm) st
    obtain ⟨rentals, -, -, others⟩ := discarded_rental (s := s.coasting c p .jam) (b := b) none link hr .jammed
      ((s.bay p.bay).thirdFailure .unlatchJam)
    exact ⟨t, e, only.rentals.trans rentals, state, cause, outcome, flushed.link, stage, attempts, deadline, channels,
      flushed.outcome, posted, fun o n => (only.bay n).trans (others o n)⟩
  · by_cases dl : y.deadline = .passed
    · obtain ⟨t, e, -, flushed, state, outcome, -, -, -, channels, -⟩ :=
        brakeEnd_jammed hs hp h passed d m k l hr (fun _ => a) dl pr
      exact ⟨t, e, flushed, outcome, state.trans (if_pos dl).symm, channels⟩
    · obtain ⟨t, e, -, flushed, state, -, outcome, -, -, -, channels, -⟩ :=
        brakeEnd_failed hs hp h passed d m k l hr (fun _ => a) dl (e.resolve_left dl) st
      exact ⟨t, e, flushed, outcome, state.trans (if_neg dl).symm, channels⟩
  · exact rederive_put (left .done) b { y with driveStage := .noRequest, link := .unlinked }
  · by_cases dl : y.deadline = .passed
    · exact ⟨_, brakeEnd_discards hs hp h passed d m k l dl hr, fun _ => rederive_self _ b, fun n => absurd dl n⟩
    · by_cases n : 2 ≤ y.attempts
      · exact ⟨_, brakeEnd_fails hs hp h passed d m k l dl n hr, fun e => absurd e dl, fun _ _ => enterFault_put _ b _⟩
      · have early := brakeEnd_retries hs hp h passed d m (by rw [if_neg (DriveKind.isRelease.not_latch k)]; exact ⟨l, .inr dl⟩) (Nat.not_le.mp n)
        exact ⟨_, early, fun e => absurd e dl, fun _ e => absurd e n⟩
  · rcases k with ⟨k, -, l, link⟩ | ⟨k, -, l, link⟩
    · exact .inl ⟨k, l, link⟩
    · exact .inr ⟨k, l, link⟩

end Sys2Proof.Machine
end

section
/-! The end of COAST: O48. -/

namespace Sys2Proof.Machine

/-! ### The arbiter at the end of a pulse -/

/-- A grant takes a channel that is IDLE (R140). -/
theorem grantOne_idle {s t : State} (h : grantOne s = some t) : ∃ c q, t = grantTo c q s ∧ (s.channels[c]).mode = .idle := by
  unfold grantOne at h
  split at h
  · split at h
    · rename_i c q hc _
      cases h
      exact ⟨c, q, rfl, State.idleChannel?_mode hc⟩
    · cases h
  · cases h

/-- What each grant keeps, a run of grants keeps. -/
theorem grantMany_keeps (I : State → Prop) (k : ∀ s t, I s → grantOne s = some t → I t) (n : Nat) (s : State) (h : I s) :
    I (grantMany n s) := by
  induction n generalizing s with
  | zero => exact h
  | succ n ih =>
    unfold grantMany
    split
    · exact ih _ (k s _ h ‹_›)
    · exact h

/-- A DISABLED channel is granted nothing. -/
theorem arbitrate_disabled {s : State} {c : Fin 4} (h : (s.channels[c]).mode = .disabled) :
    ((arbitrate s).channels[c]).mode = .disabled := by
  refine grantMany_keeps (fun t => (t.channels[c]).mode = .disabled) (fun s t h e => ?_) 4 s h
  obtain ⟨d, q, rfl, idle⟩ := grantOne_idle e
  have ne : d.val ≠ c.val := fun v => by
    rw [Fin.ext v, h] at idle
    cases idle
  show ((s.channels.set d.val _ d.isLt)[c.val]).mode = _
  rw [Vector.getElem_set_ne _ _ ne]
  exact h

/-- A grant leaves the select chain to the next refresh. -/
theorem arbitrate_chain (s : State) : (arbitrate s).chain = s.chain :=
  arbitrate_keeps (fun t => t.chain = s.chain) (fun _ _ _ h _ _ _ => h) s rfl

/-- With nothing to grant the arbiter does nothing (R140, R142). -/
theorem arbitrate_idle {s : State} (h : s.queue = [] ∨ s.band = .brownout) : arbitrate s = s := by
  have none : grantOne s = none := by
    rcases h with h | h
    · have chosen : s.chosenRequest? = none := by simp [State.chosenRequest?, h]
      unfold grantOne
      rw [chosen]
      split <;> simp
    · simp [grantOne, h, Band.allowance]
  show grantMany 4 s = s
  unfold grantMany
  rw [none]

/-! ### The event -/

/-- A channel that has left COAST (R143). -/
def State.freed (s : State) (c : Fin 4) (p : Pulse) : Vector Channel 4 :=
  s.channels.set c.val { s.channels[c] with mode := if p.shorted = true then .disabled else .idle } c.isLt

theorem finishCoast_grants (c : Fin 4) (p : Pulse) (s : State) :
    finishCoast c p s = arbitrate { reportCoast p s with channels := s.freed c p } := by
  have same : (reportCoast p s).channels = s.channels := (BayWork.reportCoast p s).atBays.channels
  have left : ∀ v : Vector Channel 4, v = s.channels →
      v.set c.val { v[c] with mode := if p.shorted then .disabled else .idle } c.isLt = s.freed c p := by
    rintro _ rfl
    rfl
  rw [finishCoast_eq, State.setChannel, left _ same]

theorem exec_grant {s : State} (h : s.works) : exec .grant s = .next (arbitrate s) :=
  congrArg Host.Outcome.next (whenRunning_works s _ h)

section Event
variable {s : State} {c : Fin 4} {p : Pulse} (hs : s.works) (hp : s.pulse? c = some p) (h : p.phase = .coast)
include hs hp

theorem coastEnd_waits (r : s.refreshDue = false) (m : p.refreshed = false) : exec (.coastEnd c) s = .next s :=
  congrArg Host.Outcome.next ((pulseEvent_driving _ hs hp).trans (if_neg (by simp [State.refreshes, r, m])))

include h

theorem coastEnd_acts (m : s.refreshes p = true) : exec (.coastEnd c) s = .next (finishCoast c p (refreshChain s)) :=
  congrArg Host.Outcome.next ((pulseEvent_driving _ hs hp).trans (if_pos ⟨h, m⟩))

/-- The end of COAST at a refresh reports, frees the channel and grants (R140, R143, R146). -/
theorem coastEnd_grants (r : s.refreshDue = false) (m : p.refreshed = true) {t : State} (ht : reportCoast p s = t) :
    exec (.coastEnd c) s = exec .grant { t with channels := s.freed c p } := by
  subst ht
  have work := (BayWork.reportCoast p s).atBays
  have works : ({ reportCoast p s with channels := s.freed c p } : State).works := by
    rw [work]; exact hs
  rw [coastEnd_acts hs hp h (by simp [State.refreshes, m]), refreshChain_idle s r, exec_grant works, finishCoast_grants]

/-- Where the count stands at a refresh the event makes it first, for every channel (R144, log 38). -/
theorem coastEnd_refreshes (r : s.refreshDue = true) : exec (.coastEnd c) s = exec (.coastEnd c) s.afterRefresh := by
  have works : (refreshChain s).works := by rw [refreshChain_frame]; exact hs
  have refreshed : (refreshChain s).pulse? c = some p.refresh := by rw [refreshChain_pulse, if_pos r, hp]; rfl
  have marked : p.refresh = { p with refreshed := true } := by simp [Pulse.refresh, Phase.awaitsRefresh, h]
  have again := refreshChain_idle _ (refreshChain_refreshDue s)
  rw [marked] at refreshed
  rw [← refreshChain_due s r, coastEnd_acts hs hp h (by simp [State.refreshes, r]),
    coastEnd_acts works refreshed h (by simp [State.refreshes]), again]
  rfl

/-- No channel is carried to a bay whose only pulse is in COAST, from the refresh on (R144). -/
theorem coastEnd_unjoins (r : s.refreshDue = true) (one : ∀ (d : Fin 4) q, s.pulse? d = some q → q.bay = p.bay → d = c) :
    ∃ t, exec (.coastEnd c) s = .next t ∧ t.chain[p.bay] = ⟨none, (s.bay p.bay).lampValue⟩ := by
  refine ⟨_, coastEnd_acts hs hp h (by simp [State.refreshes, r]), ?_⟩
  have chain : (finishCoast c p (refreshChain s)).chain = (refreshChain s).chain := by
    rw [finishCoast_grants, arbitrate_chain]
    exact (BayWork.reportCoast p _).atBays.chain
  rw [getElem_congr_coll (i := p.bay) chain, refreshChain_chain, if_pos r, State.chainSlot, Bay.lampOn_eq,
    State.carriedChannel_none s p.bay fun d q e k => ?_]
  obtain rfl := one d q e k
  rw [hp] at e
  cases e
  exact h

end Event

end Sys2Proof.Machine
end

section
/-! What the end of COAST reports, result by result: O48. -/

namespace Sys2Proof.Machine

theorem freed_shorted {s : State} {c : Fin 4} {p : Pulse} (h : p.shorted = true) :
    s.freed c p = s.channels.set c.val { s.channels[c] with mode := .disabled } c.isLt := by
  rw [State.freed, if_pos h]

theorem freed_unshorted {s : State} {c : Fin 4} {p : Pulse} (h : p.shorted = false) :
    s.freed c p = s.channels.set c.val { s.channels[c] with mode := .idle } c.isLt := by
  rw [State.freed, if_neg (by simp [h])]

section Reports
variable {s : State} {p : Pulse}

theorem reportCoast_done (sh : p.shorted = false) (r : p.result = some .done ∨ p.result = some .jam) :
    reportCoast p s = s := by
  rcases r with r | r <;> simp [reportCoast, r, sh]

theorem reportCoast_short (sh : p.shorted = true) (r : p.result = some .jam) :
    reportCoast p s = complete p.bay p.kind .jam s := by
  simp [reportCoast, r, sh]

theorem reportCoast_abort (r : p.result = some .abort) : reportCoast p s = complete p.bay p.kind .abort s := by
  simp [reportCoast, r]

variable (d : (s.bay p.bay).driveStage = .driving)
include d

/-- A completion with the presence-changed mark, whatever was to be reported. -/
theorem reportCoast_changed (m : (s.bay p.bay).presenceChanged = true)
    (k : p.shorted = true ∧ p.result = some .jam ∨ p.shorted = false ∧ p.result = some .abort) :
    reportCoast p s = completeChanged p.bay s := by
  rcases k with ⟨sh, r⟩ | ⟨-, r⟩
  · rw [reportCoast_short sh r, complete_changed d m]
  · rw [reportCoast_abort r, complete_changed d m]

variable (m : (s.bay p.bay).presenceChanged = false)
include m

/-- The JAM of a short with attempts left (R16). -/
theorem reportCoast_retries (sh : p.shorted = true) (r : p.result = some .jam) (a : (s.bay p.bay).attempts < 2)
    (k : p.kind = .latch ∨ p.kind = .unlatchReady ∨ (s.bay p.bay).deadline ≠ .passed) :
    reportCoast p s = s.put p.bay { s.bay p.bay with
      attempts := (s.bay p.bay).attempts + 1, driveStage := .retryWait, retryDelay := some (s.ms + 2000) } := by
  rw [reportCoast_short sh r]
  by_cases latch : p.kind = .latch
  · rw [latch, complete_latch d m]
    exact retryOrFault_early .latchJam a
  · by_cases ready : p.kind = .unlatchReady
    · rw [ready, complete_ready d m]
      exact retryOrFault_early .unlatchJam a
    · have release : p.kind.isRelease := by
        cases e : p.kind <;> simp [e, DriveKind.isRelease] at latch ready ⊢
      rw [complete_release d m release]
      exact (if_neg ((k.resolve_left latch).resolve_left ready)).trans (retryOrFault_early .unlatchJam a)

/-- The JAM of a short at the third failure of a LATCH or a readiness unlatch (R16). -/
theorem reportCoast_faults (sh : p.shorted = true) (r : p.result = some .jam) (a : 2 ≤ (s.bay p.bay).attempts)
    (k : p.kind = .latch ∧ (s.bay p.bay).link = .unlinked ∨ p.kind = .unlatchReady ∧ (s.bay p.bay).link = .readiness) :
    reportCoast p s = enterFault p.bay (s.put p.bay
      { (s.bay p.bay).thirdFailure (if p.kind = .latch then .latchJam else .unlatchJam) with link := .unlinked }) := by
  have third : ¬ (s.bay p.bay).attempts < 2 := Nat.not_lt.mpr a
  rw [reportCoast_short sh r]
  rcases k with ⟨k, link⟩ | ⟨k, link⟩
  · rw [k, complete_latch d m]
    exact retryOrFault_unreleased _ third (.inl link)
  · rw [k, complete_ready d m]
    exact retryOrFault_unreleased _ third (.inr link)

/-- An ABORT of a LATCH or a readiness unlatch posts its request again (R13, R14, R159). -/
theorem reportCoast_reposts (r : p.result = some .abort)
    (k : p.kind = .latch ∧ (s.bay p.bay).state = .latching ∨
      p.kind = .unlatchReady ∧ (s.bay p.bay).state = .unlatching ∧ (s.bay p.bay).link = .readiness) :
    reportCoast p s = { s with
      queue := s.queue ++ [⟨p.bay, p.kind, s.nextOrder⟩], nextOrder := s.nextOrder + 1
      bays := s.bays.set p.bay.val { s.bay p.bay with driveStage := .queued } p.bay.isLt } := by
  have kind : ((clearStage p.bay s).bay p.bay).requestKind = some p.kind := by
    rw [clearStage, State.modBay_bay_self]
    rcases k with ⟨k, st⟩ | ⟨k, st, link⟩
    · exact requestKind_of (.inl ⟨st, k⟩)
    · exact requestKind_of (.inr ⟨st, .inr (.inr ⟨link, k⟩)⟩)
  have posted : postRequest p.bay (clearStage p.bay s) = { s with
      queue := s.queue ++ [⟨p.bay, p.kind, s.nextOrder⟩], nextOrder := s.nextOrder + 1
      bays := s.bays.set p.bay.val { s.bay p.bay with driveStage := .queued } p.bay.isLt } := by
    rw [postRequest_some _ _ _ kind]
    simp [clearStage, State.modBay, State.bay]
  rw [← posted, reportCoast_abort r]
  rcases k with ⟨k, -⟩ | ⟨k, -⟩
  · rw [k, complete_latch d m]
  · rw [k, complete_ready d m]

variable (k : p.kind.isRelease) (hr : s.hasRelease p.bay)
include k hr

/-- A release discarded while its pulse ends, with the bay re-derived (R79, R159). -/
theorem reportCoast_discards
    (e : p.shorted = true ∧ p.result = some .jam ∧ (s.bay p.bay).deadline = .passed ∨ p.shorted = false ∧ p.result = some .abort) :
    reportCoast p s = rederive p.bay (s.discarded p.bay (if p.shorted = true then .jammed else .powerAbort)
      { s.bay p.bay with driveStage := .noRequest }) := by
  rcases e with ⟨sh, r, dl⟩ | ⟨sh, r⟩
  · rw [reportCoast_short sh r, complete_release d m k, if_pos sh, ← discard_cleared .jammed hr]
    exact if_pos dl
  · rw [reportCoast_abort r, complete_release d m k, if_neg (c := p.shorted = true) (by simp [sh]), ← discard_cleared .powerAbort hr]

/-- A release at its third failure by a short (R16). -/
theorem reportCoast_fails (sh : p.shorted = true) (r : p.result = some .jam) (dl : (s.bay p.bay).deadline ≠ .passed)
    (a : 2 ≤ (s.bay p.bay).attempts) : reportCoast p s = enterFault p.bay
      ((s.discarded p.bay .jammed ((s.bay p.bay).thirdFailure .unlatchJam)).put p.bay
        { (s.discarded p.bay .jammed ((s.bay p.bay).thirdFailure .unlatchJam)).bay p.bay with link := .unlinked }) := by
  rw [reportCoast_short sh r, complete_release d m k]
  exact (if_neg dl).trans (retryOrFault_released _ (Nat.not_lt.mpr a) hr)

end Reports

section Settled
variable {s : State} {c : Fin 4} {p : Pulse} (hs : s.works) (hp : s.pulse? c = some p) (h : p.phase = .coast)
  (due : s.refreshDue = false) (mark : p.refreshed = true) (d : (s.bay p.bay).driveStage = .driving)
  (m : (s.bay p.bay).presenceChanged = false)
include hs hp h due mark d m

/-- The third failure by a short of a bay with no release and no return to process (R16). -/
theorem coastEnd_faults (sh : p.shorted = true) (r : p.result = some .jam) (a : 2 ≤ (s.bay p.bay).attempts)
    (pr : (s.bay p.bay).presence = .absent ∨ (s.bay p.bay).processed = true)
    (k : p.kind = .latch ∧ (s.bay p.bay).state = .latching ∧ (s.bay p.bay).link = .unlinked ∨
      p.kind = .unlatchReady ∧ (s.bay p.bay).state = .unlatching ∧ (s.bay p.bay).link = .readiness) :
    ∃ u, exec (.coastEnd c) s = exec .grant u ∧
      u.channels = s.channels.set c.val { s.channels[c] with mode := .disabled } c.isLt ∧ u.queue = s.queue ∧
      u.rentals = s.rentals ∧ u.journal = s.journal ∧ (u.bay p.bay).state = .fault ∧
      (u.bay p.bay).faultCause = some (if p.kind = .latch then .latchJam else .unlatchJam) ∧
      (u.bay p.bay).link = .unlinked ∧ (u.bay p.bay).lastOutcome = (s.bay p.bay).lastOutcome ∧
      (u.bay p.bay).driveStage = .noRequest ∧ (u.bay p.bay).attempts = 0 ∧ (u.bay p.bay).retryDelay = none ∧
      ((u.changes.bays)[p.bay]).state = true ∧ (∀ o, o ≠ p.bay → u.bay o = s.bay o) := by
  have st : (s.bay p.bay).state ≠ .fault := by rcases k with ⟨-, st, -⟩ | ⟨-, st, -⟩ <;> rw [st] <;> decide
  have kind : p.kind = .latch ∧ (s.bay p.bay).link = .unlinked ∨ p.kind = .unlatchReady ∧ (s.bay p.bay).link = .readiness := by
    rcases k with ⟨k, -, l⟩ | ⟨k, -, l⟩
    · exact .inl ⟨k, l⟩
    · exact .inr ⟨k, l⟩
  obtain ⟨z, hz⟩ : ∃ z : Bay, z = { (s.bay p.bay).thirdFailure (if p.kind = .latch then .latchJam else .unlatchJam) with
    link := .unlinked } := ⟨_, rfl⟩
  have e := coastEnd_grants hs hp h due mark (reportCoast_faults d m sh r a kind)
  rw [← hz] at e
  have moved : z.state ≠ .fault := by rw [hz]; exact st
  obtain ⟨only, w, bay⟩ := enterFault_settled (b := p.bay) s z (by
    rw [hz]
    exact fun present => .inl (pr.resolve_left (by rw [show (s.bay p.bay).presence = _ from present]; decide)))
  have posted := enterFault_posted (b := p.bay) (s := s.put p.bay z) (by rw [State.put_bay]; exact moved)
  have queue := enterFault_queue p.bay (s.put p.bay z)
  rw [Bay.changedTo_ne moved] at bay
  generalize enterFault p.bay (s.put p.bay z) = t at *
  refine ⟨_, e, freed_shorted sh, queue, only.rentals, only.journal, ?_⟩
  have same : ({ t with channels := s.freed c p } : State).bay p.bay = t.bay p.bay := rfl
  rw [same, bay, hz]
  exact ⟨rfl, rfl, rfl, rfl, rfl, rfl, ite_self none, posted, fun o n => only.bay n⟩

variable (k : p.kind.isRelease) (hr : s.hasRelease p.bay) (pr : (s.bay p.bay).presence = .present)
  (a : (s.bay p.bay).processed = true ∨ (s.bay p.bay).identity = none)
include k hr pr a

/-- A release discarded at the end of COAST, the bay re-derived with no return to process (R79, R159). -/
theorem coastEnd_discards
    (e : p.shorted = true ∧ p.result = some .jam ∧ (s.bay p.bay).deadline = .passed ∨ p.shorted = false ∧ p.result = some .abort) :
    ∃ u, exec (.coastEnd c) s = exec .grant u ∧
      OnlyAt p.bay (s.discarded p.bay (if p.shorted = true then .jammed else .powerAbort)
        { s.bay p.bay with driveStage := .noRequest }) { u with channels := s.channels } ∧
      ReleaseFlushed p.bay s u ∧ u.channels = s.freed c p ∧
      (u.bay p.bay).state = restState .present (s.bay p.bay).latch ∧
      (u.bay p.bay).lastOutcome = (if p.shorted = true then .jammed else .powerAbort) ∧
      (u.bay p.bay).deadline = .stopped ∧ (u.bay p.bay).identity = (s.bay p.bay).identity ∧
      (s.band = .brownout → exec .grant u = .next u) := by
  have idle : (s.bay p.bay).returnDue = false := by rcases a with a | a <;> simp [Bay.returnDue, a]
  obtain ⟨only, flushed, w, x, bay, -, -⟩ := discarded_rederived (y := { s.bay p.bay with driveStage := .noRequest })
    (FlushAlike.refl idle) rfl pr a (if p.shorted = true then .jammed else .powerAbort)
  have acts := coastEnd_grants hs hp h due mark (reportCoast_discards d m k hr e)
  have channels := only.channels.trans (congrArg State.channels (discarded_frame s p.bay _ _))
  have band : (rederive p.bay (s.discarded p.bay (if p.shorted = true then .jammed else .powerAbort)
      { s.bay p.bay with driveStage := .noRequest })).band = s.band := by rw [only.frame, discarded_frame]
  have works : (rederive p.bay (s.discarded p.bay (if p.shorted = true then .jammed else .powerAbort)
      { s.bay p.bay with driveStage := .noRequest })).works := by rw [only.frame, discarded_frame]; exact hs
  generalize rederive p.bay (s.discarded p.bay (if p.shorted = true then .jammed else .powerAbort)
      { s.bay p.bay with driveStage := .noRequest }) = t at *
  have kept : ({ { t with channels := s.freed c p } with channels := s.channels } : State) = t := by
    rw [← show t.channels = s.channels from channels]
  have same : ({ t with channels := s.freed c p } : State).bay p.bay = t.bay p.bay := rfl
  refine ⟨_, acts, kept ▸ only, { flushed with }, rfl, ?_⟩
  rw [same, bay]
  refine ⟨Bay.changedTo_state _ _ _ _, Bay.changedTo_lastOutcome _ _ _ _, Bay.changedTo_stopped rfl _ _ _,
    (Bay.changedTo_bike _ _ _ _).2.1, fun bo => ?_⟩
  rw [exec_grant (by exact works), arbitrate_idle (.inr (by exact band.trans bo))]

omit pr in
/-- A release discarded at its third failure by a short, with no return to process (R16). -/
theorem coastEnd_fails (sh : p.shorted = true) (r : p.result = some .jam) (dl : (s.bay p.bay).deadline ≠ .passed)
    (n : 2 ≤ (s.bay p.bay).attempts) (st : (s.bay p.bay).state = .unlatching) :
    ∃ u, exec (.coastEnd c) s = exec .grant u ∧ ReleaseFlushed p.bay s u ∧ u.channels = s.freed c p ∧
      (u.bay p.bay).lastOutcome = .jammed ∧ (u.bay p.bay).state = .fault ∧
      (u.bay p.bay).faultCause = some .unlatchJam ∧ u.queue = s.queue := by
  have idle : (s.bay p.bay).returnDue = false := by rcases a with a | a <;> simp [Bay.returnDue, a]
  have third : ((s.bay p.bay).thirdFailure .unlatchJam).returnDue = false :=
    Bay.returnDue_off (ne_of_eq_of_ne st (by decide)) (ne_of_eq_of_ne st (by decide))
  obtain ⟨-, flushed, queue, -, w, bay⟩ := discarded_faulted (y := (s.bay p.bay).thirdFailure .unlatchJam)
    (FlushAlike.refl idle) rfl third (fun _ => a) .jammed
  rw [Bay.changedTo_ne (by exact ne_of_eq_of_ne st (by decide))] at bay
  have acts := coastEnd_grants hs hp h due mark (reportCoast_fails d m k hr sh r dl n)
  generalize enterFault p.bay _ = t at *
  have same : ({ t with channels := s.freed c p } : State).bay p.bay = t.bay p.bay := rfl
  refine ⟨_, acts, { flushed with }, rfl, ?_⟩
  rw [same, bay]
  exact ⟨rfl, rfl, rfl, queue⟩

end Settled

/-- Where the arbiter has nothing to grant, the report and the freed channel are all. -/
theorem coastEnd_settles {s : State} {c : Fin 4} {p : Pulse} (hs : s.works) (hp : s.pulse? c = some p) (h : p.phase = .coast)
    (due : s.refreshDue = false) (mark : p.refreshed = true) {t : State} (ht : reportCoast p s = t)
    (idle : t.queue = [] ∨ t.band = .brownout) :
    exec (.coastEnd c) s = .next { t with channels := s.freed c p } := by
  have works : ({ t with channels := s.freed c p } : State).works := by
    rw [← ht, (BayWork.reportCoast p s).atBays]; exact hs
  rw [coastEnd_grants hs hp h due mark ht, exec_grant works, arbitrate_idle (by exact idle)]

/-- The event leaves the chain to the next refresh, and a shorted channel DISABLED (R143). -/
theorem coastEnd_leaves {s : State} {c : Fin 4} {p : Pulse} (hs : s.works) (hp : s.pulse? c = some p) (h : p.phase = .coast)
    (due : s.refreshDue = false) (mark : p.refreshed = true) : ∃ t, exec (.coastEnd c) s = .next t ∧ t.chain = s.chain ∧
      (p.shorted = true → (t.channels[c]).mode = .disabled) := by
  refine ⟨_, coastEnd_acts hs hp h (by simp [State.refreshes, mark]), ?_, fun sh => ?_⟩
  · rw [finishCoast_grants, arbitrate_chain, refreshChain_idle s due]
    exact (BayWork.reportCoast p s).atBays.chain
  · rw [refreshChain_idle s due, finishCoast_grants, freed_shorted sh]
    exact arbitrate_disabled (by simp)

/-- Settles O48. -/
theorem coastEndFreesTheChannel : Obligations.CoastEndFreesTheChannel := by
  intro s c p hs hp h x y idle disabled freed b waits
  have freed_eq : freed = s.freed c p := by
    cases sh : p.shorted
    · exact (if_neg (by simp [sh])).trans (freed_unshorted sh).symm
    · exact (if_pos sh).trans (freed_shorted sh).symm
  refine ⟨fun due => ⟨coastEnd_due hs hp h (by simp [State.refreshes, due]), coastEnd_refreshes hs hp h due,
      coastEnd_unjoins hs hp h due⟩, coastEnd_waits hs hp,
    fun due mark => ⟨coastEnd_due hs hp h (by simp [State.refreshes, mark]), fun sh r q => ?_, fun sh r => ?_, fun sh => ?_,
      fun sh r w a pr k => coastEnd_faults hs hp h due mark w.1 w.2 sh r a pr k, fun sh r w k st hr pr a e => ?_, ?_,
      fun k d => ⟨fun m => ?_, fun m rel st hr => ?_⟩, fun sh r w a k => ?_, fun sh r q w a k => ?_,
      fun i sh r bo w k st => ?_, fun i r sh res bo w k link hr hst none pr done => ?_,
      fun sh r bo w k st hr pr a => ?_⟩⟩
  · rw [coastEnd_settles hs hp h due mark (reportCoast_done sh r) (.inl q), freed_unshorted sh]
  · rw [coastEnd_grants hs hp h due mark (reportCoast_done sh r), freed_unshorted sh]
  · obtain ⟨t, e, -, disables⟩ := coastEnd_leaves hs hp h due mark
    exact ⟨t, e, disables sh⟩
  · by_cases dl : y.deadline = .passed
    · obtain ⟨u, e, -, flushed, channels, state, outcome, -⟩ :=
        coastEnd_discards hs hp h due mark w.1 w.2 k hr pr a (.inl ⟨sh, r, dl⟩)
      exact ⟨u, e, flushed, channels.trans (freed_shorted sh), outcome.trans (if_pos sh), state.trans (if_pos dl).symm,
        fun n => absurd dl n⟩
    · obtain ⟨u, e, flushed, channels, outcome, state, cause, queue⟩ :=
        coastEnd_fails hs hp h due mark w.1 w.2 k hr a sh r dl (e.resolve_left dl) st
      exact ⟨u, e, flushed, channels.trans (freed_shorted sh), outcome, state.trans (if_neg dl).symm,
        fun _ => ⟨cause, queue⟩⟩
  · obtain ⟨t, e, chain, -⟩ := coastEnd_leaves hs hp h due mark
    exact ⟨t, e, chain⟩
  · rw [freed_eq]
    exact ⟨_, coastEnd_grants hs hp h due mark (reportCoast_changed d m k), completeChanged_rederived s b⟩
  · rw [freed_eq]
    by_cases early : p.shorted = true ∧ y.deadline ≠ .passed
    · refine ⟨_, coastEnd_grants hs hp h due mark rfl, fun e => ?_, fun sh dl n => ?_⟩
      · exact absurd early (by rcases e with e | e <;> simp [e])
      · rw [reportCoast_fails d m rel hr sh (k.resolve_right (by simp [sh])).2 dl n]
        exact enterFault_put _ b _
    · have ends : p.shorted = true ∧ p.result = some .jam ∧ y.deadline = .passed ∨
          p.shorted = false ∧ p.result = some .abort :=
        k.imp_left fun ⟨sh, r⟩ => ⟨sh, r, Classical.not_not.mp fun n => early ⟨sh, n⟩⟩
      exact ⟨_, coastEnd_grants hs hp h due mark (reportCoast_discards d m rel hr ends), fun _ => rederive_self _ b,
        fun sh dl _ => absurd ⟨sh, dl⟩ early⟩
  · have kind : p.kind = .latch ∧ y.link = .unlinked ∨ p.kind = .unlatchReady ∧ y.link = .readiness := by
      rcases k with ⟨k, -, l⟩ | ⟨k, -, l⟩
      · exact .inl ⟨k, l⟩
      · exact .inr ⟨k, l⟩
    refine ⟨_, (coastEnd_grants hs hp h due mark (reportCoast_faults w.1 w.2 sh r a kind)).trans ?_, enterFault_put _ b _⟩
    rw [freed_shorted sh]
  · rw [coastEnd_settles hs hp h due mark (reportCoast_retries w.1 w.2 sh r a k) (.inl q), freed_shorted sh]
    rfl
  · subst k
    rw [coastEnd_settles hs hp h due mark (reportCoast_reposts w.1 w.2 r st) (.inr bo), freed_unshorted sh]
  · obtain ⟨u, e, only, flushed, channels, state, outcome, deadline, identity, still⟩ := coastEnd_discards hs hp h due mark
      w.1 w.2 (.inl k) (.inr ⟨i, r, link, hr, hst⟩) pr (.inl done) (.inr ⟨sh, res⟩)
    obtain ⟨rentals, -, journal, others⟩ := discarded_rental (b := b) none link hr
      (if p.shorted = true then .jammed else .powerAbort) { s.bay p.bay with driveStage := .noRequest }
    exact ⟨u, e.trans (still bo), only.rentals.trans rentals, channels.trans (freed_unshorted sh), state,
      outcome.trans (if_neg (by simp [sh])), flushed.link, deadline, identity, flushed.outcome, only.journal.trans journal,
      fun o n => (only.bay n).trans (others o n)⟩
  · obtain ⟨u, e, -, flushed, channels, state, outcome, -, -, still⟩ := coastEnd_discards hs hp h due mark
      w.1 w.2 k hr pr a (.inr ⟨sh, r⟩)
    exact ⟨u, e.trans (still bo), flushed, channels.trans (freed_unshorted sh), state, outcome.trans (if_neg (by simp [sh]))⟩

end Sys2Proof.Machine
end

section
/-! The admission of a PRESENT answers the first step that fails: O30. -/

namespace Sys2Proof.Machine

/-! ### An admission and the list of the steps that fail -/

/-- The admission `a` answers the first of the failing steps `l`, and accepts where none fails. The reason it carries is that of
a deny entry of the rider for DENIED, and 0 otherwise (R68, R69). -/
structure Answers (s : State) (t : Token) (a : Admission) (l : List PresentOutcome) : Prop where
  refused : ∀ o, l.head? = some o → ∃ reason, a = .refused o reason ∧ (o ≠ .denied → reason = 0) ∧
    (o = .denied → ∃ e ∈ s.deny, e.rider = t.rider.toNat ∧ e.reason = reason)
  accepted : l.head? = none → ∃ x, a = .accepted x

section Steps
variable {s : State} {t : Token} {o : PresentOutcome} {cond : Bool} {a : Admission} {l : List PresentOutcome}

/-- A step that fails is answered, whatever follows. -/
theorem Answers.fails (h : cond = true) (n : o ≠ .denied) : Answers s t (.refused o 0) (failsWhen o cond ++ l) := by
  subst h
  refine ⟨fun k e => ?_, fun e => nomatch e⟩
  cases e
  exact ⟨0, rfl, fun _ => rfl, fun e => absurd e n⟩

theorem Answers.denied {e : DenyEntry} (h : cond = true) (m : e ∈ s.deny) (r : e.rider = t.rider.toNat) :
    Answers s t (.refused .denied e.reason) (failsWhen .denied cond ++ l) := by
  subst h
  refine ⟨fun k d => ?_, fun d => nomatch d⟩
  cases d
  exact ⟨e.reason, rfl, fun n => absurd rfl n, fun _ => ⟨e, m, r, rfl⟩⟩

/-- A step that passes leaves the answer to the steps that follow. -/
theorem Answers.passes (h : cond = false) (k : Answers s t a l) : Answers s t a (failsWhen o cond ++ l) := by
  subst h
  exact k

/-- A step of the admission: refused where its condition holds, and else what the later steps answer. -/
theorem Answers.step {p : Prop} [Decidable p] (e : cond = true ↔ p) (n : o ≠ .denied) (k : ¬ p → Answers s t a l) :
    Answers s t (if p then .refused o 0 else a) (failsWhen o cond ++ l) := by
  split
  · exact .fails (e.mpr ‹_›) n
  · exact .passes (Bool.eq_false_iff.mpr fun c => ‹¬ p› (e.mp c)) (k ‹_›)

end Steps

/-! ### The conditions of the steps -/

theorem bayOf?_isNone (n : Byte) : (bayOf? n).isNone = decide (n.toNat = 0 ∨ 32 < n.toNat) := by
  unfold bayOf?
  split
  · rename_i h
    exact (decide_eq_false (by omega)).symm
  · rename_i h
    exact (decide_eq_true (by omega)).symm

/-- The plan codes of R206. -/
theorem planOf?_codes {n : Byte} {p : Plan} (h : planOf? n = some p) :
    (n = 1#8 ↔ p = .casual) ∧ (n = 2#8 ↔ p = .daypass) ∧ (n = 3#8 ↔ p = .member) := by
  unfold planOf? at h
  split at h
  · cases h; subst n; decide
  · split at h
    · cases h; subst n; decide
    · split at h
      · cases h; subst n; decide
      · cases h

theorem planOf?_isNone (n : Byte) : (planOf? n).isNone = decide (n = 0 ∨ 3 < n.toNat) := by
  unfold planOf?
  split
  · rename_i h; subst h; decide
  · split
    · rename_i h; subst h; decide
    · split
      · rename_i h; subst h; decide
      · rename_i h1 h2 h3
        refine (decide_eq_true ?_).symm
        have g1 : n.toNat ≠ 1 := fun e => h1 (BitVec.eq_of_toNat_eq e)
        have g2 : n.toNat ≠ 2 := fun e => h2 (BitVec.eq_of_toNat_eq e)
        have g3 : n.toNat ≠ 3 := fun e => h3 (BitVec.eq_of_toNat_eq e)
        by_cases g0 : n.toNat = 0
        · exact .inl (BitVec.eq_of_toNat_eq g0)
        · right; omega

/-- A token is malformed by the fields of R33. -/
theorem malformed_eq (t : Token) : malformed t = decide (t.rider = 0 ∨ t.span = 0 ∨ 240 < t.span.toNat ∨ t.plan = 0 ∨
    3 < t.plan.toNat ∨ t.classKey.toNat / 16 = 0 ∨ 3 < t.classKey.toNat / 16 ∨ t.classKey.toNat / 4 % 4 ≠ 0) := by
  unfold malformed
  rw [planOf?_isNone]
  simp only [Bool.decide_or, Bool.or_assoc]
  rfl

/-- In an ascending list the entry of a rider is the only one, so it bars the rider exactly where some entry does (R50, R58). -/
theorem denied?_isSome {s : State} (h : ListsKept s) (rider : Nat) : (s.denied? rider).isSome =
    s.deny.any fun e => decide (e.rider = rider) && e.inForce s.clock := by
  have each : ∀ l : List DenyEntry, l.Pairwise (fun x y => x.rider < y.rider) →
      ((l.find? fun e => decide (e.rider = rider)).filter fun e => e.inForce s.clock).isSome =
        l.any fun e => decide (e.rider = rider) && e.inForce s.clock := by
    intro l
    induction l with
    | nil => exact fun _ => rfl
    | cons e rest ih =>
      intro p
      rw [List.pairwise_cons] at p
      by_cases c : e.rider = rider
      · have none : rest.any (fun x => decide (x.rider = rider) && x.inForce s.clock) = false := by
          rw [List.any_eq_false]
          intro x m
          have := p.1 x m
          simp [show x.rider ≠ rider by omega]
        rw [List.find?_cons_of_pos (by simp [c]), List.any_cons, none]
        cases f : e.inForce s.clock <;> simp [c, f, Option.filter]
      · rw [List.find?_cons_of_neg (by simp [c]), List.any_cons, ih p.2]
        simp [c]
  exact each s.deny h.denyAscending

theorem denied?_reason {s : State} {rider : Nat} {e : DenyEntry} (h : s.denied? rider = some e) :
    e ∈ s.deny ∧ e.rider = rider := by
  unfold State.denied? State.denyEntry? at h
  obtain ⟨found, -⟩ := Option.filter_eq_some_iff.mp h
  exact ⟨List.mem_of_find?_eq_some found, by simpa using List.find?_some found⟩

theorem rentalsOfRider_eq (s : State) (rider : Nat) : s.rentalsOfRider rider =
    (List.finRange 64).filterMap fun k => (s.rentals[k]).filter fun r => decide (r.rider = rider) :=
  List.filter_filterMap

theorem freeSlot?_isNone (s : State) : s.freeSlot?.isNone = (List.finRange 64).all fun k => (s.rentals[k]).isSome := by
  unfold State.freeSlot? allSlots
  rw [Bool.eq_iff_iff]
  simp [List.find?_eq_none, Option.isSome_iff_ne_none]

theorem classPermitted_eq (permitted : Nat) (c : BikeClass) : (!classPermitted permitted c) =
    decide (permitted ≠ 3 ∧ permitted ≠ match c with | .standard => 1 | .electric => 2) := by
  cases c <;> simp [classPermitted, and_comm]

/-! ### The steps in the order of the table -/

/-- The tariff entry of a token's plan (R110). -/
def planTariff (t : Token) (s : State) : Option Tariff :=
  if t.plan = 1 then s.tariffs[0] else if t.plan = 2 then s.tariffs[1] else if t.plan = 3 then s.tariffs[2] else none

/-- The rental records of a token's rider (R71). -/
def riderRecords (t : Token) (s : State) : List Rental :=
  (List.finRange 64).filterMap fun k => (s.rentals[k]).filter fun r => decide (r.rider = t.rider.toNat)

/-- Steps 13 to 18 that fail at a bay with the record `y`. -/
def recordSteps (t : Token) (s : State) (y : Bay) : List PresentOutcome :=
  failsWhen .alreadyRiding (decide ((if t.plan = 3 ∧ ∀ r ∈ riderRecords t s, r.plan = .member then 2 else 1)
      ≤ (riderRecords t s).length))
    ++ (failsWhen .tableFull ((List.finRange 64).all fun k => (s.rentals[k]).isSome)
    ++ (failsWhen .spentFull (decide (t.plan = 1) && decide (384 ≤ s.spent.length))
    ++ (failsWhen .journalFull (decide (248 < s.committedSum + 2))
    ++ (failsWhen .creditLow (decide (t.plan = 1) && (planTariff t s).any fun f => y.identity.any fun i =>
        decide (t.credit.toNat <
          min (f.unlockFee + f.periodPrice + (if i.cls = .electric then f.supplement else 0)) f.rideCap))
    ++ failsWhen .powerLow (decide (s.band = .critical ∨ s.band = .brownout))))))

/-- Steps 7 to 18 that fail. -/
def bikeSteps (t : Token) (s : State) (y : Bay) : List PresentOutcome :=
  failsWhen .denied (s.deny.any fun e => decide (e.rider = t.rider.toNat) &&
      (!s.clock.isSet || e.expiry.all fun x => decide (s.clock.minute < x)))
    ++ (failsWhen .spent (decide (t.plan = 1) &&
        s.spent.any fun e => decide (e.rider = t.rider.toNat ∧ e.serial = t.serial.toNat))
    ++ (failsWhen .tariffUnset (planTariff t s).isNone
    ++ (failsWhen .bayNotReady
        (!decide (y.state = .docked ∧ y.identity.isSome ∧ y.processed = true ∧ y.held = none ∧ y.latch = .closed))
    ++ (failsWhen .classNotAllowed (y.identity.any fun i => decide (t.classKey.toNat / 16 ≠ 3 ∧
        t.classKey.toNat / 16 ≠ match i.cls with | .standard => 1 | .electric => 2))
    ++ (failsWhen .bikeLowCharge (y.identity.any fun i => decide (i.cls = .electric ∧ i.battery < s.settings.minCharge))
    ++ recordSteps t s y)))))

/-- Steps 3 to 18 that fail. -/
def tokenSteps (t : Token) (s : State) (y : Bay) : List PresentOutcome :=
  failsWhen .malformed (decide (t.rider = 0 ∨ t.span = 0 ∨ 240 < t.span.toNat ∨ t.plan = 0 ∨ 3 < t.plan.toNat
      ∨ t.classKey.toNat / 16 = 0 ∨ 3 < t.classKey.toNat / 16 ∨ t.classKey.toNat / 4 % 4 ≠ 0))
    ++ (failsWhen .keyAbsent (s.keys[tokenSlot t]).isNone
    ++ (failsWhen .codeMismatch ((s.keys[tokenSlot t]).all fun key => decide (checkCode key t ≠ t.code))
    ++ (failsWhen .notYet (decide (s.clock.minute + s.settings.skew < t.issue.toNat))
    ++ (failsWhen .expired (decide (min 4294967295 (t.issue.toNat + t.span.toNat) ≤ s.clock.minute))
    ++ bikeSteps t s y))))

theorem admissionFailures_eq (n : Byte) (t : Token) (s : State) : admissionFailures n t s =
    failsWhen .badBay (decide (n.toNat = 0 ∨ 32 < n.toNat)) ++ (failsWhen .clockUnset (!s.clock.isSet) ++
      tokenSteps t s (s.bay ((bayOf? n).getD 0))) := by
  simp only [admissionFailures, tokenSteps, bikeSteps, recordSteps, List.append_assoc]
  rfl

section Stages
variable {s : State} {t : Token} {b : BayIx} {p : Plan} (hp : planOf? t.plan = some p)
include hp

theorem planTariff_eq : planTariff t s = s.tariffOf p := by
  obtain ⟨h1, h2, h3⟩ := planOf?_codes hp
  unfold planTariff State.tariffOf
  cases p <;> simp [h1, h2, h3, planIndex]

/-- Steps 13 to 18. -/
theorem answers_records {f : Tariff} {i : Identity} (hf : s.tariffOf p = some f) (hi : (s.bay b).identity = some i) :
    Answers s t (admitRecords b t p i f s) (recordSteps t s (s.bay b)) := by
  obtain ⟨casual, -, member⟩ := planOf?_codes hp
  have tariff := (planTariff_eq hp).trans hf
  have limit : recordLimit p (riderRecords t s) =
      if t.plan = 3 ∧ ∀ r ∈ riderRecords t s, r.plan = .member then 2 else 1 := by
    simp [recordLimit, member]
  have threshold : entryThreshold f i.cls =
      min (f.unlockFee + f.periodPrice + (if i.cls = .electric then f.supplement else 0)) f.rideCap := by
    unfold entryThreshold rideRate
    cases i.cls <;> simp [Nat.add_assoc]
  unfold admitRecords recordSteps
  rw [rentalsOfRider_eq, committed_eq_sum]
  generalize s.committedSum = n
  refine .step (by rw [decide_eq_true_iff, ← limit]; rfl) (by decide) fun _ => ?_
  have full := freeSlot?_isNone s
  cases free : s.freeSlot? with
  | none => exact .fails (by rw [← full, free]; rfl) (by decide)
  | some k =>
    refine .passes (by rw [← full, free]; rfl) ?_
    refine .step (by simp [casual]) (by decide) fun _ => ?_
    refine .step decide_eq_true_iff (by decide) fun _ => ?_
    refine .step (by simp [casual, tariff, hi, threshold]) (by decide) fun _ => ?_
    have last : failsWhen .powerLow (decide (s.band = .critical ∨ s.band = .brownout)) =
        failsWhen .powerLow (decide (s.band = .critical ∨ s.band = .brownout)) ++ [] := (List.append_nil _).symm
    rw [last]
    exact .step (by rw [decide_eq_true_iff]) (by decide) fun _ => ⟨fun _ e => (nomatch e), fun _ => ⟨_, rfl⟩⟩

/-- Steps 7 to 18. -/
theorem answers_bike (h : ListsKept s) : Answers s t (admitBike b t p s) (bikeSteps t s (s.bay b)) := by
  obtain ⟨casual, -, -⟩ := planOf?_codes hp
  have barred := denied?_isSome h t.rider.toNat
  unfold admitBike
  cases denied : s.denied? t.rider.toNat with
  | some e =>
    rw [denied] at barred
    obtain ⟨member, rider⟩ := denied?_reason denied
    exact .denied (by exact barred.symm) member rider
  | none =>
    rw [denied] at barred
    refine .passes (by exact barred.symm) ?_
    refine .step (by simp [casual, State.isSpent]) (by decide) fun _ => ?_
    have tariff := planTariff_eq (s := s) hp
    cases hf : s.tariffOf p with
    | none => exact .fails (by rw [tariff, hf]; rfl) (by decide)
    | some f =>
      refine .passes (by rw [tariff, hf]; rfl) ?_
      have ready : (!(s.bay b).rentable) = !decide ((s.bay b).state = .docked ∧ (s.bay b).identity.isSome ∧
          (s.bay b).processed = true ∧ (s.bay b).held = none ∧ (s.bay b).latch = .closed) := by
        cases held : (s.bay b).held <;> simp [Bay.rentable, held, Bool.and_assoc]
      cases hi : (s.bay b).identity with
      | none => exact .fails (by simp) (by decide)
      | some i =>
        refine .step (by rw [← hi, ← ready]) (by decide) fun _ => ?_
        refine .step (by simp only [Option.any_some, ← classPermitted_eq, tokenClass]) (by decide) fun _ => ?_
        exact .step (by simp) (by decide) fun _ => answers_records hp hf hi

end Stages

/-- Steps 3 to 18. -/
theorem answers_token {s : State} {t : Token} {b : BayIx} (h : ListsKept s) :
    Answers s t (admitToken b t s) (tokenSteps t s (s.bay b)) := by
  have shape := malformed_eq t
  unfold admitToken
  cases hp : planOf? t.plan with
  | none =>
    refine .fails ?_ (by decide)
    rw [← shape, malformed, hp]
    simp
  | some p =>
    refine .step (by rw [shape]) (by decide) fun _ => ?_
    cases hk : s.keys[tokenSlot t] with
    | none => exact .fails (by rfl) (by decide)
    | some key =>
      refine .passes (by rfl) ?_
      refine .step (by simp) (by decide) fun _ => ?_
      refine .step (by rw [decide_eq_true_iff, startMinute]; omega) (by decide) fun _ => ?_
      exact .step (by rw [decide_eq_true_iff]; rfl) (by decide) fun _ => answers_bike hp h

/-- The admission answers the first of the failing steps, in the order of the table (R68). -/
theorem answers_admission {s : State} (h : ListsKept s) (n : Byte) (t : Token) :
    Answers s t (admission n t s) (admissionFailures n t s) := by
  rw [admissionFailures_eq]
  have bad := bayOf?_isNone n
  unfold admission
  cases hb : bayOf? n with
  | none => exact .fails (by rw [← bad, hb]; rfl) (by decide)
  | some b =>
    refine .passes (by rw [← bad, hb]; rfl) ?_
    exact .step (by rfl) (by decide) fun _ => answers_token h

/-- The failing steps do not depend on the state of reception. -/
theorem admissionFailures_hunting (n : Byte) (t : Token) (s : State) :
    admissionFailures n t s.hunting = admissionFailures n t s := by
  have committed : s.hunting.committedSum = s.committedSum := rfl
  rw [admissionFailures_eq, admissionFailures_eq]
  unfold tokenSteps bikeSteps recordSteps
  rw [committed]
  rfl

/-- What a PRESENT does by its admission (R68). -/
theorem present_answers {s : State} (hs : s.accepting) {n : Byte} {t : Token} {l : List PresentOutcome}
    (h : Answers s.hunting t (admission n t s.hunting) l) : match l.head? with
    | some o => ∃ reason : Byte, (o ≠ .denied → reason = 0) ∧
        (o = .denied → ∃ e ∈ s.deny, e.rider = t.rider.toNat ∧ BitVec.ofNat 8 e.reason = reason) ∧
        exec (.present n t) s = .next (s.answered 0xB0 [0, BitVec.ofNat 8 o.code, 0, 0, 0, reason])
    | none => ∃ (slot : Fin 64) (hold : Nat) (u : State), exec (.present n t) s = .next u ∧
        u.reply = some ⟨0xB0, [0, 0, BitVec.ofNat 8 slot.val] ++ be16 hold ++ [0]⟩ := by
  cases first : l.head? with
  | some o =>
    obtain ⟨reason, refused, zero, entry⟩ := h.refused o first
    have answer : presentToken n t s.hunting = (s.hunting, presentPayload o 0 0 reason) := by rw [presentToken, refused]
    refine ⟨BitVec.ofNat 8 reason, fun k => by rw [zero k]; rfl, fun k => ?_,
      congrArg Host.Outcome.next (takeRequest_done 0x30 hs answer)⟩
    obtain ⟨e, m, rider, r⟩ := entry k
    exact ⟨e, m, rider, by rw [r]⟩
  | none =>
    obtain ⟨a, accepted⟩ := h.accepted first
    have answer : presentToken n t s.hunting =
        (acceptRental a t s.hunting, presentPayload .accepted a.slot.val a.hold 0) := by rw [presentToken, accepted]
    exact ⟨a.slot, a.hold, _, congrArg Host.Outcome.next (takeRequest_done 0x30 hs answer), rfl⟩

/-- The admission at a request answers the failing steps of the state before it. -/
theorem answers_hunting {s : State} (h : ListsKept s) {n : Byte} {t : Token} {l : List PresentOutcome}
    (steps : admissionFailures n t s = l) : Answers s.hunting t (admission n t s.hunting) l := by
  rw [← steps, ← admissionFailures_hunting]
  exact answers_admission (s := s.hunting) ⟨h.denyAscending, h.denyRoom, h.denyLegal, h.spentOnce, h.spentRoom⟩ n t

/-- Settles O30, by the answer of the admission at each step of the table. -/
theorem presentAnswersTheFirstFailingStep : Obligations.PresentAnswersTheFirstFailingStep := by
  intro s n t hs h
  generalize steps : admissionFailures n t s = l
  exact present_answers hs (answers_hunting h steps)

end Sys2Proof.Machine
end

section
/-! The re-derivation of one bay in closed form, and of every bay. -/

namespace Sys2Proof.Machine

/-! ### One bay -/

/-- The request that the table of R17 posts for a bay with these levels. -/
def restRequest : Presence → Latch → Option DriveKind
  | .present, .opened => some .latch
  | .absent, .closed => some .unlatchReady
  | .present, .closed | .absent, .opened => none

/-- The record that re-derivation leaves, but for what an entry to DOCKED writes (R17). -/
def Bay.rested (y : Bay) (minute now : Nat) : Bay :=
  { (match y.presence with | .present => y.cleared minute | .absent => y.emptied).changedTo now
      (restState y.presence y.latch) (restState y.presence y.latch).lamp with
    link := if restRequest y.presence y.latch = some .unlatchReady then .readiness else .unlinked
    driveStage := if (restRequest y.presence y.latch).isSome then .queued else .noRequest }

/-- A change of state leaves link and request. -/
theorem Bay.changedTo_with (y : Bay) (now : Nat) (new : BayState) (p : LampPattern) (l : Link) (d : DriveStage) :
    ({ y with link := l, driveStage := d } : Bay).changedTo now new p =
      { y.changedTo now new p with link := l, driveStage := d } := by
  unfold Bay.changedTo
  split <;> rfl

/-- The record after re-derivation is a change of state of one record for each row of the table of R17. -/
theorem Bay.rested_eq (y : Bay) (minute now : Nat) : y.rested minute now =
    (match y.presence, y.latch with
      | .present, .closed => (y.cleared minute).changedTo now .docked .off
      | .present, .opened => ({ y.cleared minute with link := .unlinked, driveStage := .queued } : Bay).changedTo now .latching .slow
      | .absent, .opened => y.emptied.changedTo now .vacant .off
      | .absent, .closed => ({ y.emptied with link := .readiness, driveStage := .queued } : Bay).changedTo now .unlatching .slow) := by
  unfold Bay.rested
  rw [← Bay.changedTo_with]
  cases y.presence <;> cases y.latch <;> rfl

section Rederived
variable (b : BayIx) (s : State)

/-- The record after re-derivation, where the bay does not enter DOCKED (R17). -/
theorem rederive_undocked (h : ¬ ((s.bay b).presence = .present ∧ (s.bay b).latch = .closed)) :
    OnlyAt b s (rederive b s) ∧ (rederive b s).bay b = (s.bay b).rested s.clock.minute s.ms := by
  have own := s.put_self b
  cases p : (s.bay b).presence <;> cases l : (s.bay b).latch
  case present.closed => exact absurd ⟨p, l⟩ h
  case present.opened =>
    have rest : (s.bay b).rested s.clock.minute s.ms = ({ (s.bay b).cleared s.clock.minute with
        link := .unlinked, driveStage := .queued } : Bay).changedTo s.ms .latching .slow := by
      rw [Bay.rested_eq, p, l]
    have e := rederive_latching s b (s.bay b) p l
    rw [own] at e
    rw [e, rest]
    exact ⟨(OnlyAt.entered s .latching .slow _).trans (.queued _ _ _), State.entered_bay s b _ _ _⟩
  case absent.closed =>
    have rest : (s.bay b).rested s.clock.minute s.ms = ({ (s.bay b).emptied with
        link := .readiness, driveStage := .queued } : Bay).changedTo s.ms .unlatching .slow := by
      rw [Bay.rested_eq, p, l]
    have e := rederive_readiness s b (s.bay b) p l
    rw [own] at e
    rw [rest]
    refine ⟨OnlyAt.rederive_absent p, ?_⟩
    rw [e]
    exact State.entered_bay s b _ _ _
  case absent.opened =>
    have rest : (s.bay b).rested s.clock.minute s.ms = (s.bay b).emptied.changedTo s.ms .vacant .off := by
      rw [Bay.rested_eq, p, l]
    have e := rederive_vacant s b (s.bay b) p l
    rw [own] at e
    rw [rest]
    refine ⟨OnlyAt.rederive_absent p, ?_⟩
    rw [e]
    exact State.entered_bay s b _ _ _

/-- Re-derivation of a bay that enters DOCKED: its record is written, and then the entry secures the bike (R4, R17). -/
theorem rederive_secures (p : (s.bay b).presence = .present) (l : (s.bay b).latch = .closed) :
    ∃ v, OnlyAt b s v ∧ v.bay b = (s.bay b).rested s.clock.minute s.ms ∧ rederive b s = secured b v := by
  have rest : (s.bay b).rested s.clock.minute s.ms = ((s.bay b).cleared s.clock.minute).changedTo s.ms .docked .off := by
    rw [Bay.rested_eq, p, l]
  refine ⟨s.entered b .docked .off ((s.bay b).cleared s.clock.minute), .entered s _ _ _, ?_, ?_⟩
  · rw [rest, State.entered_bay]
  · rw [rederive_enterDocked p l, enterDocked_put_eq]

end Rederived

end Sys2Proof.Machine
end

section
/-! What a bay holds after a seeding scan and its re-derivation. -/

namespace Sys2Proof.Machine

section Rested
variable (y : Bay) (minute now : Nat)

/-- A change of state writes the state, the timers and the lamp. -/
theorem Bay.changedTo_frame (new : BayState) (p : LampPattern) : y.changedTo now new p = { y with
    state := new, pendingTag := (y.changedTo now new p).pendingTag, tagWindow := (y.changedTo now new p).tagWindow
    takeWindow := (y.changedTo now new p).takeWindow, retryDelay := (y.changedTo now new p).retryDelay
    deadline := (y.changedTo now new p).deadline, lamp := (y.changedTo now new p).lamp
    lampPhase := (y.changedTo now new p).lampPhase, lampSince := (y.changedTo now new p).lampSince } := by
  unfold Bay.changedTo
  split
  · next h => subst h; rfl
  · rfl

/-- Re-derivation leaves levels, counts, alarms, last outcome and held return, and clears the marks (R17). -/
theorem Bay.rested_frame : y.rested minute now = { y with
    state := restState y.presence y.latch, attempts := 0, presenceChanged := false, faultCause := none
    link := if restRequest y.presence y.latch = some .unlatchReady then .readiness else .unlinked
    driveStage := if (restRequest y.presence y.latch).isSome then .queued else .noRequest
    identity := if y.presence = .present then y.identity else none
    arrival := if y.presence = .present then some (y.arrival.getD minute) else none
    processed := if y.presence = .present then y.processed else false
    pendingTag := (y.rested minute now).pendingTag, tagWindow := (y.rested minute now).tagWindow
    takeWindow := (y.rested minute now).takeWindow, retryDelay := (y.rested minute now).retryDelay
    deadline := (y.rested minute now).deadline, lamp := (y.rested minute now).lamp
    lampPhase := (y.rested minute now).lampPhase, lampSince := (y.rested minute now).lampSince } := by
  have frame (z : Bay) (new : BayState) := z.changedTo_frame now new new.lamp
  unfold Bay.rested
  cases p : y.presence with
  | present =>
    rw [frame]
    simp [Bay.cleared, p]
  | absent =>
    rw [frame]
    simp [Bay.emptied, p]

/-! One equation for each item of the record. -/

theorem Bay.rested_presence : (y.rested minute now).presence =
    y.presence := (congrArg Bay.presence (y.rested_frame minute now)).trans rfl
theorem Bay.rested_latch : (y.rested minute now).latch =
    y.latch := (congrArg Bay.latch (y.rested_frame minute now)).trans rfl
theorem Bay.rested_rawPresence : (y.rested minute now).rawPresence =
    y.rawPresence := (congrArg Bay.rawPresence (y.rested_frame minute now)).trans rfl
theorem Bay.rested_rawLatch : (y.rested minute now).rawLatch =
    y.rawLatch := (congrArg Bay.rawLatch (y.rested_frame minute now)).trans rfl
theorem Bay.rested_presenceAgree : (y.rested minute now).presenceAgree =
    y.presenceAgree := (congrArg Bay.presenceAgree (y.rested_frame minute now)).trans rfl
theorem Bay.rested_latchAgree : (y.rested minute now).latchAgree =
    y.latchAgree := (congrArg Bay.latchAgree (y.rested_frame minute now)).trans rfl
theorem Bay.rested_presenceDue : (y.rested minute now).presenceDue =
    y.presenceDue := (congrArg Bay.presenceDue (y.rested_frame minute now)).trans rfl
theorem Bay.rested_latchDue : (y.rested minute now).latchDue =
    y.latchDue := (congrArg Bay.latchDue (y.rested_frame minute now)).trans rfl
theorem Bay.rested_state : (y.rested minute now).state =
    restState y.presence y.latch := (congrArg Bay.state (y.rested_frame minute now)).trans rfl
theorem Bay.rested_attempts : (y.rested minute now).attempts =
    0 := (congrArg Bay.attempts (y.rested_frame minute now)).trans rfl
theorem Bay.rested_presenceChanged : (y.rested minute now).presenceChanged =
    false := (congrArg Bay.presenceChanged (y.rested_frame minute now)).trans rfl
theorem Bay.rested_faultCause : (y.rested minute now).faultCause =
    none := (congrArg Bay.faultCause (y.rested_frame minute now)).trans rfl
theorem Bay.rested_held : (y.rested minute now).held =
    y.held := (congrArg Bay.held (y.rested_frame minute now)).trans rfl
theorem Bay.rested_alarms : (y.rested minute now).alarms =
    y.alarms := (congrArg Bay.alarms (y.rested_frame minute now)).trans rfl
theorem Bay.rested_lastOutcome : (y.rested minute now).lastOutcome =
    y.lastOutcome := (congrArg Bay.lastOutcome (y.rested_frame minute now)).trans rfl
theorem Bay.rested_identity : (y.rested minute now).identity =
    if y.presence = .present then y.identity else none := (congrArg Bay.identity (y.rested_frame minute now)).trans rfl
theorem Bay.rested_arrival : (y.rested minute now).arrival =
    if y.presence = .present then some (y.arrival.getD minute) else none := (congrArg Bay.arrival (y.rested_frame minute now)).trans rfl
theorem Bay.rested_processed : (y.rested minute now).processed =
    if y.presence = .present then y.processed else false := (congrArg Bay.processed (y.rested_frame minute now)).trans rfl
theorem Bay.rested_link : (y.rested minute now).link =
    if restRequest y.presence y.latch = some .unlatchReady then .readiness else .unlinked := (congrArg Bay.link (y.rested_frame minute now)).trans rfl
theorem Bay.rested_driveStage : (y.rested minute now).driveStage =
    if (restRequest y.presence y.latch).isSome then .queued else .noRequest := (congrArg Bay.driveStage (y.rested_frame minute now)).trans rfl

/-- Re-derivation starts no timer but the tag window of an entry to DOCKED (R17). -/
theorem Bay.rested_timers : (y.pendingTag = none → (y.rested minute now).pendingTag = none) ∧
    (y.takeWindow = none → (y.rested minute now).takeWindow = none) ∧
    (y.tagWindow = none → (y.rested minute now).tagWindow = none) ∧
    (y.retryDelay = none → (y.rested minute now).retryDelay = none) ∧
    (y.deadline = .stopped → (y.rested minute now).deadline = .stopped) := by
  have changed (z : Bay) (new : BayState) (p : LampPattern) : (z.pendingTag = none → (z.changedTo now new p).pendingTag = none) ∧
      (z.takeWindow = none → (z.changedTo now new p).takeWindow = none) ∧
      (z.tagWindow = none → (z.changedTo now new p).tagWindow = none) ∧
      (z.retryDelay = none → (z.changedTo now new p).retryDelay = none) ∧
      (z.deadline = .stopped → (z.changedTo now new p).deadline = .stopped) := by
    unfold Bay.changedTo
    split
    · exact ⟨id, id, id, id, id⟩
    · refine ⟨fun h => ?_, fun h => ?_, fun h => ?_, fun h => ?_, fun h => ?_⟩ <;> simp only [h, ite_self]
  unfold Bay.rested
  cases y.presence with
  | present => exact changed (y.cleared minute) _ _
  | absent => exact changed y.emptied _ _

/-- A lamp that stands in its state's pattern does so after re-derivation (R24). -/
theorem Bay.rested_lamp (h : y.lamp = y.state.lamp) : (y.rested minute now).lamp = (y.rested minute now).state.lamp := by
  have changed (z : Bay) (new : BayState) (k : z.lamp = z.state.lamp) : (z.changedTo now new new.lamp).lamp = new.lamp := by
    unfold Bay.changedTo
    split
    · next e => rw [k, e]
    · rfl
  rw [Bay.rested_state]
  unfold Bay.rested
  cases y.presence with
  | present => exact changed (y.cleared minute) _ h
  | absent => exact changed y.emptied _ h

/-- At count 0 the pattern of a lamp begins with its first phase (R24). -/
theorem Bay.rested_lamp_phase (p : y.lampPhase = 0) (s : y.lampSince = 0) :
    (y.rested minute 0).lampPhase = 0 ∧ (y.rested minute 0).lampSince = 0 := by
  have changed (z : Bay) (new : BayState) (q : LampPattern) (p : z.lampPhase = 0) (s : z.lampSince = 0) :
      (z.changedTo 0 new q).lampPhase = 0 ∧ (z.changedTo 0 new q).lampSince = 0 := by
    unfold Bay.changedTo
    split
    · exact ⟨p, s⟩
    · simp only [p, s, ite_self, and_self]
  unfold Bay.rested
  cases y.presence with
  | present => exact changed (y.cleared minute) _ _ p s
  | absent => exact changed y.emptied _ _ p s

end Rested
end Sys2Proof.Machine
end

section
/-! Return processing and re-derivation keep the journal, the held returns and the OPEN rentals but for those returned. -/

namespace Sys2Proof.Machine

/-- The high-water flag stands but for a rise of the journal from `n` records to 192 or more, at `m` records (R134). -/
def highWaterAfter (armed : Bool) (n m : Nat) : Bool := armed && !(decide (n < 192) && decide (192 ≤ m))

theorem highWaterAfter_same (armed : Bool) (n : Nat) : highWaterAfter armed n n = armed := by
  have : ¬ (n < 192 ∧ 192 ≤ n) := by omega
  rw [highWaterAfter, ← Bool.decide_and, decide_eq_false this, Bool.not_false, Bool.and_true]

theorem highWaterAfter_trans (armed : Bool) {k m n : Nat} (h : k ≤ m) (g : m ≤ n) :
    highWaterAfter (highWaterAfter armed k m) m n = highWaterAfter armed k n := by
  unfold highWaterAfter
  rw [Bool.and_assoc, ← Bool.not_or, ← Bool.decide_and, ← Bool.decide_and, ← Bool.decide_and, ← Bool.decide_or]
  congr 2
  rw [decide_eq_decide]
  omega

/-- The rental that the table finds for a bike is an OPEN one of it (R96). -/
theorem openRental?_spec {s : State} {bike : Nat} {k : Fin 64} {r : Rental} (h : s.openRental? bike = some (k, r)) :
    s.rentals[k] = some r ∧ r.bike = bike := by
  unfold State.openRental? at h
  have found := List.find?_some h
  have mem := List.mem_of_find?_eq_some h
  simp only [Bool.and_eq_true, decide_eq_true_eq] at found
  simp only [List.mem_filterMap, Option.map_eq_some_iff] at mem
  obtain ⟨j, -, x, hx, e⟩ := mem
  cases e
  exact ⟨hx, found.1⟩

/-- The rental `r` is returned in what `t` adds to the journal of `s`, at a bay whose bike is that of the rental and was not yet
processed (R95, R96). -/
def RentalReturned (s t : State) (r : Rental) : Prop :=
  ∃ (x : ReturnRecord) (i : Identity), .returned x ∈ t.journal.drop s.journal.length ∧ x.bike = r.bike ∧ x.rider = r.rider
    ∧ x.fromBay = r.bay ∧ (s.bay x.bay).identity = some i ∧ i.bike = r.bike ∧ (s.bay x.bay).processed = false

/-- What processing returns leaves of the items of the backup domain: `t` comes of `s` with records at the back of the journal,
with rentals returned, and with returns held. -/
structure Returns (s t : State) : Prop where
  journal   : s.journal <+: t.journal
  highWater : t.highWaterArmed = highWaterAfter s.highWaterArmed s.journal.length t.journal.length
  rentals   : ∀ (k : Fin 64) r, t.rentals[k] = some r → s.rentals[k] = some r
  returned  : ∀ (k : Fin 64) r, s.rentals[k] = some r → t.rentals[k] = some r ∨ RentalReturned s t r
  held      : ∀ b h, (s.bay b).held = some h → (t.bay b).held = some h
  heldOrder : ∃ new, t.heldOrder = s.heldOrder ++ new ∧ ∀ b ∈ new, (t.bay b).held.isSome
  bikes     : ∀ b i, (t.bay b).identity = some i →
    (s.bay b).identity = some i ∧ ((s.bay b).processed = true → (t.bay b).processed = true)

namespace Returns

/-- What the bays alone change, with held returns kept, is no return. -/
theorem still {s t : State} (j : t.journal = s.journal) (w : t.highWaterArmed = s.highWaterArmed) (r : t.rentals = s.rentals)
    (o : t.heldOrder = s.heldOrder) (held : ∀ b, (t.bay b).held = (s.bay b).held)
    (bikes : ∀ b i, (t.bay b).identity = some i →
      (s.bay b).identity = some i ∧ ((s.bay b).processed = true → (t.bay b).processed = true)) : Returns s t where
  journal := by rw [j]
  highWater := by rw [j, w, highWaterAfter_same]
  rentals k x h := by rw [← r]; exact h
  returned k x h := .inl (by rw [r]; exact h)
  held b h e := by rw [held]; exact e
  heldOrder := ⟨[], by rw [o, List.append_nil], nofun⟩
  bikes := bikes

theorem refl (s : State) : Returns s s := still rfl rfl rfl rfl (fun _ => rfl) fun _ _ h => ⟨h, id⟩

theorem mem_drop {s t u : State} (h : s.journal <+: t.journal) (k : t.journal <+: u.journal) {r : JournalRecord}
    (m : r ∈ t.journal.drop s.journal.length) : r ∈ u.journal.drop s.journal.length := by
  obtain ⟨x, hx⟩ := h
  obtain ⟨y, hy⟩ := k
  rw [← hx, List.drop_left] at m
  rw [← hy, ← hx, List.append_assoc, List.drop_left]
  exact List.mem_append_left y m

theorem mem_drop_later {s t u : State} (h : s.journal <+: t.journal) (k : t.journal <+: u.journal) {r : JournalRecord}
    (m : r ∈ u.journal.drop t.journal.length) : r ∈ u.journal.drop s.journal.length := by
  obtain ⟨x, hx⟩ := h
  obtain ⟨y, hy⟩ := k
  rw [← hy, List.drop_left] at m
  rw [← hy, ← hx, List.append_assoc, List.drop_left]
  exact List.mem_append_right x m

theorem trans {s t u : State} (h : Returns s t) (k : Returns t u) : Returns s u where
  journal := h.journal.trans k.journal
  highWater := by rw [k.highWater, h.highWater, highWaterAfter_trans _ h.journal.length_le k.journal.length_le]
  rentals j r e := h.rentals j r (k.rentals j r e)
  returned j r e := by
    rcases h.returned j r e with stands | ⟨x, i, m, bike, rider, bay, identity, named, fresh⟩
    · rcases k.returned j r stands with stands | ⟨x, i, m, bike, rider, bay, identity, named, fresh⟩
      · exact .inl stands
      · obtain ⟨before, marked⟩ := h.bikes x.bay i identity
        refine .inr ⟨x, i, mem_drop_later h.journal k.journal m, bike, rider, bay, before, named, ?_⟩
        cases p : (s.bay x.bay).processed with
        | false => rfl
        | true => rw [marked p] at fresh; cases fresh
    · exact .inr ⟨x, i, mem_drop h.journal k.journal m, bike, rider, bay, identity, named, fresh⟩
  held b r e := k.held b r (h.held b r e)
  heldOrder := by
    obtain ⟨x, hx, heldx⟩ := h.heldOrder
    obtain ⟨y, hy, heldy⟩ := k.heldOrder
    refine ⟨x ++ y, by rw [hy, hx, List.append_assoc], fun b m => ?_⟩
    rcases List.mem_append.mp m with m | m
    · obtain ⟨r, hr⟩ := Option.isSome_iff_exists.mp (heldx b m)
      exact Option.isSome_iff_exists.mpr ⟨r, k.held b r hr⟩
    · exact heldy b m
  bikes b i e := by
    obtain ⟨mid, later⟩ := k.bikes b i e
    obtain ⟨first, sooner⟩ := h.bikes b i mid
    exact ⟨first, fun p => later (sooner p)⟩

theorem foldl {α : Type} {f : State → α → State} (h : ∀ t a, Returns t (f t a)) (l : List α) (s : State) :
    Returns s (l.foldl f s) := by
  induction l generalizing s with
  | nil => exact refl s
  | cons a rest ih => exact (h s a).trans (ih _)

/-- Work at one bay that keeps its held return. -/
theorem onlyAt {b : BayIx} {s t : State} (h : OnlyAt b s t) (held : (t.bay b).held = (s.bay b).held)
    (bikes : ∀ i, (t.bay b).identity = some i →
      (s.bay b).identity = some i ∧ ((s.bay b).processed = true → (t.bay b).processed = true)) : Returns s t := by
  refine still h.journal h.highWaterArmed h.rentals h.heldOrder (fun o => ?_) fun o i e => ?_
  · by_cases c : o = b
    · rw [c]; exact held
    · rw [h.bay c]
  · by_cases c : o = b
    · subst c; exact bikes i e
    · rw [h.bay c] at e ⊢; exact ⟨e, id⟩

theorem postBay (s : State) (b : BayIx) (c : BayCause) : Returns s (s.postBay b c) := onlyAt (.postBay (b := b) s c) rfl fun _ e => ⟨e, id⟩

theorem markProcessed (b : BayIx) (s : State) : Returns s (markProcessed b s) := by
  refine onlyAt (b := b) (.put s _) ?_ fun i e => ?_ <;> rw [markProcessed_bay] at *
  exact ⟨e, fun _ => rfl⟩

theorem fixMinute (b : BayIx) (s : State) : Returns s (fixMinute b s) := by
  refine onlyAt (b := b) (.put s _) ?_ fun i e => ?_ <;> rw [fixMinute_bay] at *
  exact ⟨e, id⟩

theorem appendRecord (r : JournalRecord) (s : State) : Returns s (appendRecord r s) where
  journal := by rw [appendRecord_frame]; exact List.prefix_append _ _
  highWater := by
    unfold Machine.appendRecord highWaterAfter
    simp only [List.length_append, List.length_singleton]
    cases a : s.highWaterArmed with
    | false => simp
    | true =>
      by_cases h : s.journal.length + 1 = 192
      · simp [h]; omega
      · simp [h]; omega
  rentals k x h := by rw [appendRecord_frame] at h; exact h
  returned k x h := .inl (by rw [appendRecord_frame]; exact h)
  held b h e := by rw [appendRecord_bay]; exact e
  heldOrder := ⟨[], by rw [appendRecord_frame]; exact (List.append_nil _).symm, nofun⟩
  bikes b i e := by rw [appendRecord_bay] at e ⊢; exact ⟨e, id⟩

/-- A local return of a bike not yet processed takes its rental from the table (R96). -/
theorem localReturn {b : BayIx} {s : State} {i : Identity} {k : Fin 64} {r : Rental} (minute : Nat)
    (hi : (s.bay b).identity = some i) (hp : (s.bay b).processed = false) (hr : s.openRental? i.bike = some (k, r)) :
    Returns s (localReturn b minute k r (Machine.markProcessed b s)) := by
  obtain ⟨hk, bike⟩ := openRental?_spec hr
  unfold Machine.localReturn
  simp only
  generalize hx : (⟨minute, b, r.bay, r.bike, r.cls, r.rider, r.plan, r.checkout.getD 0, (computeCharge r minute).duration,
    (computeCharge r minute).charge, (computeCharge r minute).settled, (computeCharge r minute).due⟩ : ReturnRecord) = x
  have step := (markProcessed b s).trans (appendRecord (.returned x) (Machine.markProcessed b s))
  have written : (Machine.appendRecord (.returned x) (Machine.markProcessed b s)).journal = s.journal ++ [.returned x] := by
    rw [appendRecord_frame]; rfl
  generalize Machine.appendRecord (.returned x) (Machine.markProcessed b s) = u at step written
  refine .trans ?_ (postBay (u.setRental k none) b .returned)
  refine ⟨step.journal, step.highWater, fun j y e => ?_, fun j y e => ?_, step.held, step.heldOrder, step.bikes⟩
  · by_cases c : j = k
    · subst c
      rw [Fin.getElem_fin, State.setRental_get_self] at e
      cases e
    · rw [State.setRental_get_ne u k j none c] at e
      exact step.rentals j y e
  · by_cases c : j = k
    · subst c
      rw [hk] at e
      cases e
      refine .inr ⟨x, i, ?_, by rw [← hx], by rw [← hx], by rw [← hx], by rw [← hx]; exact hi, bike.symm, by rw [← hx]; exact hp⟩
      show JournalRecord.returned x ∈ u.journal.drop s.journal.length
      rw [written, List.drop_left]
      exact List.mem_singleton_self _
    · rcases step.returned j y e with stands | gone
      · exact .inl ((State.setRental_get_ne u k j none c).trans stands)
      · exact .inr gone

/-- A foreign return is written where the journal admits it, and held behind the others where it does not (R98, R99). -/
theorem foreignReturn {b : BayIx} {s : State} (minute : Nat) (i : Identity) (free : (s.bay b).held = none) :
    Returns s (foreignReturn b minute i s) := by
  unfold Machine.foreignReturn
  simp only
  split
  · exact (appendRecord _ s).trans (postBay _ b .returned)
  · generalize (⟨minute, b, i.bike, i.cls, i.battery⟩ : ForeignReturn) = r
    refine .trans (t := ({ s with heldOrder := s.heldOrder ++ [b] } : State).modBay b fun y => { y with held := some r }) ?_ (postBay _ b .held)
    have own : ((({ s with heldOrder := s.heldOrder ++ [b] } : State).modBay b fun y => { y with held := some r }).bay b) =
        { s.bay b with held := some r } := State.modBay_bay_self _ b _
    have other (o : BayIx) (c : o ≠ b) :
        (({ s with heldOrder := s.heldOrder ++ [b] } : State).modBay b fun y => { y with held := some r }).bay o = s.bay o :=
      State.modBay_bay_ne _ _ b o c
    refine ⟨List.prefix_refl _, (highWaterAfter_same _ _).symm, fun _ _ e => e, fun _ _ e => .inl e, fun o h e => ?_,
      ⟨[b], rfl, fun o m => ?_⟩, fun o j e => ?_⟩
    · rw [other o fun c => by rw [c, free] at e; cases e]
      exact e
    · rw [List.mem_singleton.mp m, own]; rfl
    · by_cases c : o = b
      · subst c
        rw [own] at e ⊢
        exact ⟨e, id⟩
      · rw [other o c] at e ⊢
        exact ⟨e, id⟩

theorem processReturn (b : BayIx) (s : State) : Returns s (processReturn b s) := by
  by_cases due : (s.bay b).returnDue = true
  · unfold Machine.processReturn
    simp only [due, if_true]
    have fresh : (s.bay b).processed = false := by
      simp only [Bay.returnDue, Bool.and_eq_true, Bool.not_eq_true'] at due
      exact due.2
    split
    · exact refl s
    · next i hi =>
      split
      · next k r hr => exact localReturn _ hi fresh hr
      · split
        · exact fixMinute b s
        · next free =>
          refine (markProcessed b s).trans (foreignReturn _ _ ?_)
          rw [markProcessed_bay]
          exact Option.not_isSome_iff_eq_none.mp free
  · rw [processReturn_idle b s (Bool.eq_false_iff.mpr due)]
    exact refl s

theorem secured (b : BayIx) (s : State) : Returns s (secured b s) := by
  refine .trans (t := startTagWindow b s) ?_ (processReturn b _)
  refine still ?_ ?_ ?_ ?_ (fun o => ?_) fun o i e => ?_
  · rw [startTagWindow_frame]
  · rw [startTagWindow_frame]
  · rw [startTagWindow_frame]
  · rw [startTagWindow_frame]
  · by_cases c : o = b
    · subst c; rw [startTagWindow_bay]
    · rw [startTagWindow_other b o s c]
  · by_cases c : o = b
    · subst c; rw [startTagWindow_bay] at e ⊢; exact ⟨e, id⟩
    · rw [startTagWindow_other b o s c] at e ⊢; exact ⟨e, id⟩

/-- Of the bike re-derivation keeps what it finds present, with its mark (R17). -/
theorem rested_bikes (y : Bay) (minute now : Nat) (i : Identity) (h : (y.rested minute now).identity = some i) :
    y.identity = some i ∧ (y.processed = true → (y.rested minute now).processed = true) := by
  rw [Bay.rested_identity] at h
  rw [Bay.rested_processed]
  by_cases p : y.presence = .present
  · rw [if_pos p] at h ⊢
    exact ⟨h, id⟩
  · rw [if_neg p] at h
    cases h

theorem rederive (b : BayIx) (s : State) : Returns s (rederive b s) := by
  have held := (s.bay b).rested_held s.clock.minute s.ms
  have bikes := rested_bikes (s.bay b) s.clock.minute s.ms
  by_cases h : (s.bay b).presence = .present ∧ (s.bay b).latch = .closed
  · obtain ⟨v, only, record, e⟩ := rederive_secures b s h.1 h.2
    rw [e]
    rw [← record] at held bikes
    exact (onlyAt only held bikes).trans (secured b v)
  · obtain ⟨only, record⟩ := rederive_undocked b s h
    rw [← record] at held bikes
    exact onlyAt only held bikes

theorem rederiveAll (s : State) : Returns s (rederiveAll s) := foldl (fun t b => rederive b t) allBays s

theorem seedScan (w : SenseWord) (s : State) : Returns s (seedScan w s) := by
  refine still ?_ ?_ ?_ ?_ (fun o => ?_) fun o i e => ?_
  · simp only [Machine.seedScan, State.mapBays]
  · simp only [Machine.seedScan, State.mapBays]
  · simp only [Machine.seedScan, State.mapBays]
  · simp only [Machine.seedScan, State.mapBays]
  · rw [seedScan_bay]; rfl
  · rw [seedScan_bay] at e ⊢; exact ⟨e, id⟩

end Returns
end Sys2Proof.Machine
end

section
/-! What an entry to DOCKED brings to the bay, and the re-derivation of every bay, bay by bay. -/

namespace Sys2Proof.Machine

/-! ### An entry that secures a bike -/

section Secures
variable (b : BayIx) (s : State)

/-- Securing a bike starts the tag window where no identity is known, and writes no other timer (R19). -/
theorem secured_tagWindow : ((secured b s).bay b).tagWindow =
    if (s.bay b).identity = none then some (s.ms + 1000 * s.settings.tagWindow) else (s.bay b).tagWindow := by
  by_cases h : (s.bay b).identity = none
  · rw [if_pos h, secured_unknown b s h, State.put_bay]
  · rw [if_neg h, secured, processReturn_bay, startTagWindow_known b s h]

/-- A processed return stays processed. -/
theorem secured_processed (h : (s.bay b).processed = true) : ((secured b s).bay b).processed = true := by
  obtain ⟨w, e⟩ := secured_settles b s (.inl h)
  rw [e, State.put_bay]
  exact h

/-- Return processing of a known bike in DOCKED processes its return, unless it waits behind a held one (R95, R100). -/
theorem processReturn_dealt (st : (s.bay b).state = .docked) (i : (s.bay b).identity ≠ none) :
    ((processReturn b s).bay b).processed = true ∨ ((processReturn b s).bay b).held.isSome := by
  by_cases p : (s.bay b).processed = true
  · left
    rw [processReturn_idle b s (by simp [Bay.returnDue, p])]
    exact p
  · have due : (s.bay b).returnDue = true := by
      simp [Bay.returnDue, st, p, Option.isSome_iff_ne_none.mpr i]
    unfold processReturn
    simp only [due, if_true]
    split
    · next none => exact absurd none i
    · split
      · left; rw [localReturn_bay, markProcessed_bay]
      · split
        · next held => right; rw [fixMinute_bay]; exact held
        · left; rw [foreignReturn_bay, markProcessed_bay]

theorem secured_dealt (st : (s.bay b).state = .docked) (i : (s.bay b).identity ≠ none) :
    ((secured b s).bay b).processed = true ∨ ((secured b s).bay b).held.isSome := by
  refine processReturn_dealt b _ ?_ ?_ <;> rw [startTagWindow_bay]
  · exact st
  · exact i

end Secures

/-! ### The re-derived bay -/

section Rederives
variable (b : BayIx) (s : State)

/-- Re-derivation writes the record of `Bay.rested`, but for tag window, mark and held return (R17). -/
theorem rederive_rested : (rederive b s).bay b =
    { (s.bay b).rested s.clock.minute s.ms with
      tagWindow := ((rederive b s).bay b).tagWindow, processed := ((rederive b s).bay b).processed
      held := ((rederive b s).bay b).held } := by
  by_cases h : (s.bay b).presence = .present ∧ (s.bay b).latch = .closed
  · obtain ⟨v, -, record, e⟩ := rederive_secures b s h.1 h.2
    have arrival : ((secured b v).bay b).arrival = ((s.bay b).rested s.clock.minute s.ms).arrival := by
      rw [Bay.rested_arrival, if_pos h.1]
      refine secured_arrival b v ?_
      rw [record, Bay.rested_arrival, if_pos h.1]
    rw [e]
    have bay := secured_bay b v
    rw [arrival, record] at bay
    exact bay
  · rw [(rederive_undocked b s h).2]

theorem rederive_tagWindow (w : (s.bay b).tagWindow = none) : ((rederive b s).bay b).tagWindow =
    if ((rederive b s).bay b).state = .docked ∧ ((rederive b s).bay b).identity = none
      then some (s.ms + 1000 * s.settings.tagWindow) else none := by
  have stopped := ((s.bay b).rested_timers s.clock.minute s.ms).2.2.1 w
  by_cases h : (s.bay b).presence = .present ∧ (s.bay b).latch = .closed
  · obtain ⟨v, only, record, e⟩ := rederive_secures b s h.1 h.2
    have docked : (v.bay b).state = .docked := by rw [record, Bay.rested_state, h.1, h.2]; rfl
    have kept := secured_bay b v
    have state : ((secured b v).bay b).state = .docked := ((congrArg Bay.state kept).trans rfl).trans docked
    have identity : ((secured b v).bay b).identity = (v.bay b).identity := (congrArg Bay.identity kept).trans rfl
    have ms : v.ms = s.ms := by rw [only.frame]
    have settings : v.settings = s.settings := by rw [only.frame]
    rw [e, state, identity, secured_tagWindow, ms, settings, record, stopped]
    simp only [true_and]
  · have record := (rederive_undocked b s h).2
    have state : ((s.bay b).rested s.clock.minute s.ms).state ≠ .docked := by
      rw [Bay.rested_state]
      intro d
      cases p : (s.bay b).presence <;> cases l : (s.bay b).latch <;> rw [p, l] at d <;> cases d
      exact h ⟨p, l⟩
    rw [record, stopped, if_neg fun d => state d.1]

theorem rederive_processed (p : (s.bay b).presence = .present) (h : (s.bay b).processed = true) :
    ((rederive b s).bay b).processed = true := by
  have rested : ((s.bay b).rested s.clock.minute s.ms).processed = true := by rw [Bay.rested_processed, if_pos p, h]
  by_cases l : (s.bay b).latch = .closed
  · obtain ⟨v, -, record, e⟩ := rederive_secures b s p l
    rw [e]
    exact secured_processed b v (by rw [record]; exact rested)
  · rw [(rederive_undocked b s fun d => l d.2).2]
    exact rested

theorem rederive_dealt (st : ((rederive b s).bay b).state = .docked) (i : ((rederive b s).bay b).identity ≠ none) :
    ((rederive b s).bay b).processed = true ∨ ((rederive b s).bay b).held.isSome := by
  rw [rederive_state] at st
  have levels : (s.bay b).presence = .present ∧ (s.bay b).latch = .closed := by
    cases p : (s.bay b).presence <;> cases l : (s.bay b).latch <;> rw [p, l] at st <;> cases st
    exact ⟨rfl, rfl⟩
  obtain ⟨v, -, record, e⟩ := rederive_secures b s levels.1 levels.2
  rw [e] at i ⊢
  refine secured_dealt b v ?_ ?_
  · rw [record, Bay.rested_state, levels.1, levels.2]; rfl
  · rw [secured_bay] at i
    exact i

/-- A bay whose levels are the samples of a seeding scan is re-derived by them (R3, R17). -/
theorem rederive_seeded {w : SenseWord} {y : Bay} (h : s.bay b = y.seed w b) :
    SeededAndRederived w b ((rederive b s).bay b) := by
  have e := rederive_rested b s
  have presence : (s.bay b).presence = samplePresence w b := by rw [h]; rfl
  have latch : (s.bay b).latch = sampleLatch w b := by rw [h]; rfl
  have kept {α : Type} (f : Bay → α) (k : ∀ (z : Bay) t p x, f { z with tagWindow := t, processed := p, held := x } = f z) :
      f ((rederive b s).bay b) = f ((s.bay b).rested s.clock.minute s.ms) := (congrArg f e).trans (k _ _ _ _)
  have kind : restKind w b = restRequest (s.bay b).presence (s.bay b).latch := by rw [presence, latch]; rfl
  have level := kept (fun z => z.presence) fun _ _ _ _ => rfl
  simp only [Bay.rested_presence, presence] at level
  constructor
  · exact level
  · refine (kept (fun z => z.latch) fun _ _ _ _ => rfl).trans ?_
    simp only [Bay.rested_latch, latch]
  · refine (kept (fun z => z.rawPresence) fun _ _ _ _ => rfl).trans ?_
    simp only [Bay.rested_rawPresence, h]; rfl
  · refine (kept (fun z => z.rawLatch) fun _ _ _ _ => rfl).trans ?_
    simp only [Bay.rested_rawLatch, h]; rfl
  · refine ⟨(kept (fun z => z.presenceAgree) fun _ _ _ _ => rfl).trans ?_, (kept (fun z => z.latchAgree) fun _ _ _ _ => rfl).trans ?_,
      (kept (fun z => z.presenceDue) fun _ _ _ _ => rfl).trans ?_, (kept (fun z => z.latchDue) fun _ _ _ _ => rfl).trans ?_⟩
    · simp only [Bay.rested_presenceAgree, h]; rfl
    · simp only [Bay.rested_latchAgree, h]; rfl
    · simp only [Bay.rested_presenceDue, h]; rfl
    · simp only [Bay.rested_latchDue, h]; rfl
  · rw [rederive_state, presence, latch]
  · rw [kind]
    exact (kept (fun z => z.link) fun _ _ _ _ => rfl).trans (Bay.rested_link _ _ _)
  · rw [kind]
    exact (kept (fun z => z.driveStage) fun _ _ _ _ => rfl).trans (Bay.rested_driveStage _ _ _)
  · exact (kept (fun z => z.faultCause) fun _ _ _ _ => rfl).trans (Bay.rested_faultCause _ _ _)
  · exact (kept (fun z => z.attempts) fun _ _ _ _ => rfl).trans (Bay.rested_attempts _ _ _)
  · exact (kept (fun z => z.presenceChanged) fun _ _ _ _ => rfl).trans (Bay.rested_presenceChanged _ _ _)
  · intro a
    have absent : ¬ (s.bay b).presence = .present := by rw [presence, ← level, a]; nofun
    rw [(rederive_undocked b s fun d => absent d.1).2, Bay.rested_identity, Bay.rested_arrival, Bay.rested_processed,
      if_neg absent, if_neg absent, if_neg absent]
    exact ⟨rfl, rfl, rfl⟩

end Rederives

/-! ### Every bay -/

/-- The bays of a list re-derived in turn. -/
def rederiveEach (l : List BayIx) (s : State) : State := l.foldl (fun t b => rederive b t) s

theorem rederiveAll_each (s : State) : rederiveAll s = rederiveEach allBays s := rfl

theorem rederiveEach_cons (b : BayIx) (l : List BayIx) (s : State) : rederiveEach (b :: l) s = rederiveEach l (rederive b s) := rfl

theorem rederiveEach_other {b : BayIx} {l : List BayIx} (h : b ∉ l) (s : State) : (rederiveEach l s).bay b = s.bay b := by
  induction l generalizing s with
  | nil => rfl
  | cons o rest ih =>
    rw [List.mem_cons, not_or] at h
    rw [rederiveEach_cons, ih h.2, rederive_other o b s h.1]

theorem AtBays.rederiveEach (l : List BayIx) (s : State) : AtBays s (rederiveEach l s) := by
  induction l generalizing s with
  | nil => exact .refl s
  | cons b rest ih => exact (AtBays.rederive b s).trans (ih _)

/-- A bay of the list is re-derived once, from the record that it had before the first of them. -/
theorem rederiveEach_bay {b : BayIx} {l : List BayIx} (m : b ∈ l) (nd : l.Nodup) (s : State) :
    ∃ u, u.bay b = s.bay b ∧ AtBays s u ∧ (rederiveEach l s).bay b = (rederive b u).bay b := by
  induction l generalizing s with
  | nil => cases m
  | cons o rest ih =>
    rw [List.nodup_cons] at nd
    rw [rederiveEach_cons]
    by_cases c : b = o
    · subst c
      exact ⟨s, rfl, .refl s, rederiveEach_other nd.1 _⟩
    · obtain ⟨u, record, work, e⟩ := ih ((List.mem_cons.mp m).resolve_left c) nd.2 (rederive o s)
      exact ⟨u, record.trans (rederive_other o b s c), (AtBays.rederive o s).trans work, e⟩

theorem rederiveAll_bay (b : BayIx) (s : State) :
    ∃ u, u.bay b = s.bay b ∧ AtBays s u ∧ (rederiveAll s).bay b = (rederive b u).bay b :=
  rederiveEach_bay (List.mem_finRange b) (List.nodup_finRange 32) s

end Sys2Proof.Machine
end

section
/-! The queue that the re-derivation of every bay leaves. -/

namespace Sys2Proof.Machine

/-- Re-derivation posts the request of its row of the table at the back of the queue (R17, R139). -/
theorem rederive_posts (b : BayIx) (s : State) :
    (rederive b s).queue = s.queue ++ (restRequest (s.bay b).presence (s.bay b).latch).toList.map (⟨b, ·, s.nextOrder⟩) ∧
    (rederive b s).nextOrder = s.nextOrder + (restRequest (s.bay b).presence (s.bay b).latch).toList.length := by
  have own := s.put_self b
  cases p : (s.bay b).presence <;> cases l : (s.bay b).latch
  case present.closed =>
    rw [rederive_enterDocked p l]
    have e : restRequest .present .closed = none := rfl
    rw [e, Option.toList_none, List.map_nil, List.append_nil]
    exact ⟨enterDocked_queue _ _, enterDocked_nextOrder _ _⟩
  case present.opened =>
    have e := rederive_latching s b (s.bay b) p l
    rw [own] at e
    rw [e]
    exact ⟨rfl, rfl⟩
  case absent.closed =>
    have e := rederive_readiness s b (s.bay b) p l
    rw [own] at e
    rw [e]
    exact ⟨rfl, rfl⟩
  case absent.opened =>
    have e := rederive_vacant s b (s.bay b) p l
    rw [own] at e
    rw [e]
    exact ⟨(List.append_nil _).symm, rfl⟩

/-- The requests of the bays of a list, with posting orders from `first` on. -/
def restPosts (w : SenseWord) (l : List BayIx) (first : Nat) : List DriveRequest :=
  ((l.filterMap fun b => (restKind w b).map fun k => (b, k)).zipIdx first).map fun x => ⟨x.1.1, x.1.2, x.2⟩

theorem restPosts_all (w : SenseWord) (first : Nat) : restPosts w allBays first = restQueue w first := rfl

theorem restPosts_cons (w : SenseWord) (b : BayIx) (l : List BayIx) (first : Nat) : restPosts w (b :: l) first =
    (restKind w b).toList.map (⟨b, ·, first⟩) ++ restPosts w l (first + (restKind w b).toList.length) := by
  unfold restPosts
  cases h : restKind w b with
  | none => simp [h]
  | some k => simp [h]

theorem rederiveEach_queue {w : SenseWord} (l : List BayIx) (s : State) (nd : l.Nodup)
    (h : ∀ b ∈ l, (s.bay b).presence = samplePresence w b ∧ (s.bay b).latch = sampleLatch w b) :
    (rederiveEach l s).queue = s.queue ++ restPosts w l s.nextOrder := by
  induction l generalizing s with
  | nil => exact (List.append_nil _).symm
  | cons b rest ih =>
    rw [List.nodup_cons] at nd
    have others : ∀ o ∈ rest, ((rederive b s).bay o).presence = samplePresence w o ∧ ((rederive b s).bay o).latch = sampleLatch w o := by
      intro o m
      rw [rederive_other b o s fun c => nd.1 (c ▸ m)]
      exact h o (List.mem_cons_of_mem b m)
    obtain ⟨presence, latch⟩ := h b List.mem_cons_self
    have kind : restKind w b = restRequest (s.bay b).presence (s.bay b).latch := by rw [presence, latch]; rfl
    obtain ⟨queue, order⟩ := rederive_posts b s
    rw [rederiveEach_cons, ih _ nd.2 others, queue, order, restPosts_cons, kind, List.append_assoc]

/-- From an empty queue the re-derivation of every bay after a seeding scan leaves the queue of R30 and R160. -/
theorem rederiveAll_seedScan_queue (w : SenseWord) (s : State) (h : s.queue = []) :
    (rederiveAll (seedScan w s)).queue = restQueue w s.nextOrder := by
  have order : (seedScan w s).nextOrder = s.nextOrder := by rw [seedScan, State.mapBays_nextOrder]
  rw [rederiveAll_each, rederiveEach_queue allBays _ (List.nodup_finRange 32) fun b _ => by rw [seedScan_bay]; exact ⟨rfl, rfl⟩,
    seedScan_queue, h, List.nil_append, order, restPosts_all]

end Sys2Proof.Machine
end

section
/-! A cold reset: O58. -/

namespace Sys2Proof.Machine

/-! ### Bays with no bike known -/

section Unknown
variable {b : BayIx} {s : State} (h : (s.bay b).identity = none)
include h

/-- With no identity known re-derivation is work at the bay alone (R17). -/
theorem OnlyAt.rederive_unknown : OnlyAt b s (rederive b s) := by
  cases p : (s.bay b).presence with
  | present => exact (rederive_settled p (.inr h)).1
  | absent => exact .rederive_absent p

/-- With no identity known re-derivation writes its record and the tag window (R17, R19). -/
theorem rederive_unknown_bay : (rederive b s).bay b =
    { (s.bay b).rested s.clock.minute s.ms with tagWindow := ((rederive b s).bay b).tagWindow } := by
  by_cases l : (s.bay b).presence = .present ∧ (s.bay b).latch = .closed
  · obtain ⟨v, -, record, e⟩ := rederive_secures b s l.1 l.2
    have unknown : (v.bay b).identity = none := by rw [record, Bay.rested_identity, if_pos l.1, h]
    rw [e, secured_unknown b v unknown, State.put_bay, record]
  · rw [(rederive_undocked b s l).2]

end Unknown

/-- With no identity known anywhere the re-derivation of bays writes bays, queue and causes only. -/
theorem rederiveEach_unknown (l : List BayIx) (s : State) (h : ∀ b, (s.bay b).identity = none) :
    rederiveEach l s = { s with
      bays := (rederiveEach l s).bays, queue := (rederiveEach l s).queue, nextOrder := (rederiveEach l s).nextOrder
      changes := (rederiveEach l s).changes } := by
  induction l generalizing s with
  | nil => rfl
  | cons b rest ih =>
    have unknown : ∀ o, ((rederive b s).bay o).identity = none := fun o =>
      Option.eq_none_iff_forall_ne_some.mpr fun i e => by
        have before := ((Returns.rederive b s).bikes o i e).1
        rw [h o] at before
        cases before
    have frame := (OnlyAt.rederive_unknown (h b)).frame
    rw [rederiveEach_cons]
    generalize rederive b s = t at unknown frame
    rw [ih t unknown, frame]

/-! ### The cold reset -/

theorem coldBase_bay (s : State) (b : BayIx) : (coldBase s).bay b = blankBay := by
  have e : (coldBase s).bays = State.reset.bays := by unfold coldBase; generalize State.reset = r; rfl
  rw [State.bay, e]
  exact reset_bay b

theorem coldBase_clock (s : State) : (coldBase s).clock = unsetClock := by simp only [coldBase, State.reset]

theorem coldBase_settings (s : State) : (coldBase s).settings = defaultSettings := by simp only [coldBase, State.reset]

/-- A cold reset is its base with the bays re-derived. -/
theorem coldReset_frame (w : SenseWord) (s : State) : coldReset w s = { coldBase s with
    bays := (coldReset w s).bays, queue := (coldReset w s).queue, nextOrder := (coldReset w s).nextOrder
    changes := emptyChanges } := by
  have seeded : seedScan w (coldBase s) = { coldBase s with bays := (seedScan w (coldBase s)).bays } := by
    unfold seedScan State.mapBays; rfl
  have each := rederiveEach_unknown allBays (seedScan w (coldBase s)) fun b => by rw [seedScan_bay, coldBase_bay]; rfl
  rw [← rederiveAll_each] at each
  rw [coldReset_eq]
  generalize rederiveAll (seedScan w (coldBase s)) = t at each
  rw [each, seeded]

theorem coldReset_record (w : SenseWord) (s : State) (b : BayIx) :
    (coldReset w s).bay b = (rederiveAll (seedScan w (coldBase s))).bay b := by
  rw [coldReset_eq]
  generalize rederiveAll (seedScan w (coldBase s)) = t
  rfl

/-- A bay after a cold reset: the blank record with the samples as its levels, re-derived at minute 0 and count 0. -/
theorem coldReset_bay (w : SenseWord) (s : State) (b : BayIx) : SeededAndRederived w b ((coldReset w s).bay b) ∧
    (coldReset w s).bay b = { (blankBay.seed w b).rested 0 0 with
      tagWindow := if ((coldReset w s).bay b).state = .docked then some 20000 else none } := by
  obtain ⟨u, record, work, e⟩ := rederiveAll_bay b (seedScan w (coldBase s))
  rw [seedScan_bay, coldBase_bay] at record
  have whole : AtBays (coldBase s) u := (BayWork.seedScan w _).atBays.trans work
  have minute : u.clock.minute = 0 := by rw [whole.clock, coldBase_clock]; rfl
  have ms : u.ms = 0 := by rw [whole.ms]; simp only [coldBase, State.reset]
  have window : u.settings.tagWindow = 20 := by rw [whole.settings, coldBase_settings]; rfl
  have bay : (coldReset w s).bay b = (rederive b u).bay b := (coldReset_record w s b).trans e
  have unknown : (u.bay b).identity = none := by rw [record]; rfl
  have timer := rederive_tagWindow b u (by rw [record]; rfl)
  have rested := rederive_unknown_bay unknown
  have nobody : ((rederive b u).bay b).identity = none :=
    (congrArg Bay.identity rested).trans ((Bay.rested_identity _ _ _).trans (by rw [unknown, ite_self]))
  rw [bay]
  refine ⟨rederive_seeded b u record, ?_⟩
  rw [timer, nobody, ms, window, minute, record] at rested
  simp only [and_true] at rested
  exact rested

theorem emptyChanges_any : emptyChanges.any = false := by
  simp [ChangeSet.any, emptyChanges, StationCauses.any, BayCauses.any, noBayCauses]

/-- A cold reset gives every item its cold-reset value (R30, R38, R66, R108, R110, R136, R161, R187, R196). -/
theorem coldReset_coldly (w : SenseWord) (s : State) : ColdlyReset w (coldReset w s) := by
  have frame := coldReset_frame w s
  have bay := coldReset_bay w s
  have queue : (coldReset w s).queue = restQueue w 0 := by
    have e := rederiveAll_seedScan_queue w _ (coldBase_queue s)
    have order : (coldBase s).nextOrder = 0 := by simp only [coldBase, State.reset]
    rw [order] at e
    rw [← e, coldReset_eq]
  generalize coldReset w s = t at frame bay queue
  have item (b : BayIx) {α : Type} (f : Bay → α) (k : ∀ (z : Bay) x, f { z with tagWindow := x } = f z) :
      f (t.bay b) = f ((blankBay.seed w b).rested 0 0) := (congrArg f (bay b).2).trans (k _ _)
  have timers (b : BayIx) := (blankBay.seed w b).rested_timers 0 0
  constructor
  case queue => exact queue
  case bays => exact fun b => (bay b).1
  case baysClear =>
    intro b
    refine ⟨(item b (fun z => z.identity) fun _ _ => rfl).trans ?_, (item b (fun z => z.processed) fun _ _ => rfl).trans ?_,
      (item b (fun z => z.pendingTag) fun _ _ => rfl).trans ((timers b).1 rfl),
      (item b (fun z => z.held) fun _ _ => rfl).trans (Bay.rested_held _ _ _),
      (item b (fun z => z.lastOutcome) fun _ _ => rfl).trans (Bay.rested_lastOutcome _ _ _),
      (item b (fun z => z.alarms) fun _ _ => rfl).trans (Bay.rested_alarms _ _ _),
      (item b (fun z => z.takeWindow) fun _ _ => rfl).trans ((timers b).2.1 rfl),
      (item b (fun z => z.deadline) fun _ _ => rfl).trans ((timers b).2.2.2.2 rfl),
      (item b (fun z => z.retryDelay) fun _ _ => rfl).trans ((timers b).2.2.2.1 rfl)⟩
    · simp only [Bay.rested_identity]
      exact ite_self none
    · simp only [Bay.rested_processed]
      exact ite_self false
  case arrivals =>
    intro b
    refine (item b (fun z => z.arrival) fun _ _ => rfl).trans ?_
    simp only [Bay.rested_arrival]
    rfl
  case tagWindows => exact fun b => (congrArg Bay.tagWindow (bay b).2).trans rfl
  case lamps =>
    intro b
    refine ⟨?_, (item b (fun z => z.lampPhase) fun _ _ => rfl).trans (Bay.rested_lamp_phase _ 0 rfl rfl).1,
      (item b (fun z => z.lampSince) fun _ _ => rfl).trans (Bay.rested_lamp_phase _ 0 rfl rfl).2⟩
    rw [item b (fun z => z.lamp) fun _ _ => rfl, item b (fun z => z.state) fun _ _ => rfl]
    exact Bay.rested_lamp _ 0 0 rfl
  all_goals rw [frame]; simp [coldBase, State.reset]
  case clock => rfl
  case settings => rfl
  case channels => rfl
  case chain => rfl
  case profiles => exact ⟨rfl, rfl⟩
  case thresholds => rfl
  case link => exact emptyChanges_any

/-- A cold reset leaves what the supplies, RESET and the analog scanner hold (R162, R207). -/
theorem coldReset_stands (w : SenseWord) (s : State) : (coldReset w s).mainPower = s.mainPower ∧
    (coldReset w s).resetHeld = s.resetHeld ∧ (coldReset w s).scanSlot = s.scanSlot ∧
    (coldReset w s).currents = s.currents ∧ (coldReset w s).battery = s.battery := by
  have frame := coldReset_frame w s
  generalize coldReset w s = t at frame
  rw [frame]
  simp only [coldBase, State.reset, and_self]

/-! ### RESET -/

theorem reachesStoppedPart_request {i : Instr} {r : Byte × List Byte} (h : Frame.encodeRequest i = some r) :
    reachesStoppedPart i = false := by
  cases i with
  | resetAssert | resetRelease | mainPowerLoss | mainPowerReturn | backupSupplyLoss | clockSecond | minuteEvent
  | currentConversion | batteryConversion => cases h
  | _ => rfl

theorem resetRelease_cold {s : State} (w : SenseWord) (h : s.resetHeld = true) (m : s.mainPower = true) :
    exec (.resetRelease w) s = .next (coldReset w { s with resetHeld := false }) := by
  refine congrArg Host.Outcome.next ?_
  unfold resetRelease
  simp only [h, m, if_true]

theorem resetRelease_dark {s : State} (w : SenseWord) (h : s.resetHeld = true) (m : s.mainPower = false) :
    exec (.resetRelease w) s = .next { s with resetHeld := false } := by
  refine congrArg Host.Outcome.next ?_
  unfold resetRelease
  simp only [h, m, if_true, Bool.false_eq_true, if_false]

theorem resetRelease_idle {s : State} (w : SenseWord) (h : s.resetHeld = false) : exec (.resetRelease w) s = .next s := by
  refine congrArg Host.Outcome.next ?_
  unfold resetRelease
  simp only [h, Bool.false_eq_true, if_false]

/-- Settles O58: what a stopped part ignores, and the items of the cold reset. -/
theorem resetMakesAColdReset : Obligations.ResetMakesAColdReset := by
  intro s w
  refine ⟨rfl, fun h _ => ?_, fun h m => ?_, resetRelease_dark w, resetRelease_idle w⟩
  · have stopped : s.running = false := by rw [State.running, h, Bool.not_true, Bool.and_false]
    refine ⟨fun c => ?_, fun b => ?_, ?_, fun x => exec_stopped _ s stopped rfl,
      fun i k p e => exec_stopped i s stopped (reachesStoppedPart_request e), fun i => exec_stopped i s stopped⟩
    · simp only [State.gates, stopped, Bool.false_eq_true, if_false]
    · simp only [State.selectBits, stopped, Bool.false_eq_true, if_false]
    · rw [State.attn, stopped, Bool.false_and]
  · obtain ⟨power, held, slot, currents, battery⟩ := coldReset_stands w { s with resetHeld := false }
    exact ⟨_, resetRelease_cold w h m, coldReset_coldly w _, power.trans m, held, slot, currents, battery⟩

end Sys2Proof.Machine
end

section
/-! What the flush of a warm restart writes of the held returns. -/

namespace Sys2Proof.Machine

/-- What writing held returns leaves: of the held order the first `n` bays are gone, and each return that they held is in the
journal (R130). -/
structure Flushes (n : Nat) (s t : State) : Prop where
  journal   : s.journal <+: t.journal
  highWater : t.highWaterArmed = highWaterAfter s.highWaterArmed s.journal.length t.journal.length
  held      : ∀ b h, (s.bay b).held = some h →
    (t.bay b).held = some h ∨ .foreignReturn h ∈ t.journal.drop s.journal.length
  heldOrder : t.heldOrder = s.heldOrder.drop n
  written   : ∀ b ∈ s.heldOrder.take n, ∀ h, (s.bay b).held = some h → .foreignReturn h ∈ t.journal.drop s.journal.length

namespace Flushes

theorem refl (s : State) : Flushes 0 s s :=
  ⟨List.prefix_refl _, (highWaterAfter_same _ _).symm, fun _ _ e => .inl e, rfl, nofun⟩

theorem trans {m n : Nat} {s t u : State} (h : Flushes m s t) (k : Flushes n t u) : Flushes (m + n) s u where
  journal := h.journal.trans k.journal
  highWater := by rw [k.highWater, h.highWater, highWaterAfter_trans _ h.journal.length_le k.journal.length_le]
  held b r e := by
    rcases h.held b r e with stands | gone
    · exact (k.held b r stands).imp_right (Returns.mem_drop_later h.journal k.journal)
    · exact .inr (Returns.mem_drop h.journal k.journal gone)
  heldOrder := by rw [k.heldOrder, h.heldOrder, List.drop_drop]
  written b m r e := by
    rw [List.take_add, List.mem_append] at m
    rcases m with m | m
    · exact Returns.mem_drop h.journal k.journal (h.written b m r e)
    · rcases h.held b r e with stands | gone
      · exact Returns.mem_drop_later h.journal k.journal (k.written b (h.heldOrder ▸ m) r stands)
      · exact Returns.mem_drop h.journal k.journal gone

/-- A held return at the front is written, and its bay leaves the order (R130). -/
theorem writeHeld {b : BayIx} {r : ForeignReturn} {s : State} {rest : List BayIx} (o : s.heldOrder = b :: rest)
    (h : (s.bay b).held = some r) : Flushes 1 s (writeHeld b r s) := by
  have journal : (Machine.writeHeld b r s).journal = s.journal ++ [.foreignReturn r] := by rw [writeHeld_frame]
  have written : JournalRecord.foreignReturn r ∈ (Machine.writeHeld b r s).journal.drop s.journal.length := by
    rw [journal, List.drop_left]
    exact List.mem_singleton_self _
  refine ⟨by rw [journal]; exact List.prefix_append _ _, ?_, fun x f e => ?_, ?_, fun x m f e => ?_⟩
  · have appended := (Returns.appendRecord (.foreignReturn r) s).highWater
    exact appended
  · by_cases c : x = b
    · subst c
      rw [h] at e
      cases e
      exact .inr written
    · exact .inl (by rw [writeHeld_bay_ne b r s c]; exact e)
  · rw [writeHeld_frame]
    exact List.drop_one.symm
  · rw [o] at m
    rw [List.mem_singleton.mp m, h] at e
    cases e
    exact written

/-- A bay in the order with nothing held is passed over. -/
theorem skip {b : BayIx} {s : State} {rest : List BayIx} (o : s.heldOrder = b :: rest) (h : (s.bay b).held = none) :
    Flushes 1 s { s with heldOrder := s.heldOrder.tail } := by
  refine ⟨List.prefix_refl _, (highWaterAfter_same _ _).symm, fun _ _ e => .inl e, List.drop_one.symm, fun x m f e => ?_⟩
  rw [o] at m
  rw [List.mem_singleton.mp m, h] at e
  cases e

theorem flushFrom (l : List BayIx) (s : State) (o : s.heldOrder = l) : ∃ n, Flushes n s (flushFrom l s).1 := by
  induction l generalizing s with
  | nil => exact ⟨0, refl s⟩
  | cons b rest ih =>
    unfold Machine.flushFrom
    split
    · next r hr =>
      split
      · obtain ⟨n, later⟩ := ih (Machine.writeHeld b r s) (by rw [writeHeld_frame, o]; rfl)
        exact ⟨1 + n, (writeHeld o hr).trans later⟩
      · exact ⟨0, refl s⟩
    · next none =>
      obtain ⟨n, later⟩ := ih { s with heldOrder := s.heldOrder.tail } (by rw [o]; rfl)
      exact ⟨1 + n, (skip o none).trans later⟩

end Flushes

/-! ### The bays under a flush -/

/-- The record `z` is `y` but for a held return, the mark set, and an arrival minute that was missing (R95, R130). -/
structure Bay.Flushed (minute : Nat) (y z : Bay) : Prop where
  frame     : z = { y with processed := z.processed, arrival := z.arrival, held := z.held }
  processed : y.processed = true → z.processed = true
  arrival   : z.arrival.getD minute = y.arrival.getD minute

namespace Bay.Flushed
variable {minute : Nat}

theorem refl (y : Bay) : y.Flushed minute y := ⟨rfl, id, rfl⟩

theorem trans {x y z : Bay} (h : x.Flushed minute y) (k : y.Flushed minute z) : x.Flushed minute z where
  frame := by rw [k.frame, h.frame]
  processed p := k.processed (h.processed p)
  arrival := k.arrival.trans h.arrival

theorem processReturn (b o : BayIx) (s : State) : (s.bay o).Flushed s.clock.minute ((processReturn b s).bay o) := by
  by_cases c : o = b
  · subst c
    refine ⟨processReturn_bay o s, fun p => ?_, ?_⟩
    · rw [processReturn_idle o s (by simp [Bay.returnDue, p])]
      exact p
    · unfold Machine.processReturn
      simp only
      split
      · rfl
      · split
        · split
          · rw [localReturn_bay, markProcessed_bay]; rfl
          · split
            · rw [fixMinute_bay]; rfl
            · rw [foreignReturn_bay, markProcessed_bay]; rfl
        · rfl
  · rw [processReturn_other b o s c]
    exact refl _

theorem flushFrom (o : BayIx) (l : List BayIx) (s : State) : (s.bay o).Flushed minute ((flushFrom l s).1.bay o) := by
  induction l generalizing s with
  | nil => exact refl _
  | cons b rest ih =>
    unfold Machine.flushFrom
    split
    · next r _ =>
      split
      · refine .trans ?_ (ih (writeHeld b r s))
        by_cases c : o = b
        · subst c
          rw [writeHeld_bay_self]
          exact ⟨rfl, id, rfl⟩
        · rw [writeHeld_bay_ne b r s c]
          exact refl _
      · exact refl _
    · exact ih { s with heldOrder := s.heldOrder.tail }

theorem flush (o : BayIx) (s : State) : (s.bay o).Flushed s.clock.minute ((flush s).bay o) := by
  have fold (l : List BayIx) (t : State) (e : t.clock = s.clock) :
      (t.bay o).Flushed s.clock.minute ((l.foldl (fun t b => Machine.processReturn b t) t).bay o) := by
    induction l generalizing t with
    | nil => exact refl _
    | cons b rest ih =>
      have step := processReturn b o t
      rw [e] at step
      exact step.trans (ih _ ((AtBays.processReturn b t).clock.trans e))
  unfold Machine.flush
  refine (flushFrom o s.heldOrder s).trans (fold _ _ ?_)
  rw [flushFrom_frame]

end Bay.Flushed

/-- A flush writes held returns, and then returns that waited behind them (R130, R131). -/
theorem flush_returns (s : State) : ∃ n f, Flushes n s f ∧ f.rentals = s.rentals ∧
    (∀ b, (s.bay b).Flushed s.clock.minute (f.bay b)) ∧ Returns f (flush s) := by
  obtain ⟨n, writes⟩ := Flushes.flushFrom s.heldOrder s rfl
  refine ⟨n, (flushFrom s.heldOrder s).1, writes, by rw [flushFrom_frame], fun b => .flushFrom b s.heldOrder s, ?_⟩
  unfold flush
  exact .foldl (fun t b => .processReturn b t) _ _

end Sys2Proof.Machine
end

section
/-! A warm restart: O13 and O60. -/

namespace Sys2Proof.Machine

/-! ### The discards of a warm restart -/

theorem restartDiscards_frame (s : State) : restartDiscards s = { s with
    bays := (restartDiscards s).bays, rentals := (restartDiscards s).rentals
    spent := s.spent.filter fun e => decide (e.state = .finalized)
    queue := [], channels := Vector.replicate 4 idleChannel } := by
  simp only [restartDiscards, State.mapBays]

/-- Every rental but the OPEN ones is discarded (R67, R86). -/
theorem restartDiscards_rentals (s : State) (k : Fin 64) (r : Rental) :
    (restartDiscards s).rentals[k] = some r ↔ s.rentals[k] = some r ∧ r.stage = .opened := by
  simp only [restartDiscards, Fin.getElem_fin, Vector.getElem_ofFn, Option.filter_eq_some_iff, decide_eq_true_eq]

/-! ### The bays of a warm restart -/

/-- The journal, the rentals and the held returns of a warm restart: the discards, what the flush writes, and the returns that
it and the re-derivation of the bays process. -/
theorem restartedBays_returns (w : SenseWord) (s : State) : ∃ n f, Flushes n (restartDiscards s) f ∧
    f.rentals = (restartDiscards s).rentals ∧
    (∀ b, ((restartDiscards s).bay b).Flushed s.clock.minute (f.bay b)) ∧ Returns f (restartedBays w s) := by
  obtain ⟨n, f, writes, rentals, bays, returns⟩ := flush_returns (restartDiscards s)
  have clock : (restartDiscards s).clock = s.clock := by rw [restartDiscards_frame]
  rw [clock] at bays
  refine ⟨n, f, writes, rentals, bays, returns.trans ?_⟩
  unfold restartedBays
  exact (Returns.seedScan w _).trans (.rederiveAll _)

theorem restartedBays_work (w : SenseWord) (s : State) : AtBays (restartDiscards s) (restartedBays w s) :=
  ((AtBays.flush _).trans (BayWork.seedScan w _).atBays).trans (BayWork.rederiveAll _).atBays

/-- A bay of a warm restart: the record that the discards and the flush leave, with the samples as its levels, re-derived. -/
theorem restartedBays_bay (w : SenseWord) (s : State) (b : BayIx) : ∃ u z, (s.bay b).restarted.Flushed s.clock.minute z ∧
    u.bay b = z.seed w b ∧ AtBays (restartDiscards s) u ∧ (restartedBays w s).bay b = (rederive b u).bay b := by
  have clock : (restartDiscards s).clock = s.clock := by rw [restartDiscards_frame]
  have flushed := Bay.Flushed.flush b (restartDiscards s)
  rw [clock, restartDiscards_bay] at flushed
  obtain ⟨u, record, work, e⟩ := rederiveAll_bay b (seedScan w (flush (restartDiscards s)))
  rw [seedScan_bay] at record
  exact ⟨u, _, flushed, record, ((AtBays.flush _).trans (BayWork.seedScan w _).atBays).trans work, e⟩

section Record
variable (w : SenseWord) (s : State) (b : BayIx)

/-- The record of a bay after a warm restart, but for what an entry to DOCKED writes. -/
theorem restartedBays_record : ∃ z, (s.bay b).restarted.Flushed s.clock.minute z ∧ (restartedBays w s).bay b =
    { (z.seed w b).rested s.clock.minute s.ms with
      tagWindow := ((restartedBays w s).bay b).tagWindow, processed := ((restartedBays w s).bay b).processed
      held := ((restartedBays w s).bay b).held } := by
  obtain ⟨u, z, flushed, record, work, e⟩ := restartedBays_bay w s b
  have clock : u.clock = s.clock := by rw [work.clock, restartDiscards_frame]
  have ms : u.ms = s.ms := by rw [work.ms, restartDiscards_frame]
  have rested := rederive_rested b u
  rw [record, clock, ms, ← e] at rested
  exact ⟨z, flushed, rested⟩

/-- An item that neither the flush nor the entry to DOCKED writes comes of the re-derivation alone. -/
theorem restartedBays_item {α : Type} (f : Bay → α)
    (k : ∀ (y : Bay) t p h, f { y with tagWindow := t, processed := p, held := h } = f y) :
    ∃ z, (s.bay b).restarted.Flushed s.clock.minute z ∧
      f ((restartedBays w s).bay b) = f ((z.seed w b).rested s.clock.minute s.ms) := by
  obtain ⟨z, flushed, record⟩ := restartedBays_record w s b
  exact ⟨z, flushed, (congrArg f record).trans (k _ _ _ _)⟩

theorem restartedBays_seeded : SeededAndRederived w b ((restartedBays w s).bay b) := by
  obtain ⟨u, z, -, record, -, e⟩ := restartedBays_bay w s b
  rw [e]
  exact rederive_seeded b u record

theorem Link.isRelease_eq (l : Link) : l.isRelease = endsRelease l := by cases l <;> rfl

/-- A release that the restart ends leaves RESTART_DISCARD (R86). -/
theorem restartedBays_lastOutcome : ((restartedBays w s).bay b).lastOutcome =
    if endsRelease (s.bay b).link then .restartDiscard else .noOutcome := by
  obtain ⟨z, flushed, e⟩ := restartedBays_item w s b (·.lastOutcome) fun _ _ _ _ => rfl
  refine e.trans ((Bay.rested_lastOutcome _ _ _).trans ?_)
  rw [← Link.isRelease_eq]
  exact (congrArg Bay.lastOutcome flushed.frame).trans rfl

theorem restartedBays_alarms : ((restartedBays w s).bay b).alarms = (s.bay b).alarms := by
  obtain ⟨z, flushed, e⟩ := restartedBays_item w s b (·.alarms) fun _ _ _ _ => rfl
  refine e.trans ((Bay.rested_alarms _ _ _).trans ?_)
  exact (congrArg Bay.alarms flushed.frame).trans rfl

/-- A bike that the seeding scan finds present keeps its identity, and its arrival minute where it has one (R17). -/
theorem restartedBays_bike (h : samplePresence w b = .present) :
    ((restartedBays w s).bay b).identity = (s.bay b).identity ∧
    ((restartedBays w s).bay b).arrival = some ((s.bay b).arrival.getD s.clock.minute) := by
  constructor
  · obtain ⟨z, flushed, e⟩ := restartedBays_item w s b (·.identity) fun _ _ _ _ => rfl
    refine e.trans ((Bay.rested_identity _ _ _).trans ((if_pos h).trans ?_))
    exact (congrArg Bay.identity flushed.frame).trans rfl
  · obtain ⟨z, flushed, e⟩ := restartedBays_item w s b (·.arrival) fun _ _ _ _ => rfl
    refine e.trans ((Bay.rested_arrival _ _ _).trans ((if_pos h).trans ?_))
    exact congrArg some flushed.arrival

/-- A return processed before the restart stays processed where the bike is present (R17). -/
theorem restartedBays_processed (h : samplePresence w b = .present) (p : (s.bay b).processed = true) :
    ((restartedBays w s).bay b).processed = true := by
  obtain ⟨u, z, flushed, record, -, e⟩ := restartedBays_bay w s b
  rw [e]
  refine rederive_processed b u ?_ ?_ <;> rw [record]
  · exact h
  · exact flushed.processed p

theorem restartedBays_dealt (st : ((restartedBays w s).bay b).state = .docked)
    (i : ((restartedBays w s).bay b).identity ≠ none) :
    ((restartedBays w s).bay b).processed = true ∨ ((restartedBays w s).bay b).held.isSome := by
  obtain ⟨u, z, -, -, -, e⟩ := restartedBays_bay w s b
  rw [e] at st i ⊢
  exact rederive_dealt b u st i

/-- Every timer of a bay is stopped but the tag window of an entry to DOCKED (R31). -/
theorem restartedBays_timers : ((restartedBays w s).bay b).pendingTag = none ∧ ((restartedBays w s).bay b).takeWindow = none ∧
    ((restartedBays w s).bay b).deadline = .stopped ∧ ((restartedBays w s).bay b).retryDelay = none := by
  obtain ⟨z, flushed, e⟩ := restartedBays_item w s b (fun y => (y.pendingTag, y.takeWindow, y.deadline, y.retryDelay))
    fun _ _ _ _ => rfl
  simp only [Prod.mk.injEq] at e
  obtain ⟨pendingTag, takeWindow, deadline, retryDelay⟩ := e
  obtain ⟨t1, t2, -, t4, t5⟩ := (z.seed w b).rested_timers s.clock.minute s.ms
  exact ⟨pendingTag.trans (t1 ((congrArg Bay.pendingTag flushed.frame).trans rfl)),
    takeWindow.trans (t2 ((congrArg Bay.takeWindow flushed.frame).trans rfl)),
    deadline.trans (t5 ((congrArg Bay.deadline flushed.frame).trans rfl)),
    retryDelay.trans (t4 ((congrArg Bay.retryDelay flushed.frame).trans rfl))⟩

theorem restartedBays_tagWindow : ((restartedBays w s).bay b).tagWindow =
    if ((restartedBays w s).bay b).state = .docked ∧ ((restartedBays w s).bay b).identity = none
      then some (s.ms + 1000 * s.settings.tagWindow) else none := by
  obtain ⟨u, z, flushed, record, work, e⟩ := restartedBays_bay w s b
  have ms : u.ms = s.ms := by rw [work.ms, restartDiscards_frame]
  have settings : u.settings = s.settings := by rw [work.settings, restartDiscards_frame]
  rw [e, ← ms, ← settings]
  refine rederive_tagWindow b u ?_
  rw [record]
  exact (congrArg Bay.tagWindow flushed.frame).trans rfl

theorem restartedBays_lamp (h : (s.bay b).lamp = (s.bay b).state.lamp) :
    ((restartedBays w s).bay b).lamp = ((restartedBays w s).bay b).state.lamp := by
  obtain ⟨z, flushed, record⟩ := restartedBays_record w s b
  have lamp : ((restartedBays w s).bay b).lamp = ((z.seed w b).rested s.clock.minute s.ms).lamp :=
    (congrArg Bay.lamp record).trans rfl
  have state : ((restartedBays w s).bay b).state = ((z.seed w b).rested s.clock.minute s.ms).state :=
    (congrArg Bay.state record).trans rfl
  rw [lamp, state]
  refine Bay.rested_lamp _ _ _ ?_
  have zl : z.lamp = (s.bay b).lamp := (congrArg Bay.lamp flushed.frame).trans rfl
  have zs : z.state = (s.bay b).state := (congrArg Bay.state flushed.frame).trans rfl
  exact zl.trans (h.trans (by rw [← zs]; rfl))

end Record

/-! ### The stores of a warm restart -/

section Stores
variable (w : SenseWord) (s : State)

theorem restartedBays_queue : (restartedBays w s).queue = restQueue w s.nextOrder := by
  have empty : (flush (restartDiscards s)).queue = [] := by rw [flush_queue, restartDiscards_queue]
  have order : (flush (restartDiscards s)).nextOrder = s.nextOrder := by rw [flush_frame, restartDiscards_frame]
  rw [restartedBays, rederiveAll_seedScan_queue w _ empty, order]

theorem restartedBays_spent : (restartedBays w s).spent = s.spent.filter fun e => decide (e.state = .finalized) := by
  have each (l : List BayIx) (t : State) : (rederiveEach l t).spent = t.spent := by
    induction l generalizing t with
    | nil => rfl
    | cons b rest ih => rw [rederiveEach_cons, ih, rederive_frame]
  rw [restartedBays, rederiveAll_each, each]
  simp only [seedScan, State.mapBays]
  rw [flush_frame, restartDiscards_frame]

/-- The journal grows at its back, and its high-water flag stands but for a rise to 192 (R134). -/
theorem restartedBays_journal : s.journal <+: (restartedBays w s).journal ∧ (restartedBays w s).highWaterArmed =
    highWaterAfter s.highWaterArmed s.journal.length (restartedBays w s).journal.length := by
  obtain ⟨n, f, writes, -, -, returns⟩ := restartedBays_returns w s
  have before : (restartDiscards s).journal = s.journal := by rw [restartDiscards_frame]
  have armed : (restartDiscards s).highWaterArmed = s.highWaterArmed := by rw [restartDiscards_frame]
  have front := writes.journal
  have high := writes.highWater
  rw [before] at front high
  rw [armed] at high
  exact ⟨front.trans returns.journal, by
    rw [returns.highWater, high, highWaterAfter_trans _ front.length_le returns.journal.length_le]⟩

/-- Only OPEN rentals stand after a warm restart (R86). -/
theorem restartedBays_rentals (k : Fin 64) (r : Rental) (h : (restartedBays w s).rentals[k] = some r) :
    s.rentals[k] = some r ∧ r.stage = .opened := by
  obtain ⟨n, f, -, rentals, -, returns⟩ := restartedBays_returns w s
  have stood := returns.rentals k r h
  rw [rentals] at stood
  exact (restartDiscards_rentals s k r).mp stood

/-- An OPEN rental stands after a warm restart, or its bike is returned in it (R86, R95). -/
theorem restartedBays_opened (k : Fin 64) (r : Rental) (h : s.rentals[k] = some r) (o : r.stage = .opened) :
    (restartedBays w s).rentals[k] = some r ∨ RentalReturned s (restartedBays w s) r := by
  obtain ⟨n, f, writes, rentals, bays, returns⟩ := restartedBays_returns w s
  have before : (restartDiscards s).journal = s.journal := by rw [restartDiscards_frame]
  have stood : f.rentals[k] = some r := by rw [rentals]; exact (restartDiscards_rentals s k r).mpr ⟨h, o⟩
  rcases returns.returned k r stood with stands | ⟨x, i, m, bike, rider, bay, identity, named, fresh⟩
  · exact .inl stands
  · have flushed := bays x.bay
    rw [restartDiscards_bay] at flushed
    refine .inr ⟨x, i, ?_, bike, rider, bay, ?_, named, ?_⟩
    · rw [← before]
      exact Returns.mem_drop_later writes.journal returns.journal m
    · have same : (f.bay x.bay).identity = (s.bay x.bay).identity := (congrArg Bay.identity flushed.frame).trans rfl
      exact same.symm.trans identity
    · cases p : (s.bay x.bay).processed with
      | false => rfl
      | true =>
        rw [flushed.processed p] at fresh
        cases fresh

/-- A held return stands after a warm restart, or is in the journal (R109, R130). -/
theorem restartedBays_held (b : BayIx) (h : ForeignReturn) (e : (s.bay b).held = some h) :
    ((restartedBays w s).bay b).held = some h ∨ .foreignReturn h ∈ (restartedBays w s).journal.drop s.journal.length := by
  obtain ⟨n, f, writes, -, -, returns⟩ := restartedBays_returns w s
  have before : (restartDiscards s).journal = s.journal := by rw [restartDiscards_frame]
  rcases writes.held b h (by rw [restartDiscards_bay]; exact e) with stands | gone
  · exact .inl (returns.held b h stands)
  · right
    rw [← before]
    exact Returns.mem_drop writes.journal returns.journal gone

/-- The held order keeps its order: written returns leave its front, and new ones join its back (R100, R130). -/
theorem restartedBays_heldOrder : ∃ n new, (restartedBays w s).heldOrder = s.heldOrder.drop n ++ new ∧
    (∀ b ∈ new, ((restartedBays w s).bay b).held.isSome) ∧
    ∀ b ∈ s.heldOrder.take n, ∀ h, (s.bay b).held = some h →
      .foreignReturn h ∈ (restartedBays w s).journal.drop s.journal.length := by
  obtain ⟨n, f, writes, -, -, returns⟩ := restartedBays_returns w s
  have before : (restartDiscards s).journal = s.journal := by rw [restartDiscards_frame]
  have order : (restartDiscards s).heldOrder = s.heldOrder := by rw [restartDiscards_frame]
  obtain ⟨new, back, held⟩ := returns.heldOrder
  refine ⟨n, new, by rw [back, writes.heldOrder, order], held, fun b m h e => ?_⟩
  rw [← before]
  exact Returns.mem_drop writes.journal returns.journal
    (writes.written b (by rw [order]; exact m) h (by rw [restartDiscards_bay]; exact e))

end Stores

/-! ### The warm restart -/

/-- The select chain carries no channel after a refresh with every channel IDLE (R144). -/
theorem afterRefresh_parted {s : State} (h : s.channels = Vector.replicate 4 idleChannel) (b : BayIx) :
    (s.afterRefresh.chain[b]).channel = none := by
  simp [State.afterRefresh, h, idleChannel]

/-- A warm restart leaves what R31 says of every item. -/
theorem warmRestart_warmly (k : RestartKind) (w : SenseWord) (s : State) : WarmlyRestarted k w s (warmRestart k w s) := by
  have work := restartedBays_work w s
  have discards := restartDiscards_frame s
  have channels : (restartedBays w s).channels = Vector.replicate 4 idleChannel := by rw [work.channels, restartDiscards_channels]
  have chain : (restartedBays w s).chain = s.chain := by rw [work.chain, discards]
  have ms : (restartedBays w s).ms = s.ms := by rw [work.ms, discards]
  have kept : (restartedBays w s).clock = s.clock ∧ (restartedBays w s).settings = s.settings ∧ (restartedBays w s).keys = s.keys
      ∧ (restartedBays w s).tariffs = s.tariffs ∧ (restartedBays w s).deny = s.deny
      ∧ (restartedBays w s).latchProfile = s.latchProfile ∧ (restartedBays w s).unlatchProfile = s.unlatchProfile
      ∧ (restartedBays w s).thresholds = s.thresholds ∧ (restartedBays w s).backupValid = s.backupValid := by
    rw [work, discards]
    exact ⟨rfl, rfl, rfl, rfl, rfl, rfl, rfl, rfl, rfl⟩
  have spent := restartedBays_spent w s
  have rentals := restartedBays_rentals w s
  have opened := restartedBays_opened w s
  have journal := restartedBays_journal w s
  have held := restartedBays_held w s
  have heldOrder := restartedBays_heldOrder w s
  have queue := restartedBays_queue w s
  have seeded := restartedBays_seeded w s
  have outcomes := restartedBays_lastOutcome w s
  have alarms := restartedBays_alarms w s
  have bikes := restartedBays_bike w s
  have processed := restartedBays_processed w s
  have dealt := restartedBays_dealt w s
  have timers := restartedBays_timers w s
  have windows := restartedBays_tagWindow w s
  have lamps := restartedBays_lamp w s
  rw [warmRestart_eq]
  generalize restartedBays w s = t at *
  exact {
    kept := kept, spent := spent, rentals := rentals, openKept := opened, journal := journal.1, heldKept := held
    heldOrder := heldOrder, highWater := journal.2, cursor := rfl, queue := queue
    channels := fun c => by simp [channels, idleChannel]
    chain := chain
    parted := fun b => afterRefresh_parted channels b
    supply := ⟨rfl, rfl, rfl⟩, link := ⟨rfl, rfl⟩, station := rfl
    causes := fun b => by simp [restartChanges, noBayCauses, BayCauses.add]
    bays := seeded, outcomes := outcomes, alarms := alarms
    identities := fun b h => ⟨(bikes b h).1, (bikes b h).2, processed b h⟩
    returns := dealt, timers := timers
    tagWindows := fun b => by rw [ms]; exact windows b
    lamps := lamps }

/-- A warm restart leaves the counts and what the supplies and the analog scanner hold (R162, R178). -/
theorem warmRestart_stands (k : RestartKind) (w : SenseWord) (s : State) : (warmRestart k w s).mainPower = s.mainPower ∧
    (warmRestart k w s).ms = s.ms ∧ (warmRestart k w s).scanSlot = s.scanSlot ∧
    (warmRestart k w s).currents = s.currents ∧ (warmRestart k w s).battery = s.battery := by
  have work := restartedBays_work w s
  have discards := restartDiscards_frame s
  rw [warmRestart_eq]
  generalize restartedBays w s = t at *
  rw [work, discards]
  exact ⟨rfl, rfl, rfl, rfl, rfl⟩

/-- A warm restart is judged by the state before it but for the counts, the marks of the scans and the reply. -/
theorem WarmlyRestarted.of_before {k : RestartKind} {w : SenseWord} {s t u : State} (h : WarmlyRestarted k w t u)
    (e : t = { s with
      mainPower := t.mainPower, ms := t.ms, msRemainder := t.msRemainder, refreshDue := t.refreshDue
      evaluationDue := t.evaluationDue, scanSlot := t.scanSlot, reply := t.reply }) : WarmlyRestarted k w s u := by
  rw [e] at h
  exact ⟨h.kept, h.spent, h.rentals, h.openKept, h.journal, h.heldKept, h.heldOrder, h.highWater, h.cursor, h.queue, h.channels,
    h.chain, h.parted, h.supply, h.link, h.station, h.causes, h.bays, h.outcomes, h.alarms, h.identities, h.returns, h.timers,
    h.tagWindows, h.lamps⟩

/-- The end of the reply to RESTART is a warm restart (R137). -/
theorem replyComplete_restart {s : State} {r : Reply} (w : SenseWord) (h : s.works) (hr : s.reply = some r)
    (k : r.kind = 0x83) : exec (.replyComplete w) s = .next (warmRestart .restart w { s with reply := none }) := by
  refine congrArg Host.Outcome.next ?_
  unfold whenRunning
  simp only [h.running, if_true, hr, k]

/-- Settles O13, by what a warm restart leaves of the state without the reply. -/
theorem restartIsMadeAfterItsReply : Obligations.RestartIsMadeAfterItsReply := by
  intro s w
  refine ⟨fun h => congrArg Host.Outcome.next (takeRequest_answer 0x03 _ s h [0] rfl), fun r h hr k => ?_⟩
  obtain ⟨-, ms, slot, currents, battery⟩ := warmRestart_stands .restart w { s with reply := none }
  exact ⟨_, replyComplete_restart w h hr k, (warmRestart_warmly .restart w { s with reply := none }).of_before rfl, ms, slot,
    currents, battery⟩

/-- Settles O60: the restart of the part as main power finds it. -/
theorem powerReturnRestartsThePart : Obligations.PowerReturnRestartsThePart := by
  intro s w
  have returned (t : State) (e : powerReturn w s = t) : exec (.mainPowerReturn w) s = .next t := congrArg Host.Outcome.next e
  refine ⟨fun h => returned s (powerReturn_present w s h), fun m valid held => ?_, fun m lost => ?_⟩
  · obtain ⟨power, ms, slot, -, -⟩ := warmRestart_stands .resume w (poweredUp s)
    have resumed : powerReturn w s = warmRestart .resume w (poweredUp s) := by
      rw [powerReturn_absent w s m, if_pos ⟨valid, by rw [held]; decide⟩]
    exact ⟨_, returned _ resumed, (warmRestart_warmly .resume w (poweredUp s)).of_before rfl, power, ms, slot⟩
  · obtain ⟨power, held, slot, -, -⟩ := coldReset_stands w (poweredUp s)
    have reset : powerReturn w s = coldReset w (poweredUp s) := by
      rw [powerReturn_absent w s m, if_neg]
      rintro ⟨valid, free⟩
      rcases lost with lost | lost
      · rw [lost] at valid; cases valid
      · exact free lost
    exact ⟨_, returned _ reset, coldReset_coldly w _, power, held, slot⟩

end Sys2Proof.Machine
end

section
/-! The key store: KEY_LOAD, KEY_DROP and the map of present slots (O23). -/

namespace Sys2Proof.Machine

/-! ### The slot a request names -/

theorem keySlotOf?_none {n : Byte} (h : 3 < n.toNat) : keySlotOf? n = none := dif_neg (by omega)

theorem keySlotOf?_some {n : Byte} {k : Fin 4} (h : n.toNat = k.val) : keySlotOf? n = some k := by
  rw [keySlotOf?, dif_pos (by omega)]
  exact congrArg some (Fin.ext h)

/-! ### The map of present slots -/

/-- Four flags as the low bits of a byte, the first in bit 0. -/
theorem fourBits_byte (p q r t : Bool) :
    let m := BitVec.ofNat 8 (bit 0 p + bit 1 q + bit 2 r + bit 3 t)
    m.toNat < 16 ∧ m.getLsbD 0 = p ∧ m.getLsbD 1 = q ∧ m.getLsbD 2 = r ∧ m.getLsbD 3 = t := by
  revert p q r t; decide

/-- The byte of the map is below 16 and holds slot j in bit j (R39, log 35). -/
theorem keyMap_byte (s : State) : (BitVec.ofNat 8 s.keyMap).toNat < 16 ∧
    ∀ j : Fin 4, (BitVec.ofNat 8 s.keyMap).getLsbD j.val = (s.keys[j]).isSome := by
  obtain ⟨below, slot0, slot1, slot2, slot3⟩ :=
    fourBits_byte (s.keys[0]).isSome (s.keys[1]).isSome (s.keys[2]).isSome (s.keys[3]).isSome
  refine ⟨below, fun j => ?_⟩
  match j with
  | 0 => exact slot0
  | 1 => exact slot1
  | 2 => exact slot2
  | 3 => exact slot3

/-- Which slots are present once slot `k` is set: that slot as it was set, every other as before. -/
theorem setKey_isSome (s : State) (k j : Fin 4) (v : Option (BitVec 128)) :
    ((s.setKey k v).keys[j]).isSome = if j = k then v.isSome else (s.keys[j]).isSome := by
  simp only [State.setKey, Fin.getElem_fin, Vector.getElem_set, Fin.ext_iff, eq_comm (a := k.val)]
  exact apply_ite Option.isSome _ _ _

/-! ### The requests -/

theorem execKeyLoad_range (n : Byte) (key : BitVec 128) (s : State) (hs : s.accepting) (h : 3 < n.toNat) :
    execKeyLoad n key s = .next (s.answered 0x98 [1]) :=
  congrArg Host.Outcome.next (takeRequest_answer 0x18 _ s hs _ (by rw [keySlotOf?_none h]; rfl))

theorem execKeyDrop_range (n : Byte) (s : State) (hs : s.accepting) (h : 3 < n.toNat) :
    execKeyDrop n s = .next (s.answered 0x99 [1]) :=
  congrArg Host.Outcome.next (takeRequest_answer 0x19 _ s hs _ (by rw [keySlotOf?_none h]; rfl))

/-- KEY_LOAD sets its slot and answers the map (R39). -/
theorem execKeyLoad_slot {n : Byte} {k : Fin 4} (key : BitVec 128) {s : State} (hs : s.accepting) (h : n.toNat = k.val) :
    execKeyLoad n key s = .next ((s.setKey k (some key)).answered 0x98
      [0, BitVec.ofNat 8 (s.setKey k (some key)).keyMap]) :=
  congrArg Host.Outcome.next (takeRequest_done 0x18 hs (t := s.hunting.setKey k (some key)) (by rw [keySlotOf?_some h]; rfl))

/-- KEY_DROP makes its slot absent and answers whether it was present, and the map (R40). -/
theorem execKeyDrop_slot {n : Byte} {k : Fin 4} {s : State} (hs : s.accepting) (h : n.toNat = k.val) :
    execKeyDrop n s = .next ((s.setKey k none).answered 0x99
      [0, if (s.keys[k]).isSome then 1 else 0, BitVec.ofNat 8 (s.setKey k none).keyMap]) := by
  refine congrArg Host.Outcome.next (takeRequest_done 0x19 hs (t := s.hunting.setKey k none) ?_)
  rw [keySlotOf?_some h]
  simp only [beFlag_eq]
  rfl

/-- Settles O23: the two refusals, and each map as the present slots of the state with the slot set. -/
theorem keyLoadAndDrop : Obligations.KeyLoadAndDrop := by
  intro s n key hs
  refine ⟨fun h => ⟨execKeyLoad_range n key s hs h, execKeyDrop_range n s hs h⟩, fun k h =>
    ⟨⟨_, (keyMap_byte _).1, fun j => ?_, execKeyLoad_slot key hs h⟩,
      ⟨_, (keyMap_byte _).1, fun j => ?_, execKeyDrop_slot hs h⟩⟩⟩
  all_goals
    rw [(keyMap_byte _).2, setKey_isSome]
    by_cases e : j = k <;> simp [e]

end Sys2Proof.Machine
end

section
/-! The check code: its rounds in the words of R42, and that each round can be undone (O25). -/

namespace Sys2Proof.Machine

/-! ### The computation -/

/-- The key words are the four quarters of the key, the first uppermost, taken in turn (R41, R42). -/
theorem keyWord_append (k0 k1 k2 k3 : BitVec 32) (i : Nat) :
    keyWord (k0 ++ k1 ++ k2 ++ k3) i = if i % 4 = 0 then k0 else if i % 4 = 1 then k1 else if i % 4 = 2 then k2 else k3 := by
  have turn : i % 4 < 4 := Nat.mod_lt i (by decide)
  have below (a : BitVec 64) : (a ++ k2 ++ k3).extractLsb' 32 32 = k2 :=
    (BitVec.extractLsb'_append_eq_of_le (by decide)).trans BitVec.extractLsb'_append_eq_right
  have above {start : Nat} (h : 64 ≤ start) :
      (k0 ++ k1 ++ k2 ++ k3).extractLsb' start 32 = (k0 ++ k1).extractLsb' (start - 64) 32 :=
    (BitVec.extractLsb'_append_eq_of_le (Nat.le_of_add_left_le h)).trans
      (BitVec.extractLsb'_append_eq_of_le (Nat.le_sub_of_add_le h))
  unfold keyWord
  generalize i % 4 = r at turn
  match r with
  | 0 => exact (above (by decide)).trans BitVec.extractLsb'_append_eq_left
  | 1 => exact (above (by decide)).trans BitVec.extractLsb'_append_eq_right
  | 2 => exact below _
  | 3 => exact BitVec.extractLsb'_append_eq_right

/-- A round in the numbers of R42: the byte as a value, and the quotient by 8192. -/
theorem checkRound_eq (word : BitVec 32) (b : Byte) (acc : BitVec 32) :
    checkRound word b acc =
      let a := acc * 31 + BitVec.ofNat 32 b.toNat + word
      a ^^^ BitVec.ofNat 32 (a.toNat / 8192) := by
  have quotient (a : BitVec 32) : BitVec.ofNat 32 (a.toNat / 8192) = a >>> 13 :=
    BitVec.eq_of_toNat_eq (by simp [Nat.shiftRight_eq_div_pow]; omega)
  simp only [quotient, BitVec.ofNat_toNat]
  rfl

/-- The rounds are one fold over the bytes with their places (R42). -/
theorem checkRounds_eq_foldl (key : BitVec 128) (bytes : List Byte) (n : Nat) (acc : BitVec 32) :
    checkRounds key n bytes acc =
      (bytes.zipIdx n).foldl (fun acc p => checkRound (keyWord key p.2) p.1 acc) acc := by
  induction bytes generalizing n acc with
  | nil => rfl
  | cons b rest ih => rw [checkRounds, ih]; rfl

/-! ### Each round can be undone -/

/-- The exclusive-or with the quotient by 8192 loses nothing: the difference of two values with one image equals its own
quotient by 8192, so it is 0. -/
theorem xor_shiftRight_inj {x y : BitVec 32} (h : x ^^^ x >>> 13 = y ^^^ y >>> 13) : x = y := by
  have fixed : x ^^^ y = (x ^^^ y) >>> 13 := by
    have paired : (x ^^^ y) ^^^ (x >>> 13 ^^^ y >>> 13) = (x ^^^ x >>> 13) ^^^ (y ^^^ y >>> 13) := by ac_rfl
    rw [BitVec.ushiftRight_xor_distrib, ← BitVec.xor_eq_zero_iff, paired, h, BitVec.xor_self]
  have small : (x ^^^ y).toNat = (x ^^^ y).toNat / 8192 := by
    simpa [Nat.shiftRight_eq_div_pow] using congrArg BitVec.toNat fixed
  exact BitVec.xor_eq_zero_iff.mp (BitVec.eq_of_toNat_eq (by simp only [BitVec.toNat_ofNat]; omega))

/-- A round on one byte keeps two accumulators apart: 31 is odd, and 0xBDEF7BDF is its inverse modulo 2^32. -/
theorem checkRound_inj_acc {word : BitVec 32} {b : Byte} {x y : BitVec 32}
    (h : checkRound word b x = checkRound word b y) : x = y := by
  have sum : x * 31 + b.zeroExtend 32 + word = y * 31 + b.zeroExtend 32 + word := xor_shiftRight_inj h
  have product : x * 31 = y * 31 := (BitVec.add_left_inj _).mp ((BitVec.add_left_inj _).mp sum)
  have undo (a : BitVec 32) : a * 31 * 0xBDEF7BDF = a := by rw [BitVec.mul_assoc]; exact BitVec.mul_one a
  rw [← undo x, product, undo y]

/-- A round on one accumulator keeps two bytes apart. -/
theorem checkRound_inj_byte {word : BitVec 32} {b c : Byte} {acc : BitVec 32}
    (h : checkRound word b acc = checkRound word c acc) : b = c := by
  have sum : acc * 31 + b.zeroExtend 32 + word = acc * 31 + c.zeroExtend 32 + word := xor_shiftRight_inj h
  have value : b.zeroExtend 32 = c.zeroExtend 32 := (BitVec.add_right_inj _).mp ((BitVec.add_left_inj _).mp sum)
  bv_omega

/-- The rounds over the same bytes keep two accumulators apart. -/
theorem checkRounds_inj_acc {key : BitVec 128} (bytes : List Byte) {n : Nat} {x y : BitVec 32}
    (h : checkRounds key n bytes x = checkRounds key n bytes y) : x = y := by
  induction bytes generalizing n x y with
  | nil => exact h
  | cons b rest ih => exact checkRound_inj_acc (ih h)

/-- The rounds keep apart two lists of bytes of one length that agree at every place but one. -/
theorem checkRounds_inj_bytes {key : BitVec 128} {i : Nat} {l m : List Byte} {n : Nat} {acc : BitVec 32}
    (lengths : l.length = m.length) (agree : ∀ j, j ≠ i → l[j]? = m[j]?)
    (h : checkRounds key n l acc = checkRounds key n m acc) : l = m := by
  induction l generalizing i m n acc with
  | nil => exact (List.length_eq_zero_iff.mp lengths.symm).symm
  | cons b l ih =>
    obtain _ | ⟨c, m⟩ := m
    · cases lengths
    have rest : l.length = m.length := Nat.succ.inj lengths
    cases i with
    | zero =>
      have tails : l = m := List.ext_getElem? fun j => agree (j + 1) (Nat.succ_ne_zero j)
      subst tails
      rw [checkRound_inj_byte (checkRounds_inj_acc l h)]
    | succ i =>
      have heads : b = c := Option.some.inj (agree 0 (Nat.succ_ne_zero i).symm)
      subst heads
      rw [ih rest (fun j hj => agree (j + 1) fun e => hj (Nat.succ.inj e)) h]

/-- Settles O25: the rounds as a fold, and the rounds undone from the closing exclusive-or back to the byte that differs. -/
theorem checkCodeComputation : Obligations.CheckCodeComputation := by
  refine ⟨fun k0 k1 k2 k3 t => ?_, fun key t u i differ agree same => ?_⟩
  · simp only [checkCode, checkRounds_eq_foldl, checkRound_eq, keyWord_append]
    rfl
  · exact differ (checkRounds_inj_bytes rfl agree ((BitVec.xor_left_inj _).mp same))

end Sys2Proof.Machine
end

section
/-! The deny list as an ascending list: its search, its position, a replacement and an insertion (R50, R55). -/

namespace Sys2Proof.Machine

/-- A deny list in strictly ascending rider order (R50). -/
def Ascending (l : List DenyEntry) : Prop := l.Pairwise fun x y => x.rider < y.rider

/-! ### An entry at its place -/

section Place
variable {l r : List DenyEntry} {e : DenyEntry} (h : Ascending (l ++ e :: r))
include h

theorem Ascending.around : (∀ x ∈ l, x.rider < e.rider) ∧ ∀ x ∈ r, e.rider < x.rider := by
  obtain ⟨-, after, before⟩ := List.pairwise_append.mp h
  exact ⟨fun x m => before x m e List.mem_cons_self, (List.pairwise_cons.mp after).1⟩

/-- The search for a rider finds its entry. -/
theorem Ascending.find : (l ++ e :: r).find? (fun x => decide (x.rider = e.rider)) = some e := by
  have before : l.find? (fun x => decide (x.rider = e.rider)) = none :=
    List.find?_eq_none.mpr fun x m => by simpa using (h.around.1 x m).ne
  rw [List.find?_append, before, List.find?_cons_of_pos (by simp)]
  rfl

/-- The entries of lower riders are those before it. -/
theorem Ascending.lower : (l ++ e :: r).filter (fun x => decide (x.rider < e.rider)) = l := by
  have before : l.filter (fun x => decide (x.rider < e.rider)) = l :=
    List.filter_eq_self.mpr fun x m => by simpa using h.around.1 x m
  have after : (e :: r).filter (fun x => decide (x.rider < e.rider)) = [] := by
    rw [List.filter_eq_nil_iff]
    intro x m
    rcases List.mem_cons.mp m with rfl | m
    · simp
    · simpa using (h.around.2 x m).le
  rw [List.filter_append, before, after, List.append_nil]

/-- The entries of other riders are those around it. -/
theorem Ascending.others : (l ++ e :: r).filter (fun x => decide (x.rider ≠ e.rider)) = l ++ r := by
  have before : l.filter (fun x => decide (x.rider ≠ e.rider)) = l :=
    List.filter_eq_self.mpr fun x m => by simpa using (h.around.1 x m).ne
  have after : r.filter (fun x => decide (x.rider ≠ e.rider)) = r :=
    List.filter_eq_self.mpr fun x m => by simpa using (h.around.2 x m).ne'
  rw [List.filter_append, List.filter_cons_of_neg (by simp), before, after]

end Place

/-! ### Replacement and insertion -/

/-- A replaced entry keeps every rider at its place (R55). -/
theorem updateDeny_riders (e : DenyEntry) (l : List DenyEntry) : (updateDeny e l).map (·.rider) = l.map (·.rider) := by
  rw [updateDeny, List.map_map]
  refine List.map_congr_left fun x _ => ?_
  simp only [Function.comp_apply]
  split
  · exact Eq.symm ‹_›
  · rfl

theorem ascending_iff_riders (l : List DenyEntry) : Ascending l ↔ (l.map (·.rider)).Pairwise (· < ·) :=
  List.pairwise_map.symm

theorem Ascending.update {l : List DenyEntry} (h : Ascending l) (e : DenyEntry) : Ascending (updateDeny e l) := by
  rw [ascending_iff_riders, updateDeny_riders, ← ascending_iff_riders]
  exact h

theorem mem_updateDeny {e x : DenyEntry} {l : List DenyEntry} (m : x ∈ updateDeny e l) : x = e ∨ x ∈ l := by
  obtain ⟨y, my, rfl⟩ := List.mem_map.mp m
  split
  · exact .inl rfl
  · exact .inr my

/-- An insertion adds its entry and nothing else. -/
theorem insertDeny_perm (e : DenyEntry) (l : List DenyEntry) : (insertDeny e l).Perm (e :: l) := by
  induction l with
  | nil => exact .refl _
  | cons x rest ih =>
    unfold insertDeny
    split
    · exact .refl _
    · exact (ih.cons x).trans (.swap e x rest)

/-- A new rider's entry is inserted at its place (R50). -/
theorem Ascending.insert {l : List DenyEntry} (h : Ascending l) {e : DenyEntry} (new : ∀ x ∈ l, x.rider ≠ e.rider) :
    Ascending (insertDeny e l) := by
  induction l with
  | nil => exact List.pairwise_singleton _ _
  | cons x rest ih =>
    obtain ⟨first, later⟩ := List.pairwise_cons.mp h
    unfold insertDeny
    split
    · next lower =>
      refine List.pairwise_cons.mpr ⟨fun y m => ?_, h⟩
      rcases List.mem_cons.mp m with rfl | m
      · exact lower
      · exact lower.trans (first y m)
    · next higher =>
      have above : x.rider < e.rider := by have := new x List.mem_cons_self; omega
      refine List.pairwise_cons.mpr ⟨fun y m => ?_, ih later fun y m => new y (List.mem_cons_of_mem x m)⟩
      rcases List.mem_cons.mp ((insertDeny_perm e rest).mem_iff.mp m) with rfl | m
      · exact above
      · exact first y m

theorem denyEntry?_isSome (s : State) (rider : Nat) :
    (s.denyEntry? rider).isSome = true ↔ ∃ x ∈ s.deny, x.rider = rider := by
  simp [State.denyEntry?, List.find?_isSome]

end Sys2Proof.Machine
end

section
/-! The spent list and the CASUAL releases it stands for (R59 to R63). -/

namespace Sys2Proof.Machine

/-- No two spent entries share rider and serial (R59). -/
def SpentOnce (l : List SpentEntry) : Prop := l.Pairwise fun x y => x.rider ≠ y.rider ∨ x.serial ≠ y.serial

/-- A slot holds a CASUAL release, PENDING or RELEASED, of this rider and serial. -/
def CasualFor (slot : Option Rental) (rider serial : Nat) : Prop :=
  ∃ r, slot = some r ∧ r.holdsSpent ∧ r.rider = rider ∧ r.serial = serial

/-- Slot `k` of the rental table holds a CASUAL release of this rider and serial. -/
def State.casualAt (s : State) (k : Fin 64) (rider serial : Nat) : Prop := CasualFor s.rentals[k] rider serial

/-- A HELD spent entry carries this rider and serial. -/
def State.heldFor (s : State) (rider serial : Nat) : Prop :=
  ∃ e ∈ s.spent, e.state = .held ∧ e.rider = rider ∧ e.serial = serial

theorem spentKept_iff (s : State) : SpentKept s ↔ SpentOnce s.spent ∧
    (∀ rider serial, s.heldFor rider serial ↔ ∃ k, s.casualAt k rider serial) ∧
    ∀ j k rider serial, s.casualAt j rider serial → s.casualAt k rider serial → j = k := by
  constructor
  · intro h
    refine ⟨h.once, fun rider serial => ⟨?_, ?_⟩, ?_⟩
    · rintro ⟨e, m, held, rfl, rfl⟩
      obtain ⟨k, r, hr⟩ := h.hasRental e m held
      exact ⟨k, r, hr⟩
    · rintro ⟨k, r, hr, casual, rfl, rfl⟩
      exact h.hasEntry k r hr casual
    · rintro j k _ _ ⟨r, hr, cr, rfl, rfl⟩ ⟨x, hx, cx, rider, serial⟩
      exact h.oneRental j k r x hr hx cr cx rider.symm serial.symm
  · rintro ⟨once, pairs, one⟩
    refine ⟨once, fun k r hr casual => (pairs _ _).mpr ⟨k, r, hr, casual, rfl, rfl⟩, fun e m held => ?_,
      fun j k r x hr hx cr cx rider serial =>
        one j k r.rider r.serial ⟨r, hr, cr, rfl, rfl⟩ ⟨x, hx, cx, rider.symm, serial.symm⟩⟩
    obtain ⟨k, r, hr⟩ := (pairs e.rider e.serial).mp ⟨e, m, held, rfl, rfl⟩
    exact ⟨k, r, hr⟩

/-! ### How releases and their entries may change together -/

section Together
variable {s t : State} (h : SpentKept s) (once : SpentOnce t.spent)
include h once

/-- The HELD entries and the CASUAL releases stand. -/
theorem SpentKept.stand (entries : ∀ a c, t.heldFor a c ↔ s.heldFor a c)
    (releases : ∀ j a c, t.casualAt j a c ↔ s.casualAt j a c) : SpentKept t := by
  obtain ⟨-, pairs, one⟩ := (spentKept_iff s).mp h
  refine (spentKept_iff t).mpr ⟨once, fun a c => ?_, fun i j a c hi hj => ?_⟩
  · simp only [entries, releases, pairs]
  · exact one i j a c ((releases i a c).mp hi) ((releases j a c).mp hj)

/-- A release ends, and its entry is HELD no more (R61, R62). -/
theorem SpentKept.ended {k : Fin 64} {rider serial : Nat} (release : s.casualAt k rider serial)
    (entries : ∀ a c, t.heldFor a c ↔ s.heldFor a c ∧ ¬ (a = rider ∧ c = serial))
    (releases : ∀ j a c, t.casualAt j a c ↔ s.casualAt j a c ∧ j ≠ k) : SpentKept t := by
  obtain ⟨-, pairs, one⟩ := (spentKept_iff s).mp h
  refine (spentKept_iff t).mpr ⟨once, fun a c => ?_, fun i j a c hi hj => ?_⟩
  · simp only [entries, releases, pairs]
    constructor
    · rintro ⟨⟨j, hj⟩, other⟩
      refine ⟨j, hj, fun same => other ?_⟩
      obtain ⟨r, hr, -, rfl, rfl⟩ := release
      obtain ⟨x, hx, -, rfl, rfl⟩ := hj
      rw [same, hr] at hx
      cases hx
      exact ⟨rfl, rfl⟩
    · rintro ⟨j, hj, ne⟩
      refine ⟨⟨j, hj⟩, ?_⟩
      rintro ⟨rfl, rfl⟩
      exact ne (one j k _ _ hj release)
  · exact one i j a c ((releases i a c).mp hi).1 ((releases j a c).mp hj).1

/-- A release begins with a HELD entry of its own (R60). -/
theorem SpentKept.begun {k : Fin 64} {rider serial : Nat} (new : ¬ s.heldFor rider serial)
    (entries : ∀ a c, t.heldFor a c ↔ s.heldFor a c ∨ a = rider ∧ c = serial)
    (releases : ∀ j a c, t.casualAt j a c ↔ s.casualAt j a c ∨ j = k ∧ a = rider ∧ c = serial) : SpentKept t := by
  obtain ⟨-, pairs, one⟩ := (spentKept_iff s).mp h
  refine (spentKept_iff t).mpr ⟨once, fun a c => ?_, fun i j a c hi hj => ?_⟩
  · simp only [entries, releases, pairs]
    constructor
    · rintro (⟨j, hj⟩ | same)
      · exact ⟨j, .inl hj⟩
      · exact ⟨k, .inr ⟨rfl, same⟩⟩
    · rintro ⟨j, hj | ⟨-, same⟩⟩
      · exact .inl ⟨j, hj⟩
      · exact .inr same
  · rcases (releases i a c).mp hi with hi | ⟨hi, ra, rc⟩ <;> rcases (releases j a c).mp hj with hj | ⟨hj, qa, qc⟩
    · exact one i j a c hi hj
    · exact absurd ((pairs rider serial).mpr ⟨i, qa ▸ qc ▸ hi⟩) new
    · exact absurd ((pairs rider serial).mpr ⟨j, ra ▸ rc ▸ hj⟩) new
    · exact hi.trans hj.symm

end Together

/-! ### The rental table -/

theorem casualAt_setRental (s : State) (k j : Fin 64) (slot : Option Rental) (a c : Nat) :
    (s.setRental k slot).casualAt j a c ↔ if j = k then CasualFor slot a c else s.casualAt j a c := by
  split
  · next e => rw [e, State.casualAt, Fin.getElem_fin, State.setRental_get_self]
  · next e => rw [State.casualAt, State.setRental_get_ne s k j slot e]; rfl

/-- A slot that holds the same release before and after leaves the releases of the table. -/
theorem casualAt_setRental_same {s : State} {k : Fin 64} {slot : Option Rental}
    (same : ∀ a c, CasualFor slot a c ↔ s.casualAt k a c) (j : Fin 64) (a c : Nat) :
    (s.setRental k slot).casualAt j a c ↔ s.casualAt j a c := by
  rw [casualAt_setRental]
  split
  · next e => rw [e, same]
  · rfl

/-- A slot that holds no release afterwards takes its own from the table. -/
theorem casualAt_setRental_ends {s : State} {k : Fin 64} {slot : Option Rental} (ends : ∀ a c, ¬ CasualFor slot a c)
    (j : Fin 64) (a c : Nat) : (s.setRental k slot).casualAt j a c ↔ s.casualAt j a c ∧ j ≠ k := by
  rw [casualAt_setRental]
  split
  · next e => exact ⟨fun h => absurd h (ends a c), fun h => absurd e h.2⟩
  · next e => exact (and_iff_left e).symm

theorem not_casualFor_none (a c : Nat) : ¬ CasualFor none a c := by
  rintro ⟨r, e, -⟩
  cases e

theorem casualFor_some {r : Rental} {a c : Nat} : CasualFor (some r) a c ↔ r.holdsSpent ∧ r.rider = a ∧ r.serial = c := by
  simp [CasualFor]

theorem not_casualFor_some {r : Rental} (h : ¬ r.holdsSpent) (a c : Nat) : ¬ CasualFor (some r) a c := by
  rw [casualFor_some]
  exact fun k => h k.1

/-- A free slot that takes a release adds that one to the table. -/
theorem casualAt_setRental_begins {s : State} {k : Fin 64} {r : Rental} (free : s.rentals[k] = none) (holds : r.holdsSpent)
    (j : Fin 64) (a c : Nat) :
    (s.setRental k (some r)).casualAt j a c ↔ s.casualAt j a c ∨ j = k ∧ a = r.rider ∧ c = r.serial := by
  rw [casualAt_setRental, casualFor_some, eq_comm (a := a), eq_comm (a := c)]
  split
  · next e =>
    have none : ¬ s.casualAt k a c := by rw [State.casualAt, free]; exact not_casualFor_none a c
    simp [e, holds, none]
  · next e => simp [e]

/-! ### The spent list -/

/-- After a removal from the spent list the HELD entries are those that it keeps. -/
theorem heldFor_filter {s t : State} {p : SpentEntry → Bool} (e : t.spent = s.spent.filter p) (a c : Nat) :
    t.heldFor a c ↔ ∃ x ∈ s.spent, p x = true ∧ x.state = .held ∧ x.rider = a ∧ x.serial = c := by
  simp only [State.heldFor, e, List.mem_filter, and_assoc]

/-- A HELD entry at the end of the list adds its rider and serial (R60). -/
theorem heldFor_concat {s t : State} {x : SpentEntry} (e : t.spent = s.spent ++ [x]) (held : x.state = .held) (a c : Nat) :
    t.heldFor a c ↔ s.heldFor a c ∨ a = x.rider ∧ c = x.serial := by
  simp only [State.heldFor, e, List.mem_append, List.mem_singleton, or_and_right, exists_or, exists_eq_left, held, true_and]
  rw [eq_comm (a := a), eq_comm (a := c)]

/-- A withdrawal ends the HELD entry of its rider and serial, and no other (R62). -/
theorem heldFor_withdrawSpent (s : State) (rider serial a c : Nat) :
    (withdrawSpent rider serial s).heldFor a c ↔ s.heldFor a c ∧ ¬ (a = rider ∧ c = serial) := by
  rw [heldFor_filter (s := s) rfl]
  simp only [Bool.not_eq_true', Bool.and_eq_false_iff, decide_eq_false_iff_not]
  constructor
  · rintro ⟨x, m, kept, held, rfl, rfl⟩
    exact ⟨⟨x, m, held, rfl, rfl⟩, fun same => by simp [same, held] at kept⟩
  · rintro ⟨⟨x, m, held, rfl, rfl⟩, other⟩
    exact ⟨x, m, .inl (not_and_or.mp other), held, rfl, rfl⟩

/-- An entry made FINAL ends the HELD entry of its rider and serial, and no other (R61). -/
theorem heldFor_finalizeSpent (s : State) (rider serial a c : Nat) :
    (finalizeSpent rider serial s).heldFor a c ↔ s.heldFor a c ∧ ¬ (a = rider ∧ c = serial) := by
  simp only [State.heldFor, finalizeSpent, List.mem_map]
  constructor
  · rintro ⟨_, ⟨x, m, rfl⟩, held, rfl, rfl⟩
    split at held
    · cases held
    · next other =>
      rw [if_neg other]
      exact ⟨⟨x, m, held, rfl, rfl⟩, fun same => other ⟨same.1, same.2, held⟩⟩
  · rintro ⟨⟨x, m, held, rfl, rfl⟩, other⟩
    have keep : ¬ (x.rider = rider ∧ x.serial = serial ∧ x.state = .held) := fun k => other ⟨k.1, k.2.1⟩
    exact ⟨x, ⟨x, m, if_neg keep⟩, held, rfl, rfl⟩

theorem SpentOnce.filter {l : List SpentEntry} (h : SpentOnce l) (p : SpentEntry → Bool) : SpentOnce (l.filter p) :=
  List.Pairwise.filter p h

/-- A change of the entries' states leaves rider and serial of each. -/
theorem SpentOnce.map {l : List SpentEntry} (h : SpentOnce l) {f : SpentEntry → SpentEntry}
    (same : ∀ x, (f x).rider = x.rider ∧ (f x).serial = x.serial) : SpentOnce (l.map f) := by
  refine List.pairwise_map.mpr (List.Pairwise.imp (fun {x y} k => ?_) h)
  rw [(same x).1, (same x).2, (same y).1, (same y).2]
  exact k

theorem finalizeSpent_once {s : State} (h : SpentOnce s.spent) (rider serial : Nat) :
    SpentOnce (finalizeSpent rider serial s).spent := by
  refine h.map fun x => ?_
  split <;> exact ⟨rfl, rfl⟩

theorem isSpent_iff (s : State) (rider serial : Nat) :
    s.isSpent rider serial = true ↔ ∃ e ∈ s.spent, e.rider = rider ∧ e.serial = serial := by
  simp [State.isSpent]

/-- A token that is not spent adds an entry of its own (R60, R64). -/
theorem SpentOnce.concat {l : List SpentEntry} (h : SpentOnce l) {e : SpentEntry}
    (new : ∀ x ∈ l, ¬ (x.rider = e.rider ∧ x.serial = e.serial)) : SpentOnce (l ++ [e]) := by
  refine List.pairwise_append.mpr ⟨h, List.pairwise_singleton _ _, fun x m y my => ?_⟩
  rw [List.mem_singleton.mp my]
  exact not_and_or.mp (new x m)

end Sys2Proof.Machine
end

section
/-! What the admission of a PRESENT has found where it accepts (R68). -/

namespace Sys2Proof.Machine

/-- What an acceptance of a PRESENT rests on: the bay, plan, identity, tariff, slot and hold that it carries are those of the
token and of the part, and a CASUAL token is not spent and finds room in the spent list (R60, R64, R70, R72, R75, R115). -/
structure Accepted (n : Byte) (t : Token) (s : State) (a : Acceptance) : Prop where
  bay      : bayOf? n = some a.bay
  plan     : planOf? t.plan = some a.plan
  tariff   : s.tariffOf a.plan = some a.tariff
  identity : (s.bay a.bay).identity = some a.identity
  slot     : s.freeSlot? = some a.slot
  hold     : a.hold = holdOf a.plan t.credit.toNat a.tariff
  unspent  : a.plan = .casual → s.isSpent t.rider.toNat t.serial.toNat = false
  room     : a.plan = .casual → s.spent.length < 384

/-- A step that lets the admission accept has not failed. -/
theorem Admission.passed {c : Prop} [Decidable c] {o : PresentOutcome} {reason : Nat} {x : Admission} {a : Acceptance}
    (h : (if c then .refused o reason else x) = Admission.accepted a) : ¬ c ∧ x = .accepted a := by
  split at h
  · cases h
  · exact ⟨‹_›, h⟩

theorem admitRecords_accepted {b : BayIx} {t : Token} {p : Plan} {i : Identity} {f : Tariff} {s : State} {a : Acceptance}
    (h : admitRecords b t p i f s = .accepted a) : ∃ k, s.freeSlot? = some k ∧
      a = ⟨b, k, p, i, holdOf p t.credit.toNat f, f⟩ ∧ (p = .casual → s.spent.length < 384) := by
  obtain ⟨-, h⟩ := Admission.passed h
  split at h
  · cases h
  · next k slot =>
    obtain ⟨room, h⟩ := Admission.passed h
    obtain ⟨-, h⟩ := Admission.passed h
    obtain ⟨-, h⟩ := Admission.passed h
    obtain ⟨-, h⟩ := Admission.passed h
    cases h
    exact ⟨k, slot, rfl, fun casual => by simpa [casual] using room⟩

theorem admitBike_accepted {b : BayIx} {t : Token} {p : Plan} {s : State} {a : Acceptance}
    (h : admitBike b t p s = .accepted a) : ∃ f i, s.tariffOf p = some f ∧ (s.bay b).identity = some i ∧
      (p = .casual → s.isSpent t.rider.toNat t.serial.toNat = false) ∧ admitRecords b t p i f s = .accepted a := by
  unfold admitBike at h
  split at h
  · cases h
  · obtain ⟨unspent, h⟩ := Admission.passed h
    split at h
    · cases h
    · next f tariff =>
      split at h
      · cases h
      · next i identity =>
        obtain ⟨-, h⟩ := Admission.passed h
        obtain ⟨-, h⟩ := Admission.passed h
        obtain ⟨-, h⟩ := Admission.passed h
        exact ⟨f, i, tariff, identity, fun casual => by simpa [casual] using unspent, h⟩

theorem admitToken_accepted {b : BayIx} {t : Token} {s : State} {a : Acceptance} (h : admitToken b t s = .accepted a) :
    ∃ p, planOf? t.plan = some p ∧ admitBike b t p s = .accepted a := by
  unfold admitToken at h
  split at h
  · cases h
  · next p plan =>
    obtain ⟨-, h⟩ := Admission.passed h
    split at h
    · cases h
    · obtain ⟨-, h⟩ := Admission.passed h
      obtain ⟨-, h⟩ := Admission.passed h
      obtain ⟨-, h⟩ := Admission.passed h
      exact ⟨p, plan, h⟩

theorem admission_accepted {n : Byte} {t : Token} {s : State} {a : Acceptance} (h : admission n t s = .accepted a) :
    Accepted n t s a := by
  unfold admission at h
  split at h
  · cases h
  · next b bay =>
    obtain ⟨-, h⟩ := Admission.passed h
    obtain ⟨p, plan, h⟩ := admitToken_accepted h
    obtain ⟨f, i, tariff, identity, unspent, h⟩ := admitBike_accepted h
    obtain ⟨k, slot, rfl, room⟩ := admitRecords_accepted h
    exact ⟨bay, plan, tariff, identity, slot, rfl, unspent, room⟩

/-- The lowest free slot is free, and every slot below it is taken (R75). -/
theorem freeSlot?_spec {s : State} {k : Fin 64} (h : s.freeSlot? = some k) :
    s.rentals[k] = none ∧ ∀ j : Fin 64, j < k → s.rentals[j] ≠ none := by
  unfold State.freeSlot? allSlots at h
  obtain ⟨free, before⟩ := List.find?_eq_some_iff_getElem.mp h
  obtain ⟨i, hi, e, below⟩ := before
  rw [List.getElem_finRange] at e
  refine ⟨Option.isNone_iff_eq_none.mp free, fun j lower taken => ?_⟩
  have position : j.val < i := by
    have := congrArg Fin.val e
    simp only [Fin.val_cast] at this
    omega
  have := below j.val position
  simp [taken] at this

end Sys2Proof.Machine
end

section
/-! Work at the bays keeps the bounds of the two lists and the pairing of HELD entries with CASUAL releases (O5). -/

namespace Sys2Proof.Machine

/-- The rental that the table finds for a bike is OPEN (R95). -/
theorem openRental?_opened {s : State} {bike : Nat} {k : Fin 64} {r : Rental} (h : s.openRental? bike = some (k, r)) :
    r.stage = .opened := by
  unfold State.openRental? at h
  have found := List.find?_some h
  simp only [Bool.and_eq_true, decide_eq_true_eq] at found
  exact found.2

/-- The record that a rental link names is PENDING or RELEASED (R12, R92). -/
theorem heldRental?_spec {s : State} {k : Fin 64} {r : Rental} (h : s.heldRental? k = some r) :
    s.rentals[k] = some r ∧ r.stage ≠ .opened := by
  unfold State.heldRental? at h
  obtain ⟨stored, held⟩ := Option.filter_eq_some_iff.mp h
  exact ⟨stored, of_decide_eq_true held⟩

/-- `t` keeps of `s` what O5 says that a step keeps. -/
structure KeepsLists (s t : State) : Prop where
  lists : ListsKept s → ListsKept t
  spent : SpentKept s → SpentKept t

namespace KeepsLists

theorem refl (s : State) : KeepsLists s s := ⟨id, id⟩

theorem trans {s t u : State} (h : KeepsLists s t) (k : KeepsLists t u) : KeepsLists s u :=
  ⟨fun l => k.lists (h.lists l), fun p => k.spent (h.spent p)⟩

/-- A change of the spent list and the rental table that keeps the spent list's bounds, with the deny list left alone. -/
theorem of_spent {s t : State} (deny : t.deny = s.deny) (once : SpentOnce s.spent → SpentOnce t.spent)
    (room : t.spent.length ≤ s.spent.length) (spent : SpentKept s → SpentKept t) : KeepsLists s t where
  lists h := ⟨by rw [deny]; exact h.denyAscending, by rw [deny]; exact h.denyRoom, by rw [deny]; exact h.denyLegal,
    once h.spentOnce, room.trans h.spentRoom⟩
  spent := spent

/-- A change of the rental table alone, in which the CASUAL releases stand. -/
theorem of_releases {s t : State} (deny : t.deny = s.deny) (spent : t.spent = s.spent)
    (releases : ∀ k a c, t.casualAt k a c ↔ s.casualAt k a c) : KeepsLists s t :=
  of_spent deny (fun h => by rw [spent]; exact h) (by rw [spent])
    fun h => h.stand (by rw [spent]; exact h.once) (fun a c => by rw [State.heldFor, spent]; rfl) releases

/-- Nothing that the bounds and the pairing read has changed. -/
theorem of_same {s t : State} (deny : t.deny = s.deny) (spent : t.spent = s.spent) (rentals : t.rentals = s.rentals) :
    KeepsLists s t :=
  of_releases deny spent fun k a c => by rw [State.casualAt, rentals]; rfl

theorem foldl {α : Type} {f : State → α → State} (h : ∀ t a, KeepsLists t (f t a)) (l : List α) (s : State) :
    KeepsLists s (l.foldl f s) := by
  induction l generalizing s with
  | nil => exact refl s
  | cons a rest ih => exact (h s a).trans (ih _)

/-! ### What writes neither the lists nor the rentals -/

theorem modBay (s : State) (b : BayIx) (f : Bay → Bay) : KeepsLists s (s.modBay b f) := of_same rfl rfl rfl
theorem postBay (s : State) (b : BayIx) (c : BayCause) : KeepsLists s (s.postBay b c) := of_same rfl rfl rfl
theorem raiseAlarm (b : BayIx) (a : Alarm) (s : State) : KeepsLists s (raiseAlarm b a s) := of_same rfl rfl rfl
theorem clearStage (b : BayIx) (s : State) : KeepsLists s (clearStage b s) := of_same rfl rfl rfl
theorem withdrawRequest (b : BayIx) (s : State) : KeepsLists s (withdrawRequest b s) := of_same rfl rfl rfl
theorem endRelease (b : BayIx) (o : LastOutcome) (s : State) : KeepsLists s (endRelease b o s) := of_same rfl rfl rfl
theorem changeState (b : BayIx) (n : BayState) (s : State) : KeepsLists s (changeState b n s) := by
  rw [changeState_frame]; exact of_same rfl rfl rfl
theorem postRequest (b : BayIx) (s : State) : KeepsLists s (postRequest b s) := by
  rw [postRequest_frame]; exact of_same rfl rfl rfl
theorem enterLatching (b : BayIx) (s : State) : KeepsLists s (enterLatching b s) := by
  rw [enterLatching_frame]; exact of_same rfl rfl rfl
theorem enterUnlatching (b : BayIx) (l : Link) (s : State) : KeepsLists s (enterUnlatching b l s) := by
  rw [enterUnlatching_frame]; exact of_same rfl rfl rfl
theorem startTagWindow (b : BayIx) (s : State) : KeepsLists s (startTagWindow b s) := by
  rw [startTagWindow_frame]; exact of_same rfl rfl rfl
theorem appendRecord (r : JournalRecord) (s : State) : KeepsLists s (appendRecord r s) := by
  rw [appendRecord_frame]; exact of_same rfl rfl rfl
theorem foreignReturn (b : BayIx) (m : Nat) (i : Identity) (s : State) : KeepsLists s (foreignReturn b m i s) := by
  rw [foreignReturn_frame]; exact of_same rfl rfl rfl
theorem flushFrom (l : List BayIx) (s : State) : KeepsLists s (flushFrom l s).1 := by
  rw [flushFrom_frame]; exact of_same rfl rfl rfl

/-! ### Returns: an OPEN rental leaves the table, which holds no entry -/

/-- A slot with no CASUAL release before and after. -/
theorem setRental {s : State} {k : Fin 64} {slot : Option Rental} (before : ∀ a c, ¬ s.casualAt k a c)
    (after : ∀ a c, ¬ CasualFor slot a c) : KeepsLists s (s.setRental k slot) :=
  of_releases rfl rfl (casualAt_setRental_same fun a c => iff_of_false (after a c) (before a c))

/-- A record that is no CASUAL release leaves its slot, or becomes another such record. -/
theorem setRental_other {s : State} {k : Fin 64} {r : Rental} {slot : Option Rental} (stored : s.rentals[k] = some r)
    (other : ¬ r.holdsSpent) (after : ∀ a c, ¬ CasualFor slot a c) : KeepsLists s (s.setRental k slot) :=
  setRental (fun a c => by rw [State.casualAt, stored]; exact not_casualFor_some other a c) after

/-- An OPEN rental that leaves the table takes no CASUAL release with it. -/
theorem closed {s : State} {bike : Nat} {k : Fin 64} {r : Rental} (h : s.openRental? bike = some (k, r)) :
    KeepsLists s (s.setRental k none) :=
  setRental_other (openRental?_spec h).1 (fun casual => casual.1 (openRental?_opened h)) not_casualFor_none

theorem localReturn {b : BayIx} {m : Nat} {k : Fin 64} {r : Rental} {s : State} {bike : Nat}
    (h : s.openRental? bike = some (k, r)) : KeepsLists s (localReturn b m k r s) := by
  rw [localReturn_frame]
  exact (closed h).trans (of_same (s := s.setRental k none) rfl rfl rfl)

theorem processReturn (b : BayIx) (s : State) : KeepsLists s (processReturn b s) := by
  unfold Machine.processReturn
  simp only
  split
  · exact refl s
  · split
    · have marked : KeepsLists s (markProcessed b s) := of_same rfl rfl rfl
      split
      · next found => exact marked.trans (localReturn (s := markProcessed b s) found)
      · split
        · exact of_same rfl rfl rfl
        · exact marked.trans (foreignReturn b _ _ _)
    · exact refl s

theorem flush (s : State) : KeepsLists s (flush s) := (flushFrom _ s).trans (foldl (fun t b => processReturn b t) _ _)

theorem secured (b : BayIx) (s : State) : KeepsLists s (secured b s) := (startTagWindow b s).trans (processReturn b _)

theorem enterDocked (b : BayIx) (s : State) : KeepsLists s (enterDocked b s) := (changeState b _ s).trans (secured b _)

theorem enterFault (b : BayIx) (s : State) : KeepsLists s (enterFault b s) := by
  unfold Machine.enterFault
  simp only
  split
  · exact (changeState b _ s).trans (secured b _)
  · exact changeState b _ s

theorem rederive (b : BayIx) (s : State) : KeepsLists s (rederive b s) := by
  unfold Machine.rederive
  simp only
  refine (modBay s b (Bay.rederived s.clock.minute)).trans ?_
  split
  · exact enterDocked b _
  · exact enterLatching b _
  · exact changeState b _ _
  · exact enterUnlatching b _ _

/-! ### The ends of a rental release: its record and its HELD entry go together -/

/-- A CASUAL release leaves its slot or opens, and its entry is HELD no more (R61, R62). -/
theorem casualEnds {s : State} {k : Fin 64} {r : Rental} {slot : Option Rental} {l : List SpentEntry}
    (h : s.heldRental? k = some r) (casual : r.plan = .casual) (after : ∀ a c, ¬ CasualFor slot a c)
    (once : SpentOnce s.spent → SpentOnce l) (room : l.length ≤ s.spent.length)
    (entry : ∀ a c, { s.setRental k slot with spent := l }.heldFor a c ↔
      s.heldFor a c ∧ ¬ (a = r.rider ∧ c = r.serial)) :
    KeepsLists s { s.setRental k slot with spent := l } := by
  obtain ⟨stored, held⟩ := heldRental?_spec h
  have release : s.casualAt k r.rider r.serial := ⟨r, stored, ⟨held, casual⟩, rfl, rfl⟩
  exact of_spent rfl once room fun kept => kept.ended (once kept.once) release entry (casualAt_setRental_ends after)

/-- A release of another plan has no entry to end. -/
theorem otherEnds {s : State} {k : Fin 64} {r : Rental} {slot : Option Rental} (h : s.heldRental? k = some r)
    (other : r.plan ≠ .casual) (after : ∀ a c, ¬ CasualFor slot a c) : KeepsLists s (s.setRental k slot) :=
  setRental_other (heldRental?_spec h).1 (fun casual => other casual.2) after

theorem removeRental {k : Fin 64} {r : Rental} {s : State} (h : s.heldRental? k = some r) :
    KeepsLists s (removeRental k r s) := by
  unfold Machine.removeRental
  simp only
  split
  · next casual =>
    exact casualEnds h casual not_casualFor_none (fun once => once.filter _) (List.length_filter_le _ _)
      (heldFor_withdrawSpent (s.setRental k none) r.rider r.serial)
  · next other => exact otherEnds h other not_casualFor_none

theorem discardRelease (b : BayIx) (o : LastOutcome) (s : State) : KeepsLists s (discardRelease b o s) := by
  unfold Machine.discardRelease
  split
  · split
    · next found => exact (removeRental found).trans ((endRelease b o _).trans (flush _))
    · exact endRelease b o s
  · exact (endRelease b o s).trans (flush _)
  · exact refl s
  · exact refl s

theorem openRental {k : Fin 64} {r : Rental} {s : State} (h : s.heldRental? k = some r) :
    KeepsLists s (openRental k r s) := by
  unfold Machine.openRental
  simp only
  refine .trans ?_ (appendRecord _ _)
  have opened := not_casualFor_some (r := { r with stage := .opened, checkout := some s.clock.minute }) fun holds => holds.1 rfl
  split
  · next casual =>
    exact casualEnds h casual opened (fun once => finalizeSpent_once once r.rider r.serial) (List.length_map _).le
      (heldFor_finalizeSpent (s.setRental k _) r.rider r.serial)
  · next other => exact otherEnds h other opened

theorem removeBike (b : BayIx) (s : State) : KeepsLists s (removeBike b s) := by
  unfold Machine.removeBike
  simp only
  refine .trans ?_ ((endRelease b .checkedOut _).trans (modBay _ b Bay.clearBike))
  split
  · split
    · next found => exact openRental found
    · exact refl s
  · exact appendRecord _ s
  · exact refl s
  · exact refl s

/-- A release that opens to be taken goes on holding its entry (R80). -/
theorem releaseRental (b : BayIx) (s : State) : KeepsLists s (releaseRental b s) := by
  unfold Machine.releaseRental
  split
  · next k _ =>
    split
    · next r found =>
      obtain ⟨stored, held⟩ := heldRental?_spec found
      refine of_releases rfl rfl (casualAt_setRental_same fun a c => ?_)
      rw [State.casualAt, stored, casualFor_some, casualFor_some]
      simp [Rental.holdsSpent, held]
    · exact refl s
  all_goals exact refl s

end KeepsLists
end Sys2Proof.Machine
end

section
/-! The events of bays and channels keep the bounds of the two lists and the pairing of HELD entries with releases (O5). -/

namespace Sys2Proof.Machine.KeepsLists

/-! ### Completions -/

theorem retryOrFault (b : BayIx) (c : FaultCause) (s : State) : KeepsLists s (retryOrFault b c s) := by
  unfold Machine.retryOrFault
  simp only
  split
  · exact modBay s b _
  · exact (modBay s b _).trans ((discardRelease b _ _).trans ((modBay _ b _).trans (enterFault b _)))

theorem completeChanged (b : BayIx) (s : State) : KeepsLists s (completeChanged b s) := (modBay s b _).trans (rederive b _)

theorem completeLatch (b : BayIx) (r : PulseResult) (s : State) : KeepsLists s (completeLatch b r s) := by
  unfold Machine.completeLatch
  split
  · exact completeChanged b s
  · split
    · split
      · exact (clearStage b s).trans (enterDocked b _)
      · exact retryOrFault b _ s
    · exact retryOrFault b _ s
    · exact (clearStage b s).trans (postRequest b _)

theorem completeReady (b : BayIx) (r : PulseResult) (s : State) : KeepsLists s (completeReady b r s) := by
  unfold Machine.completeReady
  split
  · exact completeChanged b s
  · split
    · exact (clearStage b s).trans ((modBay _ b _).trans (rederive b _))
    · exact retryOrFault b _ s
    · exact (clearStage b s).trans (postRequest b _)

theorem enterReleased (b : BayIx) (s : State) : KeepsLists s (enterReleased b s) :=
  (clearStage b s).trans ((releaseRental b _).trans ((changeState b _ _).trans (modBay _ b _)))

theorem completeRelease (b : BayIx) (r : PulseResult) (s : State) : KeepsLists s (completeRelease b r s) := by
  have discard (o : LastOutcome) : KeepsLists s (Machine.rederive b (Machine.discardRelease b o (Machine.clearStage b s))) :=
    (clearStage b s).trans ((discardRelease b o _).trans (rederive b _))
  unfold Machine.completeRelease
  split
  · exact completeChanged b s
  · split
    · exact enterReleased b s
    · split
      · exact discard .jammed
      · exact retryOrFault b _ s
    · exact discard .powerAbort

theorem complete (b : BayIx) (k : DriveKind) (r : PulseResult) (s : State) : KeepsLists s (complete b k r s) := by
  unfold Machine.complete
  split
  · split
    · exact completeLatch b r s
    · exact completeReady b r s
    · exact completeRelease b r s
    · exact completeRelease b r s
  · exact refl s

/-! ### Sense events -/

theorem presenceMoved (b : BayIx) (s : State) : KeepsLists s (presenceMoved b s) := by
  unfold Machine.presenceMoved
  split
  · exact modBay s b _
  · exact (modBay s b _).trans ((withdrawRequest b _).trans (rederive b _))

theorem vacantRise (b : BayIx) (s : State) : KeepsLists s (vacantRise b s) := by
  unfold Machine.vacantRise
  simp only
  split
  · exact (modBay s b _).trans ((modBay _ b _).trans (enterLatching b _))
  · exact (modBay s b _).trans ((modBay _ b _).trans (enterDocked b _))

/-- An alarm that is raised or not. -/
theorem alarmIf (cond : Prop) [Decidable cond] (b : BayIx) (a : Alarm) (s : State) :
    KeepsLists s (if cond then Machine.raiseAlarm b a s else s) := by
  split
  · exact raiseAlarm b a s
  · exact refl s

theorem dockedFall (b : BayIx) (s : State) : KeepsLists s (dockedFall b s) :=
  (alarmIf _ b .unrentedRemoval s).trans ((modBay _ b _).trans ((modBay _ b _).trans (rederive b _)))

theorem faultFall (b : BayIx) (s : State) : KeepsLists s (faultFall b s) := by
  unfold Machine.faultFall
  exact (alarmIf _ b .unrentedRemoval s).trans ((modBay _ b Bay.clearBike).trans (modBay _ b _))

theorem unlatchingFall (b : BayIx) (s : State) : KeepsLists s (unlatchingFall b s) := by
  have moved : KeepsLists s (Machine.presenceMoved b (Machine.removeBike b s)) := (removeBike b s).trans (presenceMoved b _)
  unfold Machine.unlatchingFall
  split
  · exact moved
  · exact moved
  · exact modBay s b _
  · exact modBay s b _

theorem unlatchingRise (b : BayIx) (s : State) : KeepsLists s (unlatchingRise b s) := by
  unfold Machine.unlatchingRise
  split
  · exact (modBay s b _).trans (presenceMoved b _)
  · exact modBay s b _
  · exact refl s
  · exact refl s

theorem handlePresence (b : BayIx) (s : State) : KeepsLists s (handlePresence b s) := by
  unfold Machine.handlePresence
  simp only
  split
  case h_1 => exact vacantRise b s
  case h_3 => exact (modBay s b _).trans (presenceMoved b _)
  case h_4 =>
    split
    · exact modBay s b _
    · exact refl s
  case h_5 => exact dockedFall b s
  case h_7 => exact unlatchingFall b s
  case h_8 => exact unlatchingRise b s
  case h_9 => exact (removeBike b s).trans (rederive b _)
  case h_11 => exact faultFall b s
  all_goals exact refl s

theorem handleLatch (b : BayIx) (s : State) : KeepsLists s (handleLatch b s) := by
  unfold Machine.handleLatch
  simp only
  split
  · exact enterUnlatching b _ s
  · split
    · exact (withdrawRequest b s).trans ((modBay _ b _).trans (enterDocked b _))
    · exact refl s
  · exact (raiseAlarm b _ s).trans ((modBay _ b _).trans (enterLatching b _))
  · exact (discardRelease b _ s).trans (enterDocked b _)
  · exact refl s

theorem drivesEnded (b : BayIx) (y : Bay) (s : State) : KeepsLists s (drivesEnded b y s) := by
  obtain ⟨u, e, off⟩ := drivesEnded_frame (b := b) y s
  have ended : KeepsLists s u := by rw [off.frame]; exact of_same rfl rfl rfl
  rw [e]
  exact ended.trans (of_same rfl rfl rfl)

theorem senseEvent (b : BayIx) (s : State) : KeepsLists s (senseEvent b s) := by
  rw [senseEvent_eq]
  simp only
  generalize hu : (if (s.bay b).presenceDue = true then Machine.handlePresence b (Machine.drivesEnded b (s.bay b) s)
    else Machine.drivesEnded b (s.bay b) s) = u
  have handled : KeepsLists s u := by
    rw [← hu]
    split
    · exact (drivesEnded b _ s).trans (handlePresence b _)
    · exact drivesEnded b _ s
  split
  · exact handled.trans (handleLatch b u)
  · exact handled

/-! ### Timers -/

theorem takeExpired (b : BayIx) (s : State) : KeepsLists s (takeExpired b s) :=
  (discardRelease b _ s).trans (enterLatching b _)

theorem deadlineExpired (b : BayIx) (s : State) : KeepsLists s (deadlineExpired b s) := by
  unfold Machine.deadlineExpired
  split
  · exact modBay s b _
  · exact (withdrawRequest b s).trans ((modBay _ b _).trans ((discardRelease b _ _).trans (rederive b _)))

theorem retryExpired (b : BayIx) (s : State) : KeepsLists s (retryExpired b s) := (modBay s b _).trans (postRequest b _)

/-! ### Pulses and the arbiter -/

theorem arbitrate (s : State) : KeepsLists s (arbitrate s) :=
  arbitrate_keeps (KeepsLists s) (fun _ _ _ h _ _ _ => h.trans (of_same rfl rfl rfl)) s (refl s)

theorem refreshChain (s : State) : KeepsLists s (refreshChain s) := by
  rw [refreshChain_frame]; exact of_same rfl rfl rfl

theorem setChannel (c : Fin 4) (x : Channel) (s : State) : KeepsLists s (s.setChannel c x) := of_same rfl rfl rfl

theorem setPulse (c : Fin 4) (p : Pulse) (s : State) : KeepsLists s (s.setPulse c p) := of_same rfl rfl rfl

theorem endDrive (c : Fin 4) (p : Pulse) (s : State) : KeepsLists s (endDrive c p s) := by
  rw [(OffChannels.endDrive c p s).frame]; exact of_same rfl rfl rfl

theorem endConnect (c : Fin 4) (p : Pulse) (s : State) : KeepsLists s (endConnect c p s) := by
  unfold Machine.endConnect
  split
  · exact (refreshChain s).trans (setPulse c _ _)
  · exact refl s

theorem finishBrake (c : Fin 4) (p : Pulse) (s : State) : KeepsLists s (finishBrake c p s) :=
  (setPulse c _ s).trans (complete _ _ _ _)

theorem endDeadtime (c : Fin 4) (p : Pulse) (s : State) : KeepsLists s (endDeadtime c p s) := by
  unfold Machine.endDeadtime
  split
  · unfold beginKick
    simp only
    (repeat' split) <;> exact setPulse c _ s
  · unfold endSecondDeadtime
    simp only
    split
    · exact setPulse c _ s
    · split
      · exact (setPulse c _ s).trans (finishBrake c _ _)
      · exact setPulse c _ s
  all_goals exact refl s

theorem endKick (c : Fin 4) (p : Pulse) (s : State) : KeepsLists s (endKick c p s) := by
  unfold Machine.endKick
  split
  · exact setPulse c _ s
  · exact refl s

theorem stallEnds (c : Fin 4) (p : Pulse) (s : State) : KeepsLists s (stallEnds c p s) := by
  unfold Machine.stallEnds
  split
  · exact endDrive c p s
  · exact refl s

theorem limitEnds (c : Fin 4) (p : Pulse) (s : State) : KeepsLists s (limitEnds c p s) := by
  unfold Machine.limitEnds
  split
  · exact endDrive c p s
  · exact refl s

theorem shortEnds (c : Fin 4) (p : Pulse) (s : State) : KeepsLists s (shortEnds c p s) := by
  unfold Machine.shortEnds
  split
  · exact of_same rfl rfl rfl
  · exact refl s

theorem endBrake (c : Fin 4) (p : Pulse) (s : State) : KeepsLists s (endBrake c p s) := by
  unfold Machine.endBrake
  split
  · exact finishBrake c p s
  · exact refl s

theorem reportCoast (p : Pulse) (s : State) : KeepsLists s (reportCoast p s) := by
  unfold Machine.reportCoast
  split
  · exact complete _ _ _ _
  · split
    · exact complete _ _ _ _
    · exact refl s
  · exact refl s

theorem endCoast (c : Fin 4) (p : Pulse) (s : State) : KeepsLists s (endCoast c p s) := by
  unfold Machine.endCoast
  split
  · rw [finishCoast_eq]
    exact (refreshChain s).trans ((reportCoast p _).trans ((setChannel c _ _).trans (arbitrate _)))
  · exact refl s

theorem abortChannel (s : State) (c : Fin 4) : KeepsLists s (abortChannel s c) := by
  unfold Machine.abortChannel
  (repeat' split) <;> exact of_same rfl rfl rfl

theorem changeBand (b : Band) (s : State) : KeepsLists s (changeBand b s) := by
  unfold Machine.changeBand
  split
  · exact refl s
  · refine .trans (t := { s.postBand with band := b }) (of_same rfl rfl rfl) ?_
    simp only
    split
    · exact (foldl abortChannel _ _).trans (arbitrate _)
    · exact arbitrate _

theorem takeEvaluation (s : State) : KeepsLists s (takeEvaluation s) := by
  unfold Machine.takeEvaluation
  split
  · refine .trans (t := { s with evaluationDue := false }) (of_same rfl rfl rfl) ?_
    unfold evaluateBand
    split
    · exact refl _
    · exact changeBand _ _
  · exact refl s

/-! ### The conversions -/

theorem countScan (c : Fin 4) (mA : Nat) (s : State) : KeepsLists s (countScan c mA s) := by
  unfold Machine.countScan
  (repeat' split) <;> exact of_same rfl rfl rfl

theorem judgeSample (mV : Nat) (s : State) : KeepsLists s (judgeSample mV s) := by
  unfold Machine.judgeSample
  split <;> exact of_same rfl rfl rfl

theorem whenRunning {s : State} {act : State → State} (k : KeepsLists s (act s)) : KeepsLists s (whenRunning s act) :=
  whenRunning_keeps (KeepsLists s) s act (refl s) fun _ => k

theorem convert {slot : Fin 5} {take : State → State} (k : ∀ t, KeepsLists t (take t)) (s : State) :
    KeepsLists s (convert slot take s) := by
  unfold Machine.convert
  split
  · exact .trans (t := { s with scanSlot := s.scanSlot + 1 }) (of_same rfl rfl rfl) (k _)
  · exact refl s

theorem takeCurrent (c : Fin 4) (mA : Nat) (s : State) : KeepsLists s (takeCurrent c mA s) :=
  convert (fun t => .trans (t := { t with currents := t.currents.set c.val mA c.isLt }) (of_same rfl rfl rfl)
    (whenRunning (countScan c mA _))) s

theorem takeBattery (mV : Nat) (s : State) : KeepsLists s (takeBattery mV s) :=
  convert (fun t => .trans (t := { t with battery := mV }) (of_same rfl rfl rfl) (whenRunning (judgeSample mV _))) s

/-! ### An event of a timer or a pulse -/

theorem expire {running : Bay → Option Nat} {b : BayIx} {act : State → State} {s : State} (k : KeepsLists s (act s)) :
    KeepsLists s (expire running b act s) := expire_keeps (KeepsLists s) running b act s (refl s) fun _ => k

theorem pulseEvent {c : Fin 4} {act : Pulse → State → State} {s : State} (k : ∀ p, KeepsLists s (act p s)) :
    KeepsLists s (pulseEvent c act s) := by
  refine whenRunning ?_
  split
  · exact k _
  · exact refl s

end Sys2Proof.Machine.KeepsLists
end

section
/-! The requests and the deny list: what each keeps of the two lists and of the releases (O5). -/

namespace Sys2Proof.Machine.KeepsLists

/-! ### The deny list -/

/-- A deny list of its order, bound and ranges keeps the rest of the lists. -/
theorem of_deny {s t : State} (spent : t.spent = s.spent) (rentals : t.rentals = s.rentals)
    (ascending : Ascending s.deny → Ascending t.deny) (room : s.deny.length ≤ 1024 → t.deny.length ≤ 1024)
    (legal : (∀ e ∈ s.deny, e.legal) → ∀ e ∈ t.deny, e.legal) : KeepsLists s t where
  lists h := ⟨ascending h.denyAscending, room h.denyRoom, legal h.denyLegal, by rw [spent]; exact h.spentOnce,
    by rw [spent]; exact h.spentRoom⟩
  spent h := h.stand (by rw [spent]; exact h.once) (fun a c => by rw [State.heldFor, spent]; rfl)
    fun k a c => by rw [State.casualAt, rentals]; rfl

/-- Entries leave the deny list. -/
theorem of_deny_filter {s t : State} (p : DenyEntry → Bool) (deny : t.deny = s.deny.filter p) (spent : t.spent = s.spent)
    (rentals : t.rentals = s.rentals) : KeepsLists s t := by
  refine of_deny spent rentals (fun h => ?_) (fun h => ?_) fun h e m => ?_
  · rw [deny]
    exact List.Pairwise.filter p h
  · rw [deny]
    exact (List.length_filter_le _ _).trans h
  · rw [deny] at m
    exact h e (List.mem_of_mem_filter m)

/-- DENY_ADD stores an entry whose values are in range, at its place (R50, R55). -/
theorem denyAdd (rider : BitVec 32) (reason flag : Byte) (expiry : BitVec 32) (s : State) :
    KeepsLists s (denyAdd ⟨rider.toNat, reason.toNat, if flag = 0 then none else some expiry.toNat⟩ s).1 := by
  generalize he : (⟨rider.toNat, reason.toNat, if flag = 0 then none else some expiry.toNat⟩ : DenyEntry) = e
  unfold Machine.denyAdd
  split
  · exact refl s
  · next bad =>
    have legal : e.legal := by
      obtain ⟨r0, n0, n15⟩ := by simpa only [not_or] using bad
      subst he
      refine ⟨Nat.pos_of_ne_zero r0, Nat.le_of_lt_succ rider.isLt, Nat.pos_of_ne_zero n0, Nat.le_of_not_lt n15,
        fun x hx => ?_⟩
      split at hx
      · cases hx
      · cases hx
        exact Nat.le_of_lt_succ expiry.isLt
    split
    · refine of_deny rfl rfl (fun h => h.update e) (fun h => (List.length_map _).trans_le h) fun h x m => ?_
      rcases mem_updateDeny m with rfl | m
      · exact legal
      · exact h x m
    · next new =>
      have fresh : ∀ x ∈ s.deny, x.rider ≠ e.rider := fun x m same =>
        new ((denyEntry?_isSome s e.rider).mpr ⟨x, m, same⟩)
      have perm := insertDeny_perm e s.deny
      split
      · next room =>
        refine of_deny rfl rfl (fun h => h.insert fresh) (fun _ => perm.length_eq.trans_le room) fun h x m => ?_
        rcases List.mem_cons.mp (perm.mem_iff.mp m) with rfl | m
        · exact legal
        · exact h x m
      · exact refl s

theorem denyRemove (rider : Nat) (s : State) : KeepsLists s (denyRemove rider s).1 := by
  unfold Machine.denyRemove
  split
  · exact refl s
  · split
    · exact of_deny_filter _ rfl rfl rfl
    · exact refl s

/-! ### The sweeps -/

/-- The spent sweep removes FINAL entries only (R63). -/
theorem heldFor_sweep (s : State) (a c : Nat) : (sweep s).heldFor a c ↔ s.heldFor a c := by
  rw [heldFor_filter (s := s) rfl]
  refine exists_congr fun x => and_congr_right fun _ => ?_
  simp only [and_iff_right_iff_imp]
  rintro ⟨held, -⟩
  simp [SpentEntry.swept, held]

theorem sweep (s : State) : KeepsLists s (sweep s) := by
  refine .trans (t := { s with deny := (Machine.sweep s).deny }) (of_deny_filter _ rfl rfl rfl) ?_
  exact of_spent rfl (fun h => h.filter _) (List.length_filter_le _ _) fun h =>
    h.stand (SpentOnce.filter h.once _) (heldFor_sweep s) fun _ _ _ => Iff.rfl

theorem setTime (m x : Nat) (s : State) : KeepsLists s (setTime m x s).1 := by
  unfold Machine.setTime
  split
  · exact refl s
  · exact .trans (t := { s with clock := ⟨m, x, 0, true, false⟩ }) (of_same rfl rfl rfl) (sweep _)

theorem minuteEvent (s : State) : KeepsLists s (minuteEvent s) := by
  unfold Machine.minuteEvent
  simp only
  split
  · exact .trans (t := { s with clock := ⟨min maxMinute (s.clock.minute + 1), 0, 0, s.clock.isSet, false⟩ })
      (of_same rfl rfl rfl) (sweep _)
  · exact of_same rfl rfl rfl

theorem clockSecond (s : State) : KeepsLists s (clockSecond s) := by
  unfold Machine.clockSecond
  split
  · exact minuteEvent s
  · exact of_same rfl rfl rfl

/-! ### The acceptance of a PRESENT -/

/-- A release begins with a HELD entry of its own, where its rider and serial have no entry and so no release (R60, R64). -/
theorem casualBegins {s : State} {k : Fin 64} {r : Rental} {x : SpentEntry} (free : s.rentals[k] = none)
    (holds : r.holdsSpent) (held : x.state = .held) (rider : x.rider = r.rider) (serial : x.serial = r.serial)
    (unspent : s.isSpent r.rider r.serial = false) (room : s.spent.length < 384) :
    KeepsLists s { s.setRental k (some r) with spent := s.spent ++ [x] } := by
  have new : ∀ y ∈ s.spent, ¬ (y.rider = r.rider ∧ y.serial = r.serial) := fun y m same =>
    Bool.false_ne_true (unspent.symm.trans ((isSpent_iff s _ _).mpr ⟨y, m, same⟩))
  have once (h : SpentOnce s.spent) : SpentOnce (s.spent ++ [x]) := h.concat (by rw [rider, serial]; exact new)
  refine ⟨fun l => ⟨l.denyAscending, l.denyRoom, l.denyLegal, once l.spentOnce, ?_⟩, fun kept => ?_⟩
  · rw [List.length_append, List.length_singleton]
    exact room
  · refine kept.begun (once kept.once) (fun ⟨y, m, _, same⟩ => new y m same) (fun a c => ?_)
      (casualAt_setRental_begins free holds)
    rw [heldFor_concat (s := s) rfl held, rider, serial]

theorem acceptRental {n : Byte} {t : Token} {s : State} {a : Acceptance} (h : Accepted n t s a) :
    KeepsLists s (acceptRental a t s) := by
  unfold Machine.acceptRental
  refine .trans ?_ ((modBay _ a.bay _).trans (enterUnlatching a.bay _ _))
  have free := (freeSlot?_spec h.slot).1
  unfold holdSpent
  split
  · next casual =>
    exact casualBegins free ⟨Stage.noConfusion, casual⟩ rfl rfl rfl (h.unspent casual) (h.room casual)
  · next other =>
    refine setRental (fun b c => ?_) (not_casualFor_some fun holds => other holds.2)
    rw [State.casualAt, free]
    exact not_casualFor_none b c

theorem presentToken (n : Byte) (t : Token) (s : State) : KeepsLists s (presentToken n t s).1 := by
  unfold Machine.presentToken
  split
  · exact refl s
  · next accepted => exact acceptRental (admission_accepted accepted)

/-! ### The other requests -/

theorem rentalClose (bike : Nat) (s : State) : KeepsLists s (rentalClose bike s).1 := by
  unfold Machine.rentalClose
  split
  · exact refl s
  · split
    · next found => exact (closed found).trans (flush _)
    · exact refl s

theorem journalRelease (n : Nat) (s : State) : KeepsLists s (journalRelease n s).1 := by
  unfold Machine.journalRelease
  split
  · exact refl s
  · split
    · exact refl s
    · exact .trans (t := dropRecords n s) (of_same rfl rfl rfl) (flush _)

theorem clearUnidentified (b : BayIx) (s : State) : KeepsLists s (clearUnidentified b s) := by
  unfold Machine.clearUnidentified
  split
  · exact of_same rfl rfl rfl
  · exact refl s

theorem assignIdentity (b : BayIx) (i : Identity) (s : State) : KeepsLists s (assignIdentity b i s) :=
  (modBay s b _).trans ((clearUnidentified b _).trans (processReturn b _))

theorem bikeTag (n : Byte) (bike : Nat) (cls : Byte) (pct : Nat) (s : State) : KeepsLists s (bikeTag n bike cls pct s).1 := by
  unfold Machine.bikeTag
  split
  · split
    · exact refl s
    · unfold tagBay
      repeat' split
      case _ => exact raiseAlarm _ _ s
      case _ => exact refl s
      case _ => exact of_same rfl rfl rfl
      case _ => exact assignIdentity _ _ s
      case _ => exact of_same rfl rfl rfl
      case _ => exact raiseAlarm _ _ s
  · exact refl s

theorem serviceOn (b : BayIx) (s : State) : KeepsLists s (serviceOn b s).1 := by
  unfold Machine.serviceOn
  split
  · exact (modBay s b _).trans (changeState b _ _)
  · exact refl s

theorem serviceOff (b : BayIx) (s : State) : KeepsLists s (serviceOff b s).1 := by
  unfold Machine.serviceOff
  split
  · exact rederive b s
  · exact refl s

theorem clearBay (b : BayIx) (s : State) : KeepsLists s (clearBay b s).1 := by
  unfold Machine.clearBay
  simp only
  split
  · exact (modBay s b _).trans ((modBay _ b _).trans (rederive b _))
  · exact modBay s b _

theorem staffUnlatch (b : BayIx) (s : State) : KeepsLists s (staffUnlatch b s).1 := by
  unfold Machine.staffUnlatch
  repeat' split
  case _ => exact refl s
  case _ => exact refl s
  case _ => exact (modBay s b _).trans (enterUnlatching b _ _)

theorem atBay {n : Byte} {act : BayIx → State → State × List Byte} {s : State} (k : ∀ b, KeepsLists s (act b s).1) :
    KeepsLists s (atBay n act s).1 := by
  unfold Machine.atBay
  split
  · exact k _
  · exact refl s

theorem channelEnable (n : Byte) (s : State) : KeepsLists s (channelEnable n s).1 := by
  unfold Machine.channelEnable enableChannel
  split
  · simp only
    split
    · exact (setChannel _ _ s).trans (arbitrate _)
    · exact refl s
  · exact refl s

theorem profileSet (n : Byte) (p : Profile) (s : State) : KeepsLists s (profileSet n p s).1 := by
  unfold Machine.profileSet
  split
  · next x _ => cases x <;> exact of_same rfl rfl rfl
  · exact refl s

theorem takeRequest {kind : Byte} {act : State → State × List Byte} {s : State} (k : ∀ t, KeepsLists t (act t).1) :
    KeepsLists s (takeRequest kind act s) :=
  takeRequest_keeps (KeepsLists s) kind act s (refl s) (fun _ _ h => h.trans (of_same rfl rfl rfl))
    (fun _ _ h => h.trans (of_same rfl rfl rfl)) fun t h => h.trans (k t)

/-- Every request keeps the lists; a command that is no request changes nothing in a frame. -/
theorem handRequest {i : Instr} {s t : State} (h : handRequest i s = .next t) : KeepsLists s t := by
  cases i
  all_goals (cases h)
  case hello | status | restart | getTime | settingsGet | tariffGet | denyLookup | rentalQuery | profileGet | supplyGet =>
    exact takeRequest refl
  case changesGet | settingsSet => exact takeRequest fun _ => of_same rfl rfl rfl
  case denyClear => exact takeRequest fun t => of_deny_filter (fun _ => false) (List.filter_false t.deny).symm rfl rfl
  case setTime => exact takeRequest (setTime _ _)
  case keyLoad | keyDrop | tariffSet =>
    refine takeRequest fun t => ?_
    split <;> exact of_same rfl rfl rfl
  case denyAdd => exact takeRequest (denyAdd _ _ _ _)
  case denyRemove => exact takeRequest (denyRemove _)
  case supplySet =>
    refine takeRequest fun t => ?_
    unfold supplySet
    split <;> exact of_same rfl rfl rfl
  case journalRead =>
    refine takeRequest fun t => ?_
    unfold journalRead
    split <;> exact of_same rfl rfl rfl
  case present => exact takeRequest (presentToken _ _)
  case bikeTag => exact takeRequest (bikeTag _ _ _ _)
  case rentalClose => exact takeRequest (rentalClose _)
  case journalRelease => exact takeRequest (journalRelease _)
  case profileSet => exact takeRequest (profileSet _ _)
  case channelEnable => exact takeRequest (channelEnable _)
  case bayQuery => exact takeRequest fun t => atBay fun _ => refl t
  case bayService =>
    refine takeRequest fun t => atBay fun b => ?_
    split
    · exact serviceOff b t
    · exact serviceOn b t
  case bayClear => exact takeRequest fun t => atBay fun b => clearBay b t
  case staffUnlatch => exact takeRequest fun t => atBay fun b => staffUnlatch b t
  all_goals exact refl s

end Sys2Proof.Machine.KeepsLists
end

section
/-! O5: the restarts, the supplies, every command and the step keep the two lists and their pairing with the releases. -/

namespace Sys2Proof.Machine

namespace KeepsLists

/-! ### Restarts and the supplies -/

/-- What has no entry and no rental keeps the lists. -/
theorem emptied {s t : State} (deny : t.deny = []) (spent : t.spent = []) (rentals : ∀ k : Fin 64, t.rentals[k] = none) :
    KeepsLists s t := by
  have table : t.rentals = State.reset.rentals := Vector.ext fun k hk => by
    simpa [State.reset] using rentals ⟨k, hk⟩
  have same : KeepsLists State.reset t := of_same deny spent table
  exact ⟨fun _ => same.lists reset_listsKept, fun _ => same.spent reset_spentKept⟩

theorem coldReset (w : SenseWord) (s t : State) : KeepsLists s (coldReset w t) := by
  have cold := coldReset_coldly w t
  exact emptied cold.lists.1 cold.lists.2 cold.rentals

/-- A warm restart leaves no release and no HELD entry (R67, R86). -/
theorem restartDiscards (s : State) : KeepsLists s (restartDiscards s) := by
  have spent : (Machine.restartDiscards s).spent = s.spent.filter fun e => decide (e.state = .finalized) := by
    rw [restartDiscards_frame]
  have entries (a c : Nat) : ¬ (Machine.restartDiscards s).heldFor a c := by
    rw [heldFor_filter spent]
    rintro ⟨x, -, final, held, -⟩
    rw [held] at final
    cases final
  have releases (k : Fin 64) (a c : Nat) : ¬ (Machine.restartDiscards s).casualAt k a c := by
    rintro ⟨r, stored, holds, -⟩
    exact holds.1 ((restartDiscards_rentals s k r).mp stored).2
  refine of_spent (by rw [restartDiscards_frame]) (fun h => ?_) ?_ fun h => ?_
  · rw [spent]
    exact h.filter _
  · rw [spent]
    exact List.length_filter_le _ _
  · refine (spentKept_iff _).mpr ⟨by rw [spent]; exact SpentOnce.filter h.once _, fun a c => ?_, fun j _ a c hj => ?_⟩
    · exact iff_of_false (entries a c) fun ⟨k, hk⟩ => releases k a c hk
    · exact absurd hj (releases j a c)

theorem seedScan (w : SenseWord) (s : State) : KeepsLists s (seedScan w s) := by
  unfold Machine.seedScan State.mapBays; exact of_same rfl rfl rfl

theorem warmRestart (k : RestartKind) (w : SenseWord) (s : State) : KeepsLists s (warmRestart k w s) := by
  have bays : KeepsLists s (restartedBays w s) := (restartDiscards s).trans
    ((flush _).trans ((seedScan w _).trans (foldl (fun t b => rederive b t) allBays _)))
  rw [warmRestart_eq]
  generalize restartedBays w s = t at bays
  exact bays.trans (of_same rfl rfl rfl)

theorem resetRelease (w : SenseWord) (s : State) : KeepsLists s (resetRelease w s) := by
  unfold Machine.resetRelease
  simp only
  repeat' split
  case _ => exact coldReset w s _
  case _ => exact of_same rfl rfl rfl
  case _ => exact refl s

theorem powerReturn (w : SenseWord) (s : State) : KeepsLists s (powerReturn w s) := by
  cases h : s.mainPower with
  | true => rw [powerReturn_present w s h]; exact refl s
  | false =>
    rw [powerReturn_absent w s h]
    split
    · exact .trans (t := poweredUp s) (of_same rfl rfl rfl) (warmRestart _ w _)
    · exact coldReset w s _

theorem loseMainPower (s : State) : KeepsLists s (loseMainPower s) := by
  unfold Machine.loseMainPower State.mapBays unconvertAll; exact of_same rfl rfl rfl

theorem loseBackup (s : State) : KeepsLists s (loseBackup s) := by
  unfold Machine.loseBackup
  exact emptied rfl rfl fun k => by simp [State.reset]

theorem scanAll (w : SenseWord) (s : State) : KeepsLists s (scanAll w s) := by
  unfold Machine.scanAll; exact of_same rfl rfl rfl

theorem replyComplete (w : SenseWord) {s t : State} (h : execReplyComplete w s = .next t) : KeepsLists s t := by
  cases h
  refine whenRunning ?_
  split
  · simp only
    split
    · exact .trans (t := { s with reply := none }) (of_same rfl rfl rfl) (warmRestart _ w _)
    · exact of_same rfl rfl rfl
  · exact refl s

/-! ### Reception -/

theorem takeFrame {body : List Byte} {check : Byte} {s t : State} (h : takeFrame body check s = .next t) :
    KeepsLists s t := by
  unfold Machine.takeFrame at h
  split at h
  · cases h; exact of_same rfl rfl rfl
  · split at h
    · cases h; exact of_same rfl rfl rfl
    · exact handRequest h
    · cases h; exact of_same rfl rfl rfl

theorem reject {body : List Byte} {check : Byte} {s t : State} (h : execReject body check s = .next t) :
    KeepsLists s t := by
  unfold execReject at h
  split at h
  · split at h
    · exact takeFrame h
    · cases h; exact of_same rfl rfl rfl
  · cases h; exact refl s

theorem byteReceived {x : Byte} {s t : State} (h : execByteReceived x s = .next t) : KeepsLists s t := by
  unfold execByteReceived at h
  split at h
  · unfold receiveByte at h
    split at h
    case h_4 => exact takeFrame h
    all_goals cases h; exact of_same rfl rfl rfl
  · cases h; exact refl s

/-! ### Every command and the step -/

/-- An event that is taken or not. -/
theorem taken {cond : Prop} [Decidable cond] {s t : State} (h : KeepsLists s t) : KeepsLists s (if cond then t else s) := by
  split
  · exact h
  · exact refl s

theorem exec (i : Instr) {s t : State} (h : exec i s = .next t) : KeepsLists s t := by
  have request : Machine.handRequest i s = .next t → KeepsLists s t := handRequest
  cases i
  case reject => exact reject h
  case byteReceived => exact byteReceived h
  case replyComplete => exact replyComplete _ h
  case busyFrameDrop | interByteGapTimeout => cases h; exact whenRunning (taken (of_same rfl rfl rfl))
  case lineError => cases h; exact whenRunning (of_same rfl rfl rfl)
  case resetAssert => cases h; exact of_same rfl rfl rfl
  case resetRelease => cases h; exact resetRelease _ s
  case mainPowerLoss => cases h; exact taken (loseMainPower s)
  case mainPowerReturn => cases h; exact powerReturn _ s
  case backupSupplyLoss =>
    cases h
    split
    · exact refl s
    · exact loseBackup s
  case senseScan => cases h; exact whenRunning (scanAll _ s)
  case senseEvent => cases h; exact whenRunning (senseEvent _ s)
  case takeWindowExpiry => cases h; exact expire (takeExpired _ s)
  case tagWindowExpiry => cases h; exact expire (of_same rfl rfl rfl)
  case unlatchDeadlineExpiry => cases h; exact expire (deadlineExpired _ s)
  case retryDelayExpiry => cases h; exact expire (retryExpired _ s)
  case pendingTagExpiry => cases h; exact expire (of_same rfl rfl rfl)
  case lampPhase => cases h; exact expire (of_same rfl rfl rfl)
  case grant => cases h; exact whenRunning (arbitrate s)
  case connectEnd => cases h; exact pulseEvent fun p => endConnect _ p s
  case deadtimeEnd => cases h; exact pulseEvent fun p => endDeadtime _ p s
  case kickEnd => cases h; exact pulseEvent fun p => endKick _ p s
  case stall => cases h; exact pulseEvent fun p => stallEnds _ p s
  case travelLimit => cases h; exact pulseEvent fun p => limitEnds _ p s
  case short => cases h; exact pulseEvent fun p => shortEnds _ p s
  case brakeEnd => cases h; exact pulseEvent fun p => endBrake _ p s
  case coastEnd => cases h; exact pulseEvent fun p => endCoast _ p s
  case currentConversion => cases h; exact takeCurrent _ _ s
  case batteryConversion => cases h; exact takeBattery _ s
  case bandEvaluation => cases h; exact whenRunning (takeEvaluation s)
  case clockSecond => cases h; exact taken (clockSecond s)
  case minuteEvent => cases h; exact taken (minuteEvent s)
  all_goals exact request h

/-- With no command waiting an event is taken up, or a period passes with its refresh of the select chain. -/
theorem tick (s : State) : KeepsLists s (tick s) := by
  rcases tick_cases s with ⟨i, n, -, e⟩ | ⟨-, u, hu, ⟨-, e⟩ | ⟨-, e⟩⟩
  · rw [e]; exact of_same rfl rfl rfl
  all_goals
    have period : KeepsLists s u := by
      rw [hu, crystalPeriod_frame]
      exact (whenRunning (refreshChain s)).trans (of_same rfl rfl rfl)
    rw [e]
    exact period.trans (of_same rfl rfl rfl)

theorem step {s t : State} (h : step s = .next t) : KeepsLists s t := by
  unfold Machine.step at h
  split at h
  · cases h; exact tick s
  · next i rest _ => exact .trans (t := { s with pending := rest }) (of_same rfl rfl rfl) (exec i h)

end KeepsLists

/-- Settles O5: `KeepsLists` holds of every command, by the few operations that write the lists or the rentals, and of the
passing of a period. -/
theorem stepKeepsTheListBounds : Obligations.StepKeepsTheListBounds :=
  ⟨fun _ _ h k => (KeepsLists.step k).lists h, fun _ _ h k => (KeepsLists.step k).spent h⟩

end Sys2Proof.Machine
end

section
/-! The requests on the deny list: O16, O28, O29. -/

namespace Sys2Proof.Machine

/-- A stored entry stands between the entries of lower and of higher riders. -/
theorem deny_split {s : State} {n : Nat} {e : DenyEntry} (h : s.deny[n]? = some e) :
    ∃ l r, s.deny = l ++ e :: r ∧ l.length = n := by
  obtain ⟨bound, rfl⟩ := List.getElem?_eq_some_iff.mp h
  exact ⟨s.deny.take n, s.deny.drop (n + 1), by rw [← List.drop_eq_getElem_cons, List.take_append_drop],
    List.length_take_of_le bound.le⟩

section Stored
variable {s : State} (h : ListsKept s) {l r : List DenyEntry} {e : DenyEntry} (parts : s.deny = l ++ e :: r)
include h parts

theorem ascending_split : Ascending (l ++ e :: r) := parts ▸ h.denyAscending

/-- A stored rider is not 0 (R55). -/
theorem stored_rider_ne_zero : e.rider ≠ 0 := by
  have legal := h.denyLegal e (by rw [parts]; simp)
  exact Nat.ne_of_gt legal.1

/-- The search for the rider of a stored entry finds it. -/
theorem denyEntry?_stored : s.denyEntry? e.rider = some e := by
  rw [State.denyEntry?, parts]
  exact (ascending_split h parts).find

/-- The position of a stored entry is the number of entries before it (R50). -/
theorem denyPosition_stored : s.denyPosition e.rider = l.length := by
  rw [State.denyPosition, parts, (ascending_split h parts).lower]

end Stored

theorem denyEntry?_none {s : State} {rider : Nat} (h : ∀ e ∈ s.deny, e.rider ≠ rider) : s.denyEntry? rider = none :=
  List.find?_eq_none.mpr fun e m => by simpa using h e m

theorem denyEntry?_unknown {s : State} {rider : Nat} (h : ∀ e ∈ s.deny, e.rider ≠ rider) :
    ¬ (s.denyEntry? rider).isSome = true := Option.not_isSome_iff_eq_none.mpr (denyEntry?_none h)

/-- An entry is in force while the clock is unset, or its expiry lies ahead (R51). -/
theorem DenyEntry.inForce_iff (k : Clock) (e : DenyEntry) :
    e.inForce k = true ↔ k.isSet = false ∨ ∀ x, e.expiry = some x → k.minute < x := by
  cases h : e.expiry <;> simp [DenyEntry.inForce, h]

/-- A rider none of whose entries is in force is not denied (R51, R53). -/
theorem denied?_none {s : State} {rider : Nat}
    (h : ∀ e ∈ s.deny, e.rider = rider → s.clock.isSet = true ∧ ∃ x, e.expiry = some x ∧ x ≤ s.clock.minute) :
    s.denied? rider = none := by
  refine Option.filter_eq_none_iff.mpr fun e found force => ?_
  have rider := List.find?_some found
  obtain ⟨set, x, hx, past⟩ := h e (List.mem_of_find?_eq_some found) (by simpa using rider)
  rcases (e.inForce_iff s.clock).mp force with unset | ahead
  · rw [set] at unset
    cases unset
  · exact absurd (ahead x hx) (Nat.not_lt.mpr past)

/-- The lists of a state do not depend on reception. -/
theorem ListsKept.hunting {s : State} (h : ListsKept s) : ListsKept s.hunting :=
  ⟨h.denyAscending, h.denyRoom, h.denyLegal, h.spentOnce, h.spentRoom⟩

theorem eq_zero_iff_toNat {w : Nat} (x : BitVec w) : x = 0 ↔ x.toNat = 0 := by simp [← BitVec.toNat_inj]

/-! ### DENY_LOOKUP -/

/-- The payload of DENY_LOOKUP (R58). -/
def denyLookup (rider : BitVec 32) (s : State) : List Byte :=
  if rider = 0 then statusOnly .range
  else match s.denied? rider.toNat with
    | some e => okWith (be8 e.reason ++ beOpt32 e.expiry ++ be16 (s.denyPosition rider.toNat) ++ be16 s.deny.length)
    | none => be8 Status.notFound.code ++ be16 s.deny.length

theorem exec_denyLookup {s : State} (hs : s.accepting) {rider : BitVec 32} {p : List Byte}
    (h : denyLookup rider s.hunting = p) : exec (.denyLookup rider) s = .next (s.answered 0xAB p) :=
  congrArg Host.Outcome.next (takeRequest_done 0x2B (t := s.hunting) hs (congrArg (Prod.mk s.hunting) h))

theorem denyLookup_force {s : State} (h : ListsKept s) {rider : BitVec 32} {n : Nat} {e : DenyEntry}
    (stored : s.deny[n]? = some e) (he : e.rider = rider.toNat) (force : e.inForce s.clock = true) :
    denyLookup rider s = [0] ++ be8 e.reason ++ beOpt32 e.expiry ++ be16 n ++ be16 s.deny.length := by
  obtain ⟨l, r, parts, rfl⟩ := deny_split stored
  have known : rider ≠ 0 := fun zero => stored_rider_ne_zero h parts (by rw [he, zero]; rfl)
  have denied : s.denied? rider.toNat = some e := by
    rw [State.denied?, ← he, denyEntry?_stored h parts, Option.filter_some, if_pos force]
  rw [denyLookup, if_neg known, denied, ← he, denyPosition_stored h parts]
  simp only [okWith, List.append_assoc]
  rfl

/-- Settles O16: by the place of the entry in the ascending list, or by the search that finds none in force. -/
theorem denyLookupReply : Obligations.DenyLookupReply := by
  intro s rider hs h
  refine ⟨fun zero => exec_denyLookup hs (if_pos zero), fun n e stored he force => ?_, fun known none => ?_⟩
  · exact exec_denyLookup hs (denyLookup_force h.hunting stored he ((e.inForce_iff _).mpr force))
  · refine exec_denyLookup hs ?_
    rw [denyLookup, if_neg known, denied?_none (s := s.hunting) none]
    rfl

/-! ### DENY_ADD -/

theorem exec_denyAdd {s t : State} (hs : s.accepting) {rider : BitVec 32} {reason flag : Byte} {expiry : BitVec 32}
    {p : List Byte}
    (h : denyAdd ⟨rider.toNat, reason.toNat, if flag = 0 then none else some expiry.toNat⟩ s.hunting = (t.hunting, p)) :
    exec (.denyAdd rider reason flag expiry) s = .next (t.answered 0xA8 p) :=
  congrArg Host.Outcome.next (takeRequest_done 0x28 hs h)

section Add
variable {s : State} {e : DenyEntry}

theorem denyAdd_range (h : e.rider = 0 ∨ e.reason = 0 ∨ 15 < e.reason) : denyAdd e s = (s, statusOnly .range) := if_pos h

variable (h : ¬ (e.rider = 0 ∨ e.reason = 0 ∨ 15 < e.reason))
include h

theorem denyAdd_updates (known : ∃ x ∈ s.deny, x.rider = e.rider) :
    denyAdd e s = ({ s with deny := updateDeny e s.deny }, okWith (be8 2 ++ be16 s.deny.length)) :=
  (if_neg h).trans (if_pos ((denyEntry?_isSome s e.rider).mpr known))

variable (new : ∀ x ∈ s.deny, x.rider ≠ e.rider)
include new

theorem denyAdd_inserts (room : s.deny.length < 1024) :
    denyAdd e s = ({ s with deny := insertDeny e s.deny }, okWith (be8 1 ++ be16 (s.deny.length + 1))) :=
  (if_neg h).trans ((if_neg (denyEntry?_unknown new)).trans (if_pos room))

theorem denyAdd_full (full : s.deny.length = 1024) : denyAdd e s = (s, statusOnly .full) :=
  (if_neg h).trans ((if_neg (denyEntry?_unknown new)).trans (if_neg (by omega)))

end Add

/-- Settles O28: the four branches of DENY_ADD, with the insertion that keeps the order. -/
theorem denyAddOutcomes : Obligations.DenyAddOutcomes := by
  intro s rider reason flag expiry hs h e bad i
  have shape : bad ↔ e.rider = 0 ∨ e.reason = 0 ∨ 15 < e.reason := by
    simp only [bad, e, eq_zero_iff_toNat]
  have order : Ascending s.deny := h.denyAscending
  rw [shape]
  refine ⟨fun b => exec_denyAdd hs (denyAdd_range b), fun good known => exec_denyAdd hs (denyAdd_updates good known),
    fun good new room => ⟨_, order.insert new, insertDeny_perm e s.deny, ?_⟩,
    fun good new full => exec_denyAdd hs (denyAdd_full good new full)⟩
  exact exec_denyAdd (t := { s with deny := insertDeny e s.deny }) hs (denyAdd_inserts good new room)

/-! ### DENY_REMOVE and DENY_CLEAR -/

theorem exec_denyRemove {s t : State} (hs : s.accepting) {rider : BitVec 32} {p : List Byte}
    (h : denyRemove rider.toNat s.hunting = (t.hunting, p)) : exec (.denyRemove rider) s = .next (t.answered 0xA9 p) :=
  congrArg Host.Outcome.next (takeRequest_done 0x29 hs h)

/-- The entry of a stored rider leaves the list, in force or expired (R56). -/
theorem denyRemove_stored {s : State} (h : ListsKept s) {l r : List DenyEntry} {e : DenyEntry}
    (parts : s.deny = l ++ e :: r) :
    denyRemove e.rider s = ({ s with deny := l ++ r },
      okWith (be8 e.reason ++ beOpt32 e.expiry ++ beFlag (e.inForce s.clock) ++ be16 (l ++ r).length)) := by
  have others : s.deny.filter (fun x => decide (x.rider ≠ e.rider)) = l ++ r := by
    rw [parts, (ascending_split h parts).others]
  rw [denyRemove, if_neg (stored_rider_ne_zero h parts), denyEntry?_stored h parts]
  simp only [others]

theorem denyRemove_unknown {s : State} {rider : Nat} (known : rider ≠ 0) (none : ∀ e ∈ s.deny, e.rider ≠ rider) :
    denyRemove rider s = (s, [3] ++ be16 s.deny.length) := by
  rw [denyRemove, if_neg known, denyEntry?_none none]
  rfl

/-- Settles O29: by the entries around a stored one, which are those that stay. -/
theorem denyRemoveAndClear : Obligations.DenyRemoveAndClear := by
  refine ⟨fun s rider hs h => ⟨fun zero => ?_, fun l r e parts he => ?_, fun known none => ?_⟩, fun s hs => ?_⟩
  · exact exec_denyRemove (t := s) hs (if_pos (by rw [zero]; rfl))
  · refine exec_denyRemove (t := { s with deny := l ++ r }) hs ?_
    rw [← he, denyRemove_stored h.hunting parts]
    simp only [okWith, List.append_assoc]
    rfl
  · exact exec_denyRemove (t := s) hs (denyRemove_unknown (mt (eq_zero_iff_toNat rider).mpr known) none)
  · exact congrArg Host.Outcome.next (takeRequest_done 0x2A (t := { s.hunting with deny := [] }) hs rfl)

end Sys2Proof.Machine
end

section
/-! The station clock and its sweeps: O20, O21. -/

namespace Sys2Proof.Machine

/-! ### The sweeps in the words of R52 and R63 -/

/-- The deny sweep keeps the entries without expiry or with a later one (R52). -/
theorem DenyEntry.not_swept (minute : Nat) (e : DenyEntry) :
    (!e.swept minute) = e.expiry.all fun y => decide (minute < y) := by
  unfold DenyEntry.swept
  cases e.expiry with
  | none => rfl
  | some x => by_cases h : x ≤ minute <;> simp [h, Nat.not_le.mp, Nat.not_lt.mpr]

/-- The spent sweep keeps HELD entries and those with a later end minute (R63). -/
theorem SpentEntry.not_swept (minute : Nat) (e : SpentEntry) :
    (!e.swept minute) = decide (e.state = .held ∨ minute < e.endMinute) := by
  unfold SpentEntry.swept
  cases h : e.state <;> simp [← decide_not]

theorem sweep_eq (s : State) : sweep s = { s with
    deny := s.deny.filter fun e => e.expiry.all fun y => decide (s.clock.minute < y)
    spent := s.spent.filter fun e => decide (e.state = .held ∨ s.clock.minute < e.endMinute) } := by
  unfold sweep
  simp only [DenyEntry.not_swept, SpentEntry.not_swept]

/-! ### SET_TIME -/

theorem be8_byte (x : Byte) : be8 x.toNat = [x] := by rw [be8, BitVec.ofNat_toNat, BitVec.setWidth_eq]

theorem setTime_range (m x : Nat) (s : State) (h : 59 < x) : setTime m x s = (s, statusOnly .range) := if_pos h

theorem setTime_sets (m x : Nat) (s : State) (h : x ≤ 59) : setTime m x s =
    let t := sweep { s with clock := ⟨m, x, 0, true, false⟩ }
    (t, okWith (be32 s.clock.minute ++ be8 s.clock.second ++ beFlag s.clock.isSet ++ be32 m ++ be8 x
      ++ be16 (s.deny.length - t.deny.length) ++ be16 (s.spent.length - t.spent.length))) := if_neg (Nat.not_lt.mpr h)

/-- Settles O20: the refusal, and the clock with both sweeps. -/
theorem setTimeSetsTheClock : Obligations.SetTimeSetsTheClock := by
  intro s m x hs
  refine ⟨fun h => ?_, fun h => ?_⟩
  · exact congrArg Host.Outcome.next (takeRequest_done 0x10 hs (setTime_range m.toNat x.toNat s.hunting h))
  · have done := takeRequest_done 0x10 hs (setTime_sets m.toNat x.toNat s.hunting h)
    refine (congrArg Host.Outcome.next done).trans ?_
    rw [sweep_eq, be8_byte]
    simp only [okWith, List.append_assoc]
    rfl

/-! ### The second boundary -/

theorem exec_clockSecond (s : State) (supply : s.crystalRuns = true) :
    exec .clockSecond s = .next (if s.clock.boundary then clockSecond s else s) := by
  simp [exec, execClockSecond, State.secondDue, supply]

theorem exec_minuteEvent (s : State) (supply : s.crystalRuns = true) :
    exec .minuteEvent s = .next (if s.clock.boundary && s.clock.minuteDue then minuteEvent s else s) := by
  simp [exec, execMinuteEvent, State.secondDue, supply]

/-- A second boundary that is due is due as the event that it is (R180, log 18). -/
theorem clock_due (s : State) (supply : s.crystalRuns = true) (h : s.clock.boundary = true) :
    (if s.clock.minuteDue then .minuteEvent else .clockSecond) ∈ s.due := by
  refine List.mem_append_left _ (mem_eventIf.mpr ⟨?_, rfl⟩)
  rw [State.secondDue, supply, h]
  rfl

theorem Clock.minuteDue_iff (k : Clock) : k.minuteDue = true ↔ k.isSet = true ∧ 59 ≤ k.second := by
  simp [Clock.minuteDue]

/-- The clock after a minute event, before the sweeps (R180). -/
def State.nextMinute (s : State) : State :=
  { s with clock := ⟨min 4294967295 (s.clock.minute + 1), 0, 0, s.clock.isSet, false⟩ }

theorem minuteEvent_eq (s : State) : minuteEvent s = if s.running then sweep s.nextMinute else s.nextMinute := rfl

section Boundary
variable {s : State} (supply : s.crystalRuns = true)
include supply

theorem clock_idle (h : s.clock.boundary = false) : exec .clockSecond s = .next s ∧ exec .minuteEvent s = .next s := by
  simp [exec_clockSecond s supply, exec_minuteEvent s supply, h]

variable (due : s.clock.boundary = true)
include due

/-- A boundary that is no minute event raises the second or returns it to 0 (R180, R182). -/
theorem clock_second (h : s.clock.minuteDue = false) :
    exec .clockSecond s = .next { s with clock := { s.clock with
      second := if s.clock.second < 59 then s.clock.second + 1 else 0, phase := 0, boundary := false } } ∧
    exec .minuteEvent s = .next s ∧ .clockSecond ∈ s.due := by
  refine ⟨?_, ?_, ?_⟩
  · rw [exec_clockSecond s supply, due, if_pos rfl, clockSecond, h]
    rfl
  · rw [exec_minuteEvent s supply, h, Bool.and_false]
    rfl
  · have := clock_due s supply due
    rw [h] at this
    exact this

/-- A minute event is taken by either command (R180, log 18). -/
theorem clock_minute (h : s.clock.minuteDue = true) :
    exec .clockSecond s = .next (minuteEvent s) ∧ exec .minuteEvent s = .next (minuteEvent s) ∧ .minuteEvent ∈ s.due := by
  refine ⟨?_, ?_, ?_⟩
  · rw [exec_clockSecond s supply, due, if_pos rfl, clockSecond, h, if_pos rfl]
  · rw [exec_minuteEvent s supply, due, h]
    rfl
  · have := clock_due s supply due
    rw [h] at this
    exact this

end Boundary

/-- Settles O21: the boundary is a minute event or it is not, and a minute event sweeps where the part runs. -/
theorem secondsAndMinuteEvents : Obligations.SecondsAndMinuteEvents := by
  intro s supply m t
  have supply : s.crystalRuns = true := by rw [State.crystalRuns, Bool.or_eq_true]; exact supply
  have next (set : s.clock.isSet = true) : s.nextMinute = t := by rw [State.nextMinute, set]
  refine ⟨clock_idle supply, fun due => ?_⟩
  have taken (last : 59 ≤ s.clock.second) (set : s.clock.isSet = true) :=
    clock_minute supply due (s.clock.minuteDue_iff.mpr ⟨set, last⟩)
  refine ⟨fun below => ?_, fun last unset => ?_, fun last set => ?_, fun last set stops => ?_, fun last set works => ?_⟩
  · have second := clock_second supply due (by simp [Clock.minuteDue, below])
    rwa [if_pos below] at second
  · have second := clock_second supply due (by simp [Clock.minuteDue, unset])
    rwa [if_neg (Nat.not_lt.mpr last)] at second
  · obtain ⟨byBoundary, byMinute, listed⟩ := taken last set
    exact ⟨byBoundary.trans byMinute.symm, listed⟩
  · have stopped : s.running = false := by rcases stops with h | h <;> simp [State.running, h]
    obtain ⟨-, byMinute, -⟩ := taken last set
    rw [byMinute, minuteEvent_eq, next set, stopped]
    rfl
  · obtain ⟨-, byMinute, -⟩ := taken last set
    rw [byMinute, minuteEvent_eq, next set, works.running, if_pos rfl, sweep_eq]

end Sys2Proof.Machine
end

section
/-! The acceptance of a PRESENT: O31. -/

namespace Sys2Proof.Machine

/-- Where no step fails, the admission accepts (R68). -/
theorem admission_of_no_failure {s : State} (h : ListsKept s) {n : Byte} {t : Token} (none : admissionFailures n t s = []) :
    ∃ a, admission n t s.hunting = .accepted a :=
  (answers_hunting h none).accepted rfl

theorem bayOf?_eq {n : Byte} {b : BayIx} (h : bayOf? n = some b) : n.toNat = b.val + 1 := by
  unfold bayOf? at h
  split at h
  · cases h
    simp only
    omega
  · cases h

/-- The hold at acceptance (R115). -/
theorem holdOf_eq (p : Plan) (credit : Nat) (f : Tariff) :
    holdOf p credit f = if p = .member then 0 else min credit f.rideCap := by cases p <;> rfl

/-- The spent list after an acceptance (R60). -/
theorem holdSpent_eq (p : Plan) (t : Token) (s : State) : holdSpent p t s = { s with
    spent := if p = .casual then s.spent ++ [⟨t.rider.toNat, t.serial.toNat,
      min 4294967295 (t.issue.toNat + t.span.toNat), .held⟩] else s.spent } := by
  unfold holdSpent endMinute
  split <;> rfl

/-- A bay not under the staff mark whose record joins a rental makes the committed count rise by 2 (R126). -/
theorem committedSum_accepted {s t : State} {b : BayIx} {k : Fin 64} {r : Rental} {y : Bay} (free : s.rentals[k] = none)
    (pending : r.stage = .pending) (unlinked : (s.bay b).link = .unlinked) (link : y.link = .rental k)
    (journal : t.journal = s.journal) (rentals : t.rentals = s.rentals.set k.val (some r) k.isLt)
    (bays : t.bays = s.bays.set b.val y b.isLt) : t.committedSum = s.committedSum + 2 := by
  have slots := sum_changed (fun j => slotWeight t.rentals[j]) (fun j => slotWeight s.rentals[j]) k fun j e => by
    rw [rentals]
    exact congrArg slotWeight (State.setRental_get_ne s k j (some r) e)
  have before : slotWeight s.rentals[k] = 0 := by rw [free]; rfl
  have after : slotWeight t.rentals[k] = 2 := by simp [rentals, slotWeight, pending]
  have weights : (List.finRange 32).map (fun o => bayWeight t.bays[o]) =
      (List.finRange 32).map fun o => bayWeight s.bays[o] := by
    refine List.map_congr_left fun o _ => ?_
    by_cases e : o = b
    · subst e
      have none : bayWeight s.bays[o] = 0 := by rw [bayWeight, show s.bays[o].link = _ from unlinked]
      rw [none, bays]
      simp [bayWeight, link]
    · have ne : b.val ≠ o.val := fun v => e (Fin.ext v.symm)
      simp [bays, ne]
  simp only [before, after] at slots
  unfold State.committedSum
  rw [weights, journal]
  omega

/-- The whole effect of an acceptance at a docked bay (R60, R75 to R77, R91). -/
theorem acceptRental_docked (a : Acceptance) (t : Token) (s : State) (docked : (s.bay a.bay).state = .docked) :
    acceptRental a t s = { s with
      rentals := s.rentals.set a.slot.val (some (acceptedRental a t s.ms)) a.slot.isLt
      spent := if a.plan = .casual then s.spent ++ [⟨t.rider.toNat, t.serial.toNat,
        min 4294967295 (t.issue.toNat + t.span.toNat), .held⟩] else s.spent
      queue := s.queue ++ [⟨a.bay, .unlatchRental, s.nextOrder⟩], nextOrder := s.nextOrder + 1
      bays := s.bays.set a.bay.val { s.bay a.bay with
        state := .unlatching, link := .rental a.slot, driveStage := .queued, attempts := 0, lastOutcome := .noOutcome
        tagWindow := none, deadline := .running (s.ms + 1000 * s.settings.deadline), lamp := .slow
        lampPhase := if (s.bay a.bay).lamp = .slow then (s.bay a.bay).lampPhase else 0
        lampSince := if (s.bay a.bay).lamp = .slow then (s.bay a.bay).lampSince else s.ms } a.bay.isLt
      changes := { s.changes with
        bays := s.changes.bays.set a.bay.val { s.changes.bays[a.bay] with state := true } a.bay.isLt } } := by
  rw [acceptRental, holdSpent_eq]
  exact takeRelease_docked a.bay (.rental a.slot) _ .unlatchRental docked fun y st li => by simp [Bay.requestKind, st, li]

/-- Settles O31: the admission that fails no step accepts, and `acceptRental_docked` says what the acceptance makes. -/
theorem presentAcceptance : Obligations.PresentAcceptance := by
  intro s n t hs h none
  obtain ⟨a, accepted⟩ := admission_of_no_failure h none
  have found := admission_accepted accepted
  have docked : (s.bay a.bay).state = .docked := Bay.rentable_docked (admission_rentable accepted)
  obtain ⟨free, lowest⟩ := freeSlot?_spec found.slot
  have answer : presentToken n t s.hunting =
      (acceptRental a t s.hunting, presentPayload .accepted a.slot.val a.hold 0) := by rw [presentToken, accepted]
  have done := takeRequest_done 0x30 hs answer
  rw [acceptRental_docked a t s.hunting docked, acceptedRental, found.hold, holdOf_eq] at done
  refine ⟨a.bay, a.slot, a.plan, a.identity, a.tariff, _, bayOf?_eq found.bay, found.plan, found.identity, found.tariff,
    free, lowest, congrArg Host.Outcome.next done, rfl, fun unlinked => ?_⟩
  exact committedSum_accepted free rfl unlinked rfl rfl rfl rfl

end Sys2Proof.Machine
end

section
/-! Work at the bays keeps the stored values in range, the rental records legal, and each bike at one bay (O6). -/

namespace Sys2Proof.Machine

/-! ### What a bay names -/

/-- The record `z` names no bike that `y` does not name (R94). -/
def Bay.NamesWithin (y z : Bay) : Prop := ∀ bike, z.names bike = true → y.names bike = true

theorem Bay.NamesWithin.refl (y : Bay) : y.NamesWithin y := fun _ h => h

/-- Identity and pending tag stand or go. -/
theorem Bay.namesWithin_of {y z : Bay} (i : z.identity = y.identity ∨ z.identity = none)
    (p : z.pendingTag = y.pendingTag ∨ z.pendingTag = none) : y.NamesWithin z := by
  intro bike h
  rw [Bay.names, Bool.or_eq_true] at h ⊢
  rcases h with h | h
  · rcases i with i | i <;> rw [i] at h
    · exact .inl h
    · cases h
  · rcases p with p | p <;> rw [p] at h
    · exact .inr h
    · cases h

theorem Bay.clearBike_names (y : Bay) : y.NamesWithin y.clearBike := Bay.namesWithin_of (.inr rfl) (.inl rfl)

theorem Bay.rederived_names (m : Nat) (y : Bay) : y.NamesWithin (y.rederived m) := by
  unfold Bay.rederived
  simp only
  split
  · exact Bay.namesWithin_of (.inr rfl) (.inl rfl)
  · exact Bay.namesWithin_of (.inl rfl) (.inl rfl)

theorem Bay.changedTo_names (now : Nat) (new : BayState) (p : LampPattern) (y : Bay) :
    y.NamesWithin (y.changedTo now new p) := by
  refine Bay.namesWithin_of (.inl (Bay.changedTo_bike now new p y).2.1) ?_
  unfold Bay.changedTo
  split
  · exact .inl rfl
  · by_cases v : y.state = .vacant
    · exact .inr (if_pos v)
    · exact .inl (if_neg v)

theorem State.bay_congr {s t : State} (h : t.bays = s.bays) (b : BayIx) : t.bay b = s.bay b := by
  rw [State.bay, h, State.bay]

/-- No bay but `b` names the bike. -/
theorem not_namedElsewhere_iff (s : State) (b : BayIx) (bike : Nat) :
    ¬ s.namedElsewhere b bike = true ↔ ∀ o, o ≠ b → (s.bay o).names bike = false := by
  simp [State.namedElsewhere, allBays]

/-! ### The stored values -/

/-- The items that stand in ranges of their own. -/
def State.ranged (s : State) :=
  (s.settings, s.latchProfile, s.unlatchProfile, s.thresholds, s.tariffs, s.clock, s.ms, s.samples, s.rejections)

theorem AtBays.ranged {s t : State} (h : AtBays s t) : t.ranged = s.ranged := by rw [h]; rfl

theorem RangesKept.of_ranged {s t : State} (h : RangesKept s) (e : t.ranged = s.ranged) : RangesKept t := by
  simp only [State.ranged, Prod.mk.injEq] at e
  obtain ⟨settings, latch, unlatch, thresholds, tariffs, clock, ms, samples, rejections⟩ := e
  constructor
  · rw [settings]; exact h.settings
  · rw [latch]; exact h.latch
  · rw [unlatch]; exact h.unlatch
  · rw [thresholds]; exact h.thresholds
  · rw [tariffs]; exact h.tariffs
  · rw [clock]; exact h.clock
  · rw [clock]; exact h.unset
  · rw [ms]; exact h.timeBase
  · rw [samples, rejections]; exact h.filter

/-- `t` keeps of `s` what O6 says that a step keeps. -/
structure KeepsStored (s t : State) : Prop where
  ranges  : RangesKept s → RangesKept t
  rentals : RentalsKept s → RentalsKept t
  names   : NamesKept s → NamesKept t

namespace KeepsStored

theorem refl (s : State) : KeepsStored s s := ⟨id, id, id⟩

theorem trans {s t u : State} (h : KeepsStored s t) (k : KeepsStored t u) : KeepsStored s u :=
  ⟨fun r => k.ranges (h.ranges r), fun r => k.rentals (h.rentals r), fun n => k.names (h.names n)⟩

theorem names_within {s t : State} (h : ∀ o, (s.bay o).NamesWithin (t.bay o)) (k : NamesKept s) : NamesKept t :=
  ⟨fun b o bike hb ho => k.oneBay b o bike (h b bike hb) (h o bike ho)⟩

/-- Records leave the rental table, and names leave the bays. -/
theorem of_fewer {s t : State} (ranged : t.ranged = s.ranged)
    (rentals : ∀ (k : Fin 64) r, t.rentals[k] = some r → s.rentals[k] = some r)
    (names : ∀ o, (s.bay o).NamesWithin (t.bay o)) : KeepsStored s t where
  ranges h := h.of_ranged ranged
  rentals h := by
    have tariffs : t.tariffs = s.tariffs := congrArg (fun x => x.2.2.2.2.1) ranged
    exact ⟨by rw [tariffs]; exact h.tariffs, fun k r stored => h.records k r (rentals k r stored)⟩
  names := names_within names

/-- Names leave the bays, and all else that O6 speaks of stands. -/
theorem of_names {s t : State} (ranged : t.ranged = s.ranged) (rentals : t.rentals = s.rentals)
    (names : ∀ o, (s.bay o).NamesWithin (t.bay o)) : KeepsStored s t :=
  of_fewer ranged (fun k r stored => by rw [← rentals]; exact stored) names

/-- Nothing that O6 speaks of has changed. -/
theorem of_same {s t : State} (ranged : t.ranged = s.ranged) (rentals : t.rentals = s.rentals) (bays : t.bays = s.bays) :
    KeepsStored s t :=
  of_names ranged rentals fun o => by rw [State.bay_congr bays]; exact .refl _

/-- The stored values and the filter alone change, within their ranges. -/
theorem of_ranges {s t : State} (ranges : RangesKept s → RangesKept t) (tariffs : t.tariffs = s.tariffs)
    (rentals : t.rentals = s.rentals) (bays : t.bays = s.bays) : KeepsStored s t where
  ranges := ranges
  rentals h := ⟨by rw [tariffs]; exact h.tariffs, by rw [rentals]; exact h.records⟩
  names := names_within fun o => by rw [State.bay_congr bays]; exact .refl _

/-- A slot takes a record that is legal where the table was. -/
theorem setRental {s : State} {k : Fin 64} {r : Rental} (legal : RentalsKept s → r.legal) :
    KeepsStored s (s.setRental k (some r)) where
  ranges h := h.of_ranged rfl
  rentals h := by
    refine ⟨h.tariffs, fun j x stored => ?_⟩
    by_cases e : j = k
    · rw [e, Fin.getElem_fin, State.setRental_get_self] at stored
      cases stored
      exact legal h
    · rw [State.setRental_get_ne s k j _ e] at stored
      exact h.records j x stored
  names := names_within fun _ => .refl _

theorem freed {s : State} (k : Fin 64) : KeepsStored s (s.setRental k none) := by
  refine of_fewer rfl (fun j x stored => ?_) fun _ => .refl _
  by_cases e : j = k
  · rw [e, Fin.getElem_fin, State.setRental_get_self] at stored
    cases stored
  · rwa [State.setRental_get_ne s k j _ e] at stored

theorem foldl {α : Type} {f : State → α → State} (h : ∀ t a, KeepsStored t (f t a)) (l : List α) (s : State) :
    KeepsStored s (l.foldl f s) := by
  induction l generalizing s with
  | nil => exact refl s
  | cons a rest ih => exact (h s a).trans (ih _)

/-! ### What writes neither rentals nor names -/

/-- A bay record changes and names no new bike. -/
theorem modBay (s : State) (b : BayIx) (f : Bay → Bay)
    (names : (s.bay b).NamesWithin (f (s.bay b)) := by exact fun _ h => h) : KeepsStored s (s.modBay b f) := by
  refine of_names rfl rfl fun o => ?_
  by_cases e : o = b
  · rw [e, State.modBay_bay_self]; exact names
  · rw [State.modBay_bay_ne s f b o e]; exact .refl _

theorem postBay (s : State) (b : BayIx) (c : BayCause) : KeepsStored s (s.postBay b c) := of_same rfl rfl rfl
theorem raiseAlarm (b : BayIx) (a : Alarm) (s : State) : KeepsStored s (raiseAlarm b a s) :=
  (modBay s b _).trans (postBay _ b _)
theorem clearStage (b : BayIx) (s : State) : KeepsStored s (clearStage b s) := modBay s b _
theorem withdrawRequest (b : BayIx) (s : State) : KeepsStored s (withdrawRequest b s) :=
  .trans (t := s.unqueued b) (of_same rfl rfl rfl) (modBay _ b _)
theorem endRelease (b : BayIx) (o : LastOutcome) (s : State) : KeepsStored s (endRelease b o s) :=
  (modBay s b _).trans (postBay _ b _)
theorem appendRecord (r : JournalRecord) (s : State) : KeepsStored s (appendRecord r s) := by
  rw [appendRecord_frame]; exact of_same rfl rfl rfl
theorem startTagWindow (b : BayIx) (s : State) : KeepsStored s (startTagWindow b s) := by
  unfold Machine.startTagWindow
  split
  · exact modBay s b _
  · exact refl s

theorem changeState (b : BayIx) (n : BayState) (s : State) : KeepsStored s (changeState b n s) := by
  rw [changeState_eq_entered]
  refine of_names rfl rfl fun o => ?_
  by_cases e : o = b
  · rw [e, State.entered_bay]; exact Bay.changedTo_names _ _ _ _
  · rw [← changeState_eq_entered, changeState_other b o n s e]; exact .refl _

theorem postRequest (b : BayIx) (s : State) : KeepsStored s (postRequest b s) := by
  unfold Machine.postRequest
  split
  · refine .trans (t := { s with queue := _, nextOrder := _ }) ?_ (modBay _ b _)
    exact of_same rfl rfl rfl
  · exact refl s

theorem enterLatching (b : BayIx) (s : State) : KeepsStored s (enterLatching b s) :=
  (changeState b _ s).trans ((modBay _ b _).trans (postRequest b _))
theorem enterUnlatching (b : BayIx) (l : Link) (s : State) : KeepsStored s (enterUnlatching b l s) :=
  (changeState b _ s).trans ((modBay _ b _).trans (postRequest b _))

/-! ### Returns and the entries to bay states -/

/-- Return processing takes an OPEN record from the table and names no bike. -/
theorem processReturn (b : BayIx) (s : State) : KeepsStored s (processReturn b s) := by
  refine of_fewer (AtBays.processReturn b s).ranged (Returns.processReturn b s).rentals fun o => ?_
  by_cases e : o = b
  · rw [e, processReturn_bay]; exact fun _ h => h
  · rw [processReturn_other b o s e]; exact .refl _

theorem flush (s : State) : KeepsStored s (flush s) := by
  obtain ⟨n, f, -, rentals, -, returns⟩ := flush_returns s
  refine of_fewer (AtBays.flush s).ranged (fun k r stored => ?_) fun o => ?_
  · rw [← rentals]; exact returns.rentals k r stored
  · rw [(Bay.Flushed.flush o s).frame]; exact fun _ h => h

theorem secured (b : BayIx) (s : State) : KeepsStored s (secured b s) := (startTagWindow b s).trans (processReturn b _)

theorem enterDocked (b : BayIx) (s : State) : KeepsStored s (enterDocked b s) := (changeState b _ s).trans (secured b _)

theorem enterFault (b : BayIx) (s : State) : KeepsStored s (enterFault b s) := by
  unfold Machine.enterFault
  simp only
  split
  · exact (changeState b _ s).trans (secured b _)
  · exact changeState b _ s

theorem rederive (b : BayIx) (s : State) : KeepsStored s (rederive b s) := by
  unfold Machine.rederive
  simp only
  refine (modBay s b (Bay.rederived s.clock.minute) (Bay.rederived_names _ _)).trans ?_
  split
  · exact enterDocked b _
  · exact enterLatching b _
  · exact changeState b _ _
  · exact enterUnlatching b _ _

/-! ### The stages of a rental -/

theorem removeRental (k : Fin 64) (r : Rental) (s : State) : KeepsStored s (removeRental k r s) := by
  rw [removeRental_frame]
  exact (freed k).trans (of_same (s := s.setRental k none) rfl rfl rfl)

theorem discardRelease (b : BayIx) (o : LastOutcome) (s : State) : KeepsStored s (discardRelease b o s) := by
  unfold Machine.discardRelease
  split
  · split
    · exact (removeRental _ _ s).trans ((endRelease b o _).trans (flush _))
    · exact endRelease b o s
  · exact (endRelease b o s).trans (flush _)
  · exact refl s
  · exact refl s

/-- At the removal of its bike a record takes its checkout minute as it passes to OPEN (R82, R90). -/
theorem openRental {k : Fin 64} {r : Rental} {s : State} (h : s.heldRental? k = some r) :
    KeepsStored s (openRental k r s) := by
  rw [openRental_frame]
  refine .trans (setRental (k := k) (r := { r with stage := .opened, checkout := some s.clock.minute }) fun kept => ?_)
    (of_same (s := s.setRental k _) rfl rfl rfl)
  obtain ⟨hold, tariff, -⟩ := kept.records k r (heldRental?_spec h).1
  exact ⟨hold, tariff, iff_of_true rfl rfl⟩

theorem removeBike (b : BayIx) (s : State) : KeepsStored s (removeBike b s) := by
  unfold Machine.removeBike
  simp only
  refine .trans ?_ ((endRelease b .checkedOut _).trans (modBay _ b Bay.clearBike (Bay.clearBike_names _)))
  split
  · split
    · next found => exact openRental found
    · exact refl s
  · exact appendRecord _ s
  · exact refl s
  · exact refl s

/-- A record that passes from PENDING to RELEASED has no checkout minute (R80, R90). -/
theorem releaseRental (b : BayIx) (s : State) : KeepsStored s (releaseRental b s) := by
  unfold Machine.releaseRental
  split
  · split
    · next found =>
      refine setRental fun kept => ?_
      obtain ⟨stored, held⟩ := heldRental?_spec found
      obtain ⟨hold, tariff, checkout⟩ := kept.records _ _ stored
      exact ⟨hold, tariff, iff_of_false (fun c => held (checkout.mp c)) nofun⟩
    · exact refl s
  all_goals exact refl s

end KeepsStored
end Sys2Proof.Machine
end

section
/-! The events of bays, channels and timers keep the stored values, the rental records and the names (O6). -/

namespace Sys2Proof.Machine.KeepsStored

/-- An effect that comes or not. -/
theorem taken {cond : Prop} [Decidable cond] {s t : State} (h : KeepsStored s t) :
    KeepsStored s (if cond then t else s) := by
  split
  · exact h
  · exact refl s

/-! ### Completions -/

theorem retryOrFault (b : BayIx) (c : FaultCause) (s : State) : KeepsStored s (retryOrFault b c s) := by
  unfold Machine.retryOrFault
  simp only
  split
  · exact modBay s b _
  · exact (modBay s b _ (Bay.namesWithin_of (.inl rfl) (.inr rfl))).trans
      ((discardRelease b _ _).trans ((modBay _ b _).trans (enterFault b _)))

theorem completeChanged (b : BayIx) (s : State) : KeepsStored s (completeChanged b s) := (modBay s b _).trans (rederive b _)

theorem completeLatch (b : BayIx) (r : PulseResult) (s : State) : KeepsStored s (completeLatch b r s) := by
  unfold Machine.completeLatch
  split
  · exact completeChanged b s
  · cases r with
    | done =>
      simp only
      split
      · exact (clearStage b s).trans (enterDocked b _)
      · exact retryOrFault b _ s
    | jam => exact retryOrFault b _ s
    | abort => exact (clearStage b s).trans (postRequest b _)

theorem completeReady (b : BayIx) (r : PulseResult) (s : State) : KeepsStored s (completeReady b r s) := by
  unfold Machine.completeReady
  split
  · exact completeChanged b s
  · cases r with
    | done => exact (clearStage b s).trans ((modBay _ b _).trans (rederive b _))
    | jam => exact retryOrFault b _ s
    | abort => exact (clearStage b s).trans (postRequest b _)

theorem enterReleased (b : BayIx) (s : State) : KeepsStored s (enterReleased b s) :=
  (clearStage b s).trans ((releaseRental b _).trans ((changeState b _ _).trans (modBay _ b _)))

theorem completeRelease (b : BayIx) (r : PulseResult) (s : State) : KeepsStored s (completeRelease b r s) := by
  have discard (o : LastOutcome) : KeepsStored s (Machine.rederive b (Machine.discardRelease b o (Machine.clearStage b s))) :=
    (clearStage b s).trans ((discardRelease b o _).trans (rederive b _))
  unfold Machine.completeRelease
  split
  · exact completeChanged b s
  · cases r with
    | done => exact enterReleased b s
    | jam =>
      simp only
      split
      · exact discard .jammed
      · exact retryOrFault b _ s
    | abort => exact discard .powerAbort

theorem complete (b : BayIx) (k : DriveKind) (r : PulseResult) (s : State) : KeepsStored s (complete b k r s) := by
  refine taken ?_
  cases k with
  | latch => exact completeLatch b r s
  | unlatchReady => exact completeReady b r s
  | unlatchRental | unlatchStaff => exact completeRelease b r s

/-! ### Sense events -/

theorem presenceMoved (b : BayIx) (s : State) : KeepsStored s (presenceMoved b s) := by
  unfold Machine.presenceMoved
  split
  · exact modBay s b _
  · exact (modBay s b _).trans ((withdrawRequest b _).trans (rederive b _))

theorem recordArrival (b : BayIx) (s : State) : KeepsStored s (recordArrival b s) := modBay s b _

/-- The pending tag of an arrival was the bay's own name already (R5). -/
theorem vacantRise (b : BayIx) (s : State) : KeepsStored s (vacantRise b s) := by
  have identified : KeepsStored s ((Machine.recordArrival b s).modBay b fun y => match y.pendingTag with
      | some p => { y with identity := some p.identity, pendingTag := none }
      | none => y) := by
    refine (recordArrival b s).trans (modBay _ b _ fun bike named => ?_)
    split at named
    · next p tag => rw [Bay.names, tag, Option.any_some, Bool.or_eq_true]; simpa [Bay.names] using Or.inr named
    · exact named
  unfold Machine.vacantRise
  simp only
  split
  · exact identified.trans (enterLatching b _)
  · exact identified.trans (enterDocked b _)

theorem forgetBike (b : BayIx) (s : State) : KeepsStored s (forgetBike b s) := modBay s b _ (Bay.clearBike_names _)

theorem dockedFall (b : BayIx) (s : State) : KeepsStored s (dockedFall b s) :=
  (taken (raiseAlarm b .unrentedRemoval s)).trans ((forgetBike b _).trans ((modBay _ b _).trans (rederive b _)))

theorem faultFall (b : BayIx) (s : State) : KeepsStored s (faultFall b s) := by
  unfold Machine.faultFall
  exact (taken (raiseAlarm b .unrentedRemoval s)).trans ((forgetBike b _).trans (modBay _ b _))

theorem unlatchingFall (b : BayIx) (s : State) : KeepsStored s (unlatchingFall b s) := by
  have moved : KeepsStored s (Machine.presenceMoved b (Machine.removeBike b s)) := (removeBike b s).trans (presenceMoved b _)
  unfold Machine.unlatchingFall
  cases (s.bay b).link with
  | rental | staff => exact moved
  | readiness | unlinked => exact modBay s b _

theorem unlatchingRise (b : BayIx) (s : State) : KeepsStored s (unlatchingRise b s) := by
  unfold Machine.unlatchingRise
  cases (s.bay b).link with
  | readiness => exact (recordArrival b s).trans (presenceMoved b _)
  | unlinked => exact recordArrival b s
  | rental | staff => exact refl s

theorem handlePresence (b : BayIx) (s : State) : KeepsStored s (handlePresence b s) := by
  unfold Machine.handlePresence
  simp only
  split
  case h_1 => exact vacantRise b s
  case h_3 => exact (forgetBike b s).trans (presenceMoved b _)
  case h_4 => exact taken (recordArrival b s)
  case h_5 => exact dockedFall b s
  case h_7 => exact unlatchingFall b s
  case h_8 => exact unlatchingRise b s
  case h_9 => exact (removeBike b s).trans (rederive b _)
  case h_11 => exact faultFall b s
  all_goals exact refl s

theorem handleLatch (b : BayIx) (s : State) : KeepsStored s (handleLatch b s) := by
  unfold Machine.handleLatch
  simp only
  split
  · exact enterUnlatching b _ s
  · exact taken ((withdrawRequest b s).trans ((modBay _ b _).trans (enterDocked b _)))
  · exact (raiseAlarm b _ s).trans ((modBay _ b _).trans (enterLatching b _))
  · exact (discardRelease b _ s).trans (enterDocked b _)
  · exact refl s

/-- The points that are due are written, and a latch that closes ends its drive (R2, R152). -/
theorem drivesEnded (b : BayIx) (s : State) : KeepsStored s (drivesEnded b (s.bay b) s) := by
  obtain ⟨u, e, off⟩ := drivesEnded_frame (b := b) (s.bay b) s
  have ended : KeepsStored s u := by rw [off.frame]; exact of_same rfl rfl rfl
  have record : u.bay b = s.bay b := by rw [off.frame]; rfl
  rw [e]
  refine ended.trans (modBay u b (fun _ => (s.bay b).accept) ?_)
  rw [record, Bay.accept_eq]
  exact fun _ h => h

theorem senseEvent (b : BayIx) (s : State) : KeepsStored s (senseEvent b s) := by
  rw [senseEvent_eq]
  simp only
  generalize hu : (if (s.bay b).presenceDue = true then Machine.handlePresence b (Machine.drivesEnded b (s.bay b) s)
    else Machine.drivesEnded b (s.bay b) s) = u
  have handled : KeepsStored s u := by
    rw [← hu]
    split
    · exact (drivesEnded b s).trans (handlePresence b _)
    · exact drivesEnded b s
  split
  · exact handled.trans (handleLatch b u)
  · exact handled

/-! ### Timers -/

theorem deadlineExpired (b : BayIx) (s : State) : KeepsStored s (deadlineExpired b s) := by
  unfold Machine.deadlineExpired
  split
  · exact modBay s b _
  · exact (withdrawRequest b s).trans ((modBay _ b _).trans ((discardRelease b _ _).trans (rederive b _)))

/-! ### Pulses and the arbiter -/

theorem setChannel (c : Fin 4) (x : Channel) (s : State) : KeepsStored s (s.setChannel c x) := of_same rfl rfl rfl

theorem grantTo (c : Fin 4) (q : DriveRequest) (s : State) : KeepsStored s (grantTo c q s) := by
  have granted : KeepsStored s (({ s with queue := s.queue.erase q }).setChannel c ⟨.driving (grantedPulse q s), 0, 0⟩) :=
    of_same rfl rfl rfl
  exact granted.trans (modBay _ q.bay fun y => { y with driveStage := .driving })

theorem arbitrate (s : State) : KeepsStored s (arbitrate s) :=
  arbitrate_keeps (KeepsStored s) (fun c q t h _ _ _ => h.trans (grantTo c q t)) s (refl s)

theorem refreshChain (s : State) : KeepsStored s (refreshChain s) := by
  rw [refreshChain_frame]; exact of_same rfl rfl rfl

theorem setPulse (c : Fin 4) (p : Pulse) (s : State) : KeepsStored s (s.setPulse c p) := of_same rfl rfl rfl

theorem endDrive (c : Fin 4) (p : Pulse) (s : State) : KeepsStored s (endDrive c p s) := by
  rw [(OffChannels.endDrive c p s).frame]; exact of_same rfl rfl rfl

theorem finishBrake (c : Fin 4) (p : Pulse) (s : State) : KeepsStored s (finishBrake c p s) :=
  (setPulse c _ s).trans (complete _ _ _ _)

theorem endDeadtime (c : Fin 4) (p : Pulse) (s : State) : KeepsStored s (endDeadtime c p s) := by
  unfold Machine.endDeadtime
  split
  · rw [beginKick_eq]
    exact setPulse c _ s
  · unfold endSecondDeadtime
    simp only
    split
    · exact setPulse c _ s
    · split
      · exact (setPulse c _ s).trans (finishBrake c _ _)
      · exact setPulse c _ s
  all_goals exact refl s

theorem reportCoast (p : Pulse) (s : State) : KeepsStored s (reportCoast p s) := by
  unfold Machine.reportCoast
  split
  · exact complete _ _ _ _
  · exact taken (complete _ _ _ _)
  · exact refl s

theorem endCoast (c : Fin 4) (p : Pulse) (s : State) : KeepsStored s (endCoast c p s) := by
  refine taken ((refreshChain s).trans ?_)
  rw [finishCoast_eq]
  exact (reportCoast p _).trans ((setChannel c _ _).trans (arbitrate _))

theorem abortChannel (s : State) (c : Fin 4) : KeepsStored s (abortChannel s c) := by
  unfold Machine.abortChannel
  (repeat' split) <;> exact of_same rfl rfl rfl

theorem changeBand (b : Band) (s : State) : KeepsStored s (changeBand b s) := by
  unfold Machine.changeBand
  split
  · exact refl s
  · refine .trans (t := { s.postBand with band := b }) (of_same rfl rfl rfl) ?_
    simp only
    split
    · exact (foldl abortChannel _ _).trans (arbitrate _)
    · exact arbitrate _

theorem takeEvaluation (s : State) : KeepsStored s (takeEvaluation s) := by
  refine taken (.trans (t := { s with evaluationDue := false }) (of_same rfl rfl rfl) ?_)
  unfold evaluateBand
  split
  · exact refl _
  · exact changeBand _ _

/-! ### The conversions -/

theorem countScan (c : Fin 4) (mA : Nat) (s : State) : KeepsStored s (countScan c mA s) := by
  unfold Machine.countScan
  split
  · exact taken (of_same rfl rfl rfl)
  · exact refl s

/-- The rejection run stays within 200 and the list of samples within 16 (R165). -/
theorem judgeSample (mV : Nat) (s : State) : KeepsStored s (judgeSample mV s) := by
  unfold Machine.judgeSample
  split
  · next kicks => exact of_ranges (fun h => { h with filter := ⟨h.filter.1, kicks.2⟩ }) rfl rfl rfl
  · refine of_ranges (fun h => { h with filter := ⟨?_, Nat.zero_le _⟩ }) rfl rfl rfl
    show ((s.samples ++ [mV]).drop _).length ≤ 16
    rw [List.length_drop]
    omega

theorem whenRunning {s : State} {act : State → State} (k : KeepsStored s (act s)) : KeepsStored s (whenRunning s act) :=
  whenRunning_keeps (KeepsStored s) s act (refl s) fun _ => k

theorem convert {slot : Fin 5} {take : State → State} (k : ∀ t, KeepsStored t (take t)) (s : State) :
    KeepsStored s (convert slot take s) :=
  taken (.trans (t := { s with scanSlot := s.scanSlot + 1 }) (of_same rfl rfl rfl) (k _))

theorem takeCurrent (c : Fin 4) (mA : Nat) (s : State) : KeepsStored s (takeCurrent c mA s) :=
  convert (fun t => .trans (t := { t with currents := t.currents.set c.val mA c.isLt }) (of_same rfl rfl rfl)
    (whenRunning (countScan c mA _))) s

theorem takeBattery (mV : Nat) (s : State) : KeepsStored s (takeBattery mV s) :=
  convert (fun t => .trans (t := { t with battery := mV }) (of_same rfl rfl rfl) (whenRunning (judgeSample mV _))) s

/-! ### An event of a timer or a pulse -/

theorem expire {running : Bay → Option Nat} {b : BayIx} {act : State → State} {s : State} (k : KeepsStored s (act s)) :
    KeepsStored s (expire running b act s) := expire_keeps (KeepsStored s) running b act s (refl s) fun _ => k

theorem pulseEvent {c : Fin 4} {act : Pulse → State → State} {s : State} (k : ∀ p, KeepsStored s (act p s)) :
    KeepsStored s (pulseEvent c act s) := by
  refine whenRunning ?_
  split
  · exact k _
  · exact refl s

end Sys2Proof.Machine.KeepsStored
end

section
/-! O6: the requests that store values, the restarts, every command and the step. -/

namespace Sys2Proof.Machine

/-! ### The ranges of what is stored -/

theorem clampSettings_inRange (t : Settings) : (clampSettings t).inRange := by
  simp only [Settings.inRange, clampSettings, clamp]
  omega

theorem clampTariff_inRange (t : Tariff) : (clampTariff t).inRange := by
  simp only [Tariff.inRange, clampTariff, clamp]
  omega

theorem thresholdsOk_inOrder {t : Thresholds} (h : thresholdsOk t = true) : t.inOrder := by
  simp only [thresholdsOk, thresholdInRange, Bool.and_eq_true, decide_eq_true_eq] at h
  simp only [Thresholds.inOrder]
  omega

/-- The hold of an acceptance is no greater than the ride cap (R115). -/
theorem holdOf_le (p : Plan) (credit : Nat) (t : Tariff) : holdOf p credit t ≤ t.rideCap := by
  cases p with
  | casual | daypass => exact Nat.min_le_right _ _
  | member => exact Nat.zero_le _

namespace KeepsStored

/-! ### The requests that store a value -/

/-- SETTINGS_SET clamps what it stores (R189). -/
theorem settingsSet (t : Settings) (s : State) : KeepsStored s { s with settings := clampSettings t } :=
  of_ranges (fun h => { h with settings := clampSettings_inRange t }) rfl rfl rfl

/-- TARIFF_SET clamps what it stores (R111). -/
theorem tariffSet (p : Fin 3) (t : Tariff) (s : State) :
    KeepsStored s { s with tariffs := s.tariffs.set p.val (some (clampTariff t)) p.isLt } := by
  have stored (kept : ∀ (q : Fin 3) x, s.tariffs[q] = some x → x.inRange) (q : Fin 3) (x : Tariff)
      (e : (s.tariffs.set p.val (some (clampTariff t)) p.isLt)[q] = some x) : x.inRange := by
    rw [Fin.getElem_fin, Vector.getElem_set] at e
    split at e
    · cases e; exact clampTariff_inRange t
    · exact kept q x e
  exact ⟨fun h => { h with tariffs := stored h.tariffs }, fun h => { h with tariffs := stored h.tariffs },
    names_within fun _ => .refl _⟩

theorem supplySet (t : Thresholds) (s : State) : KeepsStored s (supplySet t s).1 := by
  unfold Machine.supplySet
  split
  · next ok => exact of_ranges (fun h => { h with thresholds := thresholdsOk_inOrder ok }) rfl rfl rfl
  · exact refl s

theorem profileSet (n : Byte) (p : Profile) (s : State) : KeepsStored s (profileSet n p s).1 := by
  unfold Machine.profileSet
  split
  · next x _ =>
    cases x with
    | latch => exact of_ranges (fun h => { h with latch := clampProfile_inRange p }) rfl rfl rfl
    | unlatch => exact of_ranges (fun h => { h with unlatch := clampProfile_inRange p }) rfl rfl rfl
  · exact refl s

/-! ### The clock -/

theorem sweep (s : State) : KeepsStored s (sweep s) := of_same rfl rfl rfl

/-- SET_TIME refuses a second above 59 and sets the clock (R184). -/
theorem setTime (minute : BitVec 32) (second : Nat) (s : State) : KeepsStored s (setTime minute.toNat second s).1 := by
  unfold Machine.setTime
  split
  · exact refl s
  · next low =>
    refine .trans (t := { s with clock := ⟨minute.toNat, second, 0, true, false⟩ }) (of_ranges (fun h => ?_) rfl rfl rfl)
      (sweep _)
    exact { h with
      clock := ⟨Nat.le_of_not_lt low, (by decide : 0 < 32768), Nat.le_of_lt_succ minute.isLt⟩
      unset := fun unset => Bool.noConfusion unset }

/-- A minute event comes with the clock set only, and holds the minute at its largest (R180, R182). -/
theorem minuteEvent {s : State} (set : s.clock.isSet = true) : KeepsStored s (minuteEvent s) := by
  rw [minuteEvent_eq]
  have next : KeepsStored s s.nextMinute := of_ranges (fun h => { h with
    clock := ⟨Nat.zero_le _, (by decide : 0 < 32768), Nat.min_le_left _ _⟩
    unset := fun unset => Bool.noConfusion (set.symm.trans unset) }) rfl rfl rfl
  split
  · exact next.trans (sweep _)
  · exact next

theorem clockSecond (s : State) : KeepsStored s (clockSecond s) := by
  unfold Machine.clockSecond
  split
  · next due => exact minuteEvent (s.clock.minuteDue_iff.mp due).1
  · refine of_ranges (fun h => { h with clock := ⟨?_, (by decide : 0 < 32768), h.clock.2.2⟩ }) rfl rfl rfl
    show (if s.clock.second < 59 then s.clock.second + 1 else 0) ≤ 59
    split <;> omega

/-- The millisecond count stays a count of 48 bits, past its end as well (R178, log 6). -/
theorem countUp (s : State) : KeepsStored s (countUp s) := by
  unfold Machine.countUp
  split
  · next below =>
    have bound : s.ms + 1 ≤ maxCount := below
    exact of_ranges (fun h => { h with timeBase := bound }) rfl rfl rfl
  · have free := (Config.countPastEnd s.freeIndex).isLt
    have bound : (Config.countPastEnd s.freeIndex).toNat ≤ maxCount := by unfold maxCount; omega
    exact of_ranges (fun h => { h with timeBase := bound }) rfl rfl rfl

theorem remainder (s : State) (n : Nat) : KeepsStored s { s with msRemainder := n } := of_same rfl rfl rfl

theorem tickCount (s : State) : KeepsStored s (tickCount s) := by
  unfold Machine.tickCount
  split
  · exact remainder s _
  · exact (countUp s).trans (remainder _ _)

theorem tickPhase (s : State) : KeepsStored s (tickPhase s) := by
  unfold Machine.tickPhase
  split
  · next below => exact of_ranges (fun h => { h with clock := ⟨h.clock.1, below, h.clock.2.2⟩ }) rfl rfl rfl
  · exact of_ranges (fun h => { h with clock := ⟨h.clock.1, (by decide : 0 < 32768), h.clock.2.2⟩ }) rfl rfl rfl

theorem crystalPeriod (s : State) : KeepsStored s (crystalPeriod s) :=
  taken ((show KeepsStored s (if s.running then Machine.tickCount s else s) from taken (tickCount s)).trans (tickPhase _))

/-! ### The requests on rentals and bikes -/

/-- The record of an acceptance holds no more than the cap of the tariff it captures (R75, R90, R115). -/
theorem acceptRental {n : Byte} {t : Token} {s : State} {a : Acceptance} (h : Accepted n t s a) :
    KeepsStored s (acceptRental a t s) := by
  have recorded : KeepsStored s (s.setRental a.slot (some (acceptedRental a t s.ms))) := setRental fun kept =>
    ⟨by rw [acceptedRental, h.hold]; exact holdOf_le _ _ _, kept.tariffs _ _ h.tariff, iff_of_false nofun nofun⟩
  unfold Machine.acceptRental takeRelease
  refine recorded.trans (.trans ?_ ((modBay _ a.bay _).trans (enterUnlatching a.bay _ _)))
  unfold holdSpent
  exact taken (of_same rfl rfl rfl)

theorem presentToken (n : Byte) (t : Token) (s : State) : KeepsStored s (presentToken n t s).1 := by
  unfold Machine.presentToken
  split
  · exact refl s
  · next accepted => exact acceptRental (admission_accepted accepted)

/-- A bay takes the name of a bike that no other bay names (R94). -/
theorem named {s : State} {b : BayIx} {bike : Nat} (free : ¬ s.namedElsewhere b bike = true) (f : Bay → Bay)
    (own : ∀ n, (f (s.bay b)).names n = true → (s.bay b).names n = true ∨ n = bike) : KeepsStored s (s.modBay b f) where
  ranges h := h.of_ranged rfl
  rentals h := ⟨h.tariffs, h.records⟩
  names h := by
    have alone {o : BayIx} {n : Nat} (hb : (f (s.bay b)).names n = true) (ho : (s.bay o).names n = true) : b = o := by
      by_contra e
      rcases own n hb with k | rfl
      · exact e (h.oneBay b o n k ho)
      · rw [(not_namedElsewhere_iff s b n).mp free o (Ne.symm e)] at ho
        cases ho
    refine ⟨fun p q n hp hq => ?_⟩
    by_cases ep : p = b <;> by_cases eq : q = b
    · rw [ep, eq]
    · rw [ep, State.modBay_bay_self] at hp
      rw [State.modBay_bay_ne s f b q eq] at hq
      rw [ep]
      exact alone hp hq
    · rw [eq, State.modBay_bay_self] at hq
      rw [State.modBay_bay_ne s f b p ep] at hp
      rw [eq]
      exact (alone hq hp).symm
    · rw [State.modBay_bay_ne s f b p ep] at hp
      rw [State.modBay_bay_ne s f b q eq] at hq
      exact h.oneBay p q n hp hq

theorem clearUnidentified (b : BayIx) (s : State) : KeepsStored s (clearUnidentified b s) :=
  taken ((modBay s b _).trans (postBay _ b _))

theorem assignIdentity {b : BayIx} {i : Identity} {s : State} (free : ¬ s.namedElsewhere b i.bike = true) :
    KeepsStored s (assignIdentity b i s) := by
  unfold Machine.assignIdentity
  refine (named free _ fun n h => ?_).trans ((clearUnidentified b _).trans (processReturn b _))
  simp only [Bay.names, Option.any_some, Bool.or_eq_true, decide_eq_true_eq] at h ⊢
  exact h.elim (fun e => .inr e.symm) fun e => .inl (.inr e)

theorem setPendingTag {b : BayIx} {i : Identity} {s : State} (free : ¬ s.namedElsewhere b i.bike = true) :
    KeepsStored s (setPendingTag b i s) := by
  refine named free _ fun n h => ?_
  simp only [Bay.names, Option.any_some, Bool.or_eq_true, decide_eq_true_eq] at h ⊢
  exact h.elim (fun e => .inl (.inl e)) fun e => .inr e.symm

/-- A bay takes a tag only where no other bay names the bike (R94, R101). -/
theorem tagBay (b : BayIx) (i : Identity) (s : State) : KeepsStored s (tagBay b i s).1 := by
  unfold Machine.tagBay
  split
  · exact raiseAlarm b _ s
  · next free =>
    split
    · exact refl s
    · split
      · exact setPendingTag free
      · split
        · exact assignIdentity free
        · next known identity =>
          split
          · refine modBay s b (fun y => { y with identity := some { known with battery := i.battery } }) fun n h => ?_
            rw [Bay.names, identity]
            exact h
          · exact raiseAlarm b _ s

theorem bikeTag (n : Byte) (bike : Nat) (cls : Byte) (pct : Nat) (s : State) : KeepsStored s (bikeTag n bike cls pct s).1 := by
  unfold Machine.bikeTag
  split
  · split
    · exact refl s
    · exact tagBay _ _ s
  · exact refl s

theorem rentalClose (bike : Nat) (s : State) : KeepsStored s (rentalClose bike s).1 := by
  unfold Machine.rentalClose
  split
  · exact refl s
  · split
    · exact (freed _).trans (flush _)
    · exact refl s

/-! ### The other requests -/

theorem journalRelease (n : Nat) (s : State) : KeepsStored s (journalRelease n s).1 := by
  unfold Machine.journalRelease
  split
  · exact refl s
  · split
    · exact refl s
    · exact .trans (t := dropRecords n s) (of_same rfl rfl rfl) (flush _)

theorem serviceOn (b : BayIx) (s : State) : KeepsStored s (serviceOn b s).1 := by
  unfold Machine.serviceOn
  split
  · exact (modBay s b Bay.quiet (Bay.namesWithin_of (.inl rfl) (.inr rfl))).trans (changeState b _ _)
  · exact refl s

theorem serviceOff (b : BayIx) (s : State) : KeepsStored s (serviceOff b s).1 := by
  unfold Machine.serviceOff
  split
  · exact rederive b s
  · exact refl s

theorem clearBay (b : BayIx) (s : State) : KeepsStored s (clearBay b s).1 := by
  unfold Machine.clearBay
  simp only
  split
  · exact (modBay s b _).trans ((modBay _ b _).trans (rederive b _))
  · exact modBay s b _

theorem staffUnlatch (b : BayIx) (s : State) : KeepsStored s (staffUnlatch b s).1 := by
  unfold Machine.staffUnlatch
  repeat' split
  case _ => exact refl s
  case _ => exact refl s
  case _ => exact (modBay s b _).trans (enterUnlatching b _ _)

theorem atBay {n : Byte} {act : BayIx → State → State × List Byte} {s : State} (k : ∀ b, KeepsStored s (act b s).1) :
    KeepsStored s (atBay n act s).1 := by
  unfold Machine.atBay
  split
  · exact k _
  · exact refl s

theorem channelEnable (n : Byte) (s : State) : KeepsStored s (channelEnable n s).1 := by
  unfold Machine.channelEnable
  split
  · exact taken ((setChannel _ _ s).trans (arbitrate _))
  · exact refl s

theorem takeRequest {kind : Byte} {act : State → State × List Byte} {s : State} (k : ∀ t, KeepsStored t (act t).1) :
    KeepsStored s (takeRequest kind act s) :=
  takeRequest_keeps (KeepsStored s) kind act s (refl s) (fun _ _ h => h.trans (of_same rfl rfl rfl))
    (fun _ _ h => h.trans (of_same rfl rfl rfl)) fun t h => h.trans (k t)

/-- Every request keeps what is stored; a command that is no request changes nothing in a frame. -/
theorem handRequest {i : Instr} {s t : State} (h : handRequest i s = .next t) : KeepsStored s t := by
  cases i
  all_goals (cases h)
  case hello | status | restart | getTime | settingsGet | tariffGet | denyLookup | rentalQuery | profileGet | supplyGet =>
    exact takeRequest refl
  case changesGet | denyClear => exact takeRequest fun _ => of_same rfl rfl rfl
  case settingsSet => exact takeRequest (settingsSet _)
  case setTime => exact takeRequest (setTime _ _)
  case keyLoad | keyDrop =>
    refine takeRequest fun t => ?_
    split <;> exact of_same rfl rfl rfl
  case tariffSet =>
    refine takeRequest fun t => ?_
    split
    · exact tariffSet _ _ t
    · exact refl t
  case denyAdd =>
    refine takeRequest fun t => ?_
    unfold denyAdd
    (repeat' split) <;> exact of_same rfl rfl rfl
  case denyRemove =>
    refine takeRequest fun t => ?_
    unfold denyRemove
    (repeat' split) <;> exact of_same rfl rfl rfl
  case supplySet => exact takeRequest (supplySet _)
  case journalRead =>
    refine takeRequest fun t => ?_
    unfold journalRead
    split <;> exact of_same rfl rfl rfl
  case present => exact takeRequest (presentToken _ _)
  case bikeTag => exact takeRequest (bikeTag _ _ _ _)
  case rentalClose => exact takeRequest (rentalClose _)
  case journalRelease => exact takeRequest (journalRelease _)
  case profileSet => exact takeRequest (profileSet _ _)
  case channelEnable => exact takeRequest (channelEnable _)
  case bayQuery => exact takeRequest fun t => atBay fun _ => refl t
  case bayService =>
    refine takeRequest fun t => atBay fun b => ?_
    split
    · exact serviceOff b t
    · exact serviceOn b t
  case bayClear => exact takeRequest fun t => atBay fun b => clearBay b t
  case staffUnlatch => exact takeRequest fun t => atBay fun b => staffUnlatch b t
  all_goals exact refl s

/-! ### Restarts and the supplies -/

theorem seedScan (w : SenseWord) (s : State) : KeepsStored s (seedScan w s) :=
  of_names (BayWork.seedScan w s).atBays.ranged (by simp only [Machine.seedScan, State.mapBays]) fun o => by
    rw [seedScan_bay]; exact fun _ h => h

theorem rederiveAll (s : State) : KeepsStored s (rederiveAll s) := foldl (fun t b => rederive b t) allBays s

/-- What comes of a state as a cold reset leaves it is in range whatever stood before. -/
theorem of_reset {s t : State} (h : KeepsStored State.reset t) : KeepsStored s t :=
  ⟨fun _ => h.ranges reset_rangesKept, fun _ => h.rentals reset_rentalsKept, fun _ => h.names reset_namesKept⟩

theorem coldReset (w : SenseWord) (s t : State) : KeepsStored s (coldReset w t) := by
  have base : KeepsStored State.reset (coldBase t) := of_same rfl rfl rfl
  have bays := base.trans ((seedScan w _).trans (rederiveAll _))
  rw [coldReset_eq]
  generalize Machine.rederiveAll _ = u at bays
  exact of_reset (bays.trans (of_same rfl rfl rfl))

/-- A warm restart keeps the OPEN records and drops the pending tags (R20, R31, R86). -/
theorem restartDiscards (s : State) : KeepsStored s (restartDiscards s) := by
  refine of_fewer (by rw [restartDiscards_frame]; rfl) (fun k r stored => ?_) fun o => ?_
  · exact ((restartDiscards_rentals s k r).mp stored).1
  · rw [restartDiscards_bay]
    exact Bay.namesWithin_of (.inl rfl) (.inr rfl)

/-- The filter starts again with no sample (R167, R170). -/
theorem warmRestart (k : RestartKind) (w : SenseWord) (s : State) : KeepsStored s (warmRestart k w s) := by
  have bays : KeepsStored s (restartedBays w s) :=
    (restartDiscards s).trans ((flush _).trans ((seedScan w _).trans (rederiveAll _)))
  rw [warmRestart_eq]
  generalize restartedBays w s = t at bays
  exact bays.trans (of_ranges (fun h => { h with filter := ⟨Nat.zero_le _, Nat.zero_le _⟩ }) rfl rfl rfl)

theorem resetRelease (w : SenseWord) (s : State) : KeepsStored s (resetRelease w s) := by
  refine taken ?_
  simp only
  split
  · exact coldReset w s _
  · exact of_same rfl rfl rfl

theorem powerReturn (w : SenseWord) (s : State) : KeepsStored s (powerReturn w s) := by
  cases h : s.mainPower with
  | true => rw [powerReturn_present w s h]; exact refl s
  | false =>
    have powered : KeepsStored s (poweredUp s) :=
      of_ranges (fun h => { h with timeBase := Nat.zero_le _ }) rfl rfl rfl
    rw [powerReturn_absent w s h]
    split
    · exact powered.trans (warmRestart _ w _)
    · exact coldReset w s _

theorem loseMainPower (s : State) : KeepsStored s (loseMainPower s) where
  ranges h := by
    unfold Machine.loseMainPower State.mapBays unconvertAll
    exact { h with timeBase := Nat.zero_le _, filter := ⟨Nat.zero_le _, Nat.zero_le _⟩ }
  rentals h := by
    unfold Machine.loseMainPower State.mapBays unconvertAll
    exact ⟨h.tariffs, h.records⟩
  names := names_within fun o => by
    rw [loseMainPower_bay]
    exact Bay.namesWithin_of (.inl rfl) (.inr rfl)

theorem loseBackup (s : State) : KeepsStored s (loseBackup s) := of_reset (of_same rfl rfl rfl)

theorem scanAll (w : SenseWord) (s : State) : KeepsStored s (scanAll w s) := by
  have names (o : BayIx) : (s.bay o).NamesWithin ((Machine.scanAll w s).bay o) := by
    rw [scanAll_bay]
    exact Bay.namesWithin_of (.inl rfl) (.inl rfl)
  generalize e : Machine.scanAll w s = t at names
  have frame : t = { s with bays := t.bays } := by rw [← e, Machine.scanAll]
  refine of_names ?_ ?_ names
  · rw [frame]; rfl
  · rw [frame]

theorem replyComplete (w : SenseWord) {s t : State} (h : execReplyComplete w s = .next t) : KeepsStored s t := by
  cases h
  refine whenRunning ?_
  split
  · have ended : KeepsStored s { s with reply := none } := of_same rfl rfl rfl
    simp only
    split
    · exact ended.trans (warmRestart _ w _)
    · exact ended
  · exact refl s

/-! ### Reception -/

theorem takeFrame {body : List Byte} {check : Byte} {s t : State} (h : takeFrame body check s = .next t) :
    KeepsStored s t := by
  unfold Machine.takeFrame at h
  split at h
  · cases h; exact of_same rfl rfl rfl
  · split at h
    · cases h; exact of_same rfl rfl rfl
    · exact handRequest h
    · cases h; exact of_same rfl rfl rfl

theorem reject {body : List Byte} {check : Byte} {s t : State} (h : execReject body check s = .next t) :
    KeepsStored s t := by
  unfold execReject at h
  split at h
  · split at h
    · exact takeFrame h
    · cases h; exact of_same rfl rfl rfl
  · cases h; exact refl s

theorem byteReceived {x : Byte} {s t : State} (h : execByteReceived x s = .next t) : KeepsStored s t := by
  unfold execByteReceived at h
  split at h
  · unfold receiveByte at h
    split at h
    case h_4 => exact takeFrame h
    all_goals cases h; exact of_same rfl rfl rfl
  · cases h; exact refl s

/-! ### Every command and the step -/

theorem exec (i : Instr) {s t : State} (h : exec i s = .next t) : KeepsStored s t := by
  have request : Machine.handRequest i s = .next t → KeepsStored s t := handRequest
  cases i
  case reject => exact reject h
  case byteReceived => exact byteReceived h
  case replyComplete => exact replyComplete _ h
  case busyFrameDrop | interByteGapTimeout => cases h; exact whenRunning (taken (of_same rfl rfl rfl))
  case lineError => cases h; exact whenRunning (of_same rfl rfl rfl)
  case resetAssert => cases h; exact of_same rfl rfl rfl
  case resetRelease => cases h; exact resetRelease _ s
  case mainPowerLoss => cases h; exact taken (loseMainPower s)
  case mainPowerReturn => cases h; exact powerReturn _ s
  case backupSupplyLoss =>
    cases h
    split
    · exact refl s
    · exact loseBackup s
  case senseScan => cases h; exact whenRunning (scanAll _ s)
  case senseEvent => cases h; exact whenRunning (senseEvent _ s)
  case takeWindowExpiry b => cases h; exact expire ((discardRelease b _ s).trans (enterLatching b _))
  case tagWindowExpiry b => cases h; exact expire ((modBay s b _).trans (raiseAlarm b _ _))
  case unlatchDeadlineExpiry => cases h; exact expire (deadlineExpired _ s)
  case retryDelayExpiry b => cases h; exact expire ((modBay s b _).trans (postRequest b _))
  case pendingTagExpiry b => cases h; exact expire (modBay s b _ (Bay.namesWithin_of (.inl rfl) (.inr rfl)))
  case lampPhase b => cases h; exact expire (modBay s b _)
  case grant => cases h; exact whenRunning (arbitrate s)
  case connectEnd c => cases h; exact pulseEvent fun p => taken ((refreshChain s).trans (setPulse c _ _))
  case deadtimeEnd => cases h; exact pulseEvent fun p => endDeadtime _ p s
  case kickEnd => cases h; exact pulseEvent fun p => taken (setPulse _ _ s)
  case stall | travelLimit => cases h; exact pulseEvent fun p => taken (endDrive _ p s)
  case short => cases h; exact pulseEvent fun p => taken (of_same rfl rfl rfl)
  case brakeEnd => cases h; exact pulseEvent fun p => taken (finishBrake _ p s)
  case coastEnd => cases h; exact pulseEvent fun p => endCoast _ p s
  case currentConversion => cases h; exact takeCurrent _ _ s
  case batteryConversion => cases h; exact takeBattery _ s
  case bandEvaluation => cases h; exact whenRunning (takeEvaluation s)
  case clockSecond => cases h; exact taken (clockSecond s)
  case minuteEvent =>
    cases h
    split
    · next due => exact minuteEvent (s.clock.minuteDue_iff.mp (Bool.and_eq_true_iff.mp due).2).1
    · exact refl s
  all_goals exact request h

/-- With no command waiting an event is taken up, or a period passes with its refresh of the select chain. -/
theorem tick (s : State) : KeepsStored s (tick s) := by
  rcases tick_cases s with ⟨i, n, -, e⟩ | ⟨-, u, hu, ⟨-, e⟩ | ⟨-, e⟩⟩
  · rw [e]; exact of_same rfl rfl rfl
  all_goals
    have period : KeepsStored s u := by rw [hu]; exact (whenRunning (refreshChain s)).trans (crystalPeriod _)
    rw [e]
    exact period.trans (of_same rfl rfl rfl)

theorem step {s t : State} (h : step s = .next t) : KeepsStored s t := by
  unfold Machine.step at h
  split at h
  · cases h; exact tick s
  · next i rest _ => exact .trans (t := { s with pending := rest }) (of_same rfl rfl rfl) (exec i h)

end KeepsStored

/-- Settles O6: `KeepsStored` holds of every command, by the operations that store a value, a record or a name, and of the
passing of a period. -/
theorem stepKeepsTheStoredRanges : Obligations.StepKeepsTheStoredRanges :=
  ⟨fun _ _ ranges rentals h => ⟨(KeepsStored.step h).ranges ranges, (KeepsStored.step h).rentals rentals⟩,
    fun _ _ names h => (KeepsStored.step h).names names⟩

end Sys2Proof.Machine
end

section
/-! The charge of a return and the queries of the rental table: O17, O26. -/

namespace Sys2Proof.Machine

/-! ### The charge -/

/-- The periods are the fewest that, with the free minutes, cover the priced duration (R117, R118). -/
theorem ridePeriods_le_iff (t : Tariff) (duration n : Nat) (h : 1 ≤ t.period) :
    ridePeriods t duration ≤ n ↔ min duration 20160 ≤ t.freeMinutes + n * t.period := by
  rw [ridePeriods, Nat.div_le_iff_le_mul_add_pred h, Nat.mul_comm]
  omega

theorem rideRate_eq (t : Tariff) (c : BikeClass) :
    rideRate t c = t.periodPrice + if c = .electric then t.supplement else 0 := by cases c <;> rfl

/-- Settles O26: the periods are the fewest that cover the priced duration, and the rest is the computation. -/
theorem chargeComputation : Obligations.ChargeComputation := by
  intro r checkout minute taken period c rate
  have fewest := ridePeriods_le_iff r.tariff (minute - checkout) (h := period)
  have charge : c.charge = min (r.tariff.unlockFee + ridePeriods r.tariff (minute - checkout) * rate) r.tariff.rideCap := by
    simp only [c, computeCharge, rideCharge, rideDuration, rideRate_eq, taken, Option.getD_some, rate]
  refine ⟨ridePeriods r.tariff (minute - checkout), (fewest _).mp le_rfl, fun k covers => (fewest k).mpr covers, ?_, charge,
    rfl, rfl⟩
  simp only [c, computeCharge, rideDuration, taken, Option.getD_some]

/-! ### RENTAL_QUERY -/

/-- The records in a list of slots, each with its slot. -/
def State.recordsAt (s : State) (l : List (Fin 64)) : List (Fin 64 × Rental) :=
  l.filterMap fun k => (s.rentals[k]).map fun r => (k, r)

theorem mem_recordsAt {s : State} {l : List (Fin 64)} {k : Fin 64} {r : Rental} :
    (k, r) ∈ s.recordsAt l ↔ k ∈ l ∧ s.rentals[k] = some r := by
  simp only [State.recordsAt, List.mem_filterMap, Option.map_eq_some_iff, Prod.mk.injEq]
  constructor
  · rintro ⟨j, m, x, stored, rfl, rfl⟩
    exact ⟨m, stored⟩
  · rintro ⟨m, stored⟩
    exact ⟨k, m, r, stored, rfl, rfl⟩

/-- Slots that all hold a record are the slots of their records. -/
theorem recordsAt_slots {s : State} {l : List (Fin 64)} (full : ∀ k ∈ l, (s.rentals[k]).isSome) :
    (s.recordsAt l).map Prod.fst = l := by
  induction l with
  | nil => rfl
  | cons k rest ih =>
    obtain ⟨r, stored⟩ := Option.isSome_iff_exists.mp (full k List.mem_cons_self)
    have tail := ih fun j m => full j (List.mem_cons_of_mem k m)
    rw [State.recordsAt, List.filterMap_cons, stored]
    exact congrArg (k :: ·) tail

theorem rentalsBytes_eq (s : State) (l : List (Fin 64)) :
    s.rentalsBytes l = (s.recordsAt l).flatMap fun p => rentalFields s.ms p.1 p.2 := by
  induction l with
  | nil => rfl
  | cons k rest ih =>
    rw [State.rentalsBytes, List.flatMap_cons, State.recordsAt, List.filterMap_cons]
    cases s.rentals[k] with
    | none => exact ih
    | some r => exact congrArg (rentalFields s.ms k r ++ ·) ih

/-- The number that a query compares: of the bike for selector 1, and of the rider for selector 2 (R107). -/
def Rental.queried (selector : Byte) (r : Rental) : Nat := if selector = 1 then r.bike else r.rider

theorem querySlots_eq (s : State) (selector : Byte) (number : Nat) : s.querySlots selector number =
    allSlots.filter fun k => (s.rentals[k]).any fun r => decide (r.queried selector = number) := by
  unfold State.querySlots State.slotsOfBike State.slotsOfRider Rental.queried
  split <;> rfl

/-- The records that a query finds are those with its number, in ascending order of slot (R93, R107). -/
theorem querySlots_records (s : State) (selector : Byte) (number : Nat) :
    let l := s.recordsAt (s.querySlots selector number)
    l.map Prod.fst = s.querySlots selector number ∧ (l.map Prod.fst).Pairwise (fun x y => x < y) ∧
    ∀ k r, (k, r) ∈ l ↔ s.rentals[k] = some r ∧ r.queried selector = number := by
  have matching (k : Fin 64) : k ∈ s.querySlots selector number ↔
      ∃ r, s.rentals[k] = some r ∧ r.queried selector = number := by
    simp [querySlots_eq, allSlots, Option.any_eq_true]
  have slots : (s.recordsAt (s.querySlots selector number)).map Prod.fst = s.querySlots selector number :=
    recordsAt_slots fun k m => by
      obtain ⟨r, stored, -⟩ := (matching k).mp m
      rw [stored]
      rfl
  refine ⟨slots, ?_, fun k r => ?_⟩
  · rw [slots, querySlots_eq]
    exact List.Pairwise.filter _ (List.pairwise_lt_finRange 64)
  · rw [mem_recordsAt, matching]
    constructor
    · rintro ⟨⟨x, stored, number⟩, same⟩
      cases stored.symm.trans same
      exact ⟨stored, number⟩
    · rintro ⟨stored, number⟩
      exact ⟨⟨r, stored, number⟩, stored⟩

theorem rentalQuery_range {selector : Byte} {number : Nat} (h : (selector ≠ 1 ∧ selector ≠ 2) ∨ number = 0) (s : State) :
    rentalQuery selector number s = [1] := by rw [rentalQuery, if_pos h]; rfl

theorem rentalQuery_records {selector : Byte} {number : Nat} (h : ¬ ((selector ≠ 1 ∧ selector ≠ 2) ∨ number = 0))
    (s : State) : let l := s.recordsAt (s.querySlots selector number)
    rentalQuery selector number s =
      if l = [] then [3] else okWith (be8 l.length ++ l.flatMap fun p => rentalFields s.ms p.1 p.2) := by
  intro l
  obtain ⟨slots, -⟩ := querySlots_records s selector number
  have empty : (s.querySlots selector number).isEmpty = true ↔ l = [] := by
    rw [← slots, List.isEmpty_iff, List.map_eq_nil_iff]
  have length : (s.querySlots selector number).length = l.length := by rw [← slots, List.length_map]
  simp only [rentalQuery, if_neg h, empty, length, rentalsBytes_eq]
  rfl

/-- Settles O17: the refusal, and the records at the slots that the query finds. -/
theorem rentalQueryReply : Obligations.RentalQueryReply := by
  intro s selector number hs fields
  have zero : number = 0 ↔ number.toNat = 0 := BitVec.toNat_eq.trans (by simp)
  have done {p : List Byte} (e : rentalQuery selector number.toNat s.hunting = p) :
      exec (.rentalQuery selector number) s = .next (s.answered 0xB9 p) :=
    congrArg Host.Outcome.next (takeRequest_answer 0x39 _ s hs p (congrArg (Prod.mk s.hunting) e))
  refine ⟨fun bad => done (rentalQuery_range (bad.imp_right zero.mp) _), fun known some => ?_⟩
  have good : ¬ ((selector ≠ 1 ∧ selector ≠ 2) ∨ number.toNat = 0) := by
    rw [← zero]
    rintro (⟨one, two⟩ | none)
    · exact known.elim one two
    · exact some none
  obtain ⟨-, ascending, records⟩ := querySlots_records s selector number.toNat
  refine ⟨s.recordsAt (s.querySlots selector number.toNat), ascending, records, done ?_⟩
  have same : (fun p : Fin 64 × Rental => rentalFields s.ms p.1 p.2) = fun p => fields p.1 p.2 := by
    funext ⟨k, r⟩
    cases stage : r.stage <;> simp [rentalFields, fields, stage, tariffFields, beBay]
  rw [← same]
  exact rentalQuery_records good s.hunting

end Sys2Proof.Machine
end

section
/-! What a flush writes, and what it makes of the returns that wait behind held ones: O39. -/

namespace Sys2Proof.Machine

/-! ### The journal as it grows -/

/-- From `s` to `t` the high-water flag and the station's causes follow the growth of the journal (R135). -/
structure HighWaterFollows (s t : State) : Prop where
  rises : s.journal.length < 192 ∧ 192 ≤ t.journal.length ∧ s.highWaterArmed = true →
    t.changes.station.journalHigh = true ∧ t.highWaterArmed = false
  still : ¬ (s.journal.length < 192 ∧ 192 ≤ t.journal.length ∧ s.highWaterArmed = true) →
    t.changes.station = s.changes.station ∧ t.highWaterArmed = s.highWaterArmed

theorem HighWaterFollows.of_same {s t : State} (journal : t.journal = s.journal)
    (armed : t.highWaterArmed = s.highWaterArmed) (station : t.changes.station = s.changes.station) :
    HighWaterFollows s t :=
  ⟨fun ⟨low, high, _⟩ => absurd low (Nat.not_lt.mpr (by rwa [← journal])), fun _ => ⟨station, armed⟩⟩

theorem HighWaterFollows.trans {s t u : State} (h : HighWaterFollows s t) (k : HighWaterFollows t u)
    (grows : s.journal.length ≤ t.journal.length) (more : t.journal.length ≤ u.journal.length) : HighWaterFollows s u := by
  by_cases first : s.journal.length < 192 ∧ 192 ≤ t.journal.length ∧ s.highWaterArmed = true
  · obtain ⟨high, disarmed⟩ := h.rises first
    obtain ⟨station, armed⟩ := k.still fun ⟨low, _⟩ => absurd low (Nat.not_lt.mpr first.2.1)
    refine ⟨fun _ => ⟨by rw [station]; exact high, by rw [armed]; exact disarmed⟩, fun never => absurd ?_ never⟩
    exact ⟨first.1, first.2.1.trans more, first.2.2⟩
  · obtain ⟨station, armed⟩ := h.still first
    refine ⟨fun ⟨low, high, on⟩ => k.rises ⟨?_, high, armed.trans on⟩, fun never => ?_⟩
    · exact Nat.lt_of_not_le fun high => first ⟨low, high, on⟩
    · obtain ⟨station', armed'⟩ := k.still fun ⟨low, high, on⟩ => never ⟨grows.trans_lt low, high, armed.symm.trans on⟩
      exact ⟨station'.trans station, armed'.trans armed⟩

theorem HighWaterFollows.appendRecord (r : JournalRecord) (s : State) : HighWaterFollows s (appendRecord r s) := by
  have length : (Machine.appendRecord r s).journal.length = s.journal.length + 1 := by
    rw [appendRecord_frame]; exact List.length_append
  constructor
  · rintro ⟨low, high, armed⟩
    exact appendRecord_high r s (by omega) armed
  · intro never
    have other : ¬ ((s.journal ++ [r]).length = 192 ∧ s.highWaterArmed = true) := fun ⟨reached, armed⟩ => never
      ⟨by rw [List.length_append] at reached; exact Nat.lt_of_succ_le reached.le, by rw [length]; simpa using reached.ge,
        armed⟩
    simp only [Machine.appendRecord, if_neg other, and_self]

/-- Records at the back of the journal make the committed count rise by their number (R126). -/
theorem committed_grown {s t : State} {n : Nat} (journal : t.journal.length = s.journal.length + n)
    (rentals : t.rentals = s.rentals) (link : ∀ b, (t.bay b).link = (s.bay b).link) : t.committed = s.committed + n := by
  simp only [State.committed, State.stageCount, State.staffReleases, journal, rentals, link]
  omega

/-! ### Writing held returns -/

/-- The held returns of the bays `l` are written in their order: each record at the back of the journal as it was held, its bay
left with no return and RETURN posted (R129, R130). -/
structure Written (l : List BayIx) (s t : State) : Prop where
  journal   : t.journal = s.journal ++ l.filterMap fun b => (s.bay b).held.map .foreignReturn
  length    : t.journal.length = s.journal.length + l.length
  bays      : ∀ b ∈ l, t.bay b = { s.bay b with held := none } ∧ t.posted b .returned
  others    : ∀ b, b ∉ l → t.bay b = s.bay b
  highWater : HighWaterFollows s t
  causes    : CausesStand s t
  frame     : t = { s with
    journal := t.journal, highWaterArmed := t.highWaterArmed, changes := t.changes, heldOrder := t.heldOrder, bays := t.bays }

namespace Written

theorem refl (s : State) : Written [] s s :=
  ⟨(List.append_nil _).symm, rfl, nofun, fun _ _ => rfl, .of_same rfl rfl rfl, .refl s, rfl⟩

theorem writeHeld {b : BayIx} {r : ForeignReturn} {s : State} (held : (s.bay b).held = some r) :
    Written [b] s (writeHeld b r s) where
  journal := by rw [writeHeld_frame, List.filterMap_cons, held]; rfl
  length := by rw [writeHeld_frame]; exact List.length_append
  bays o m := by
    rw [List.mem_singleton.mp m]
    exact ⟨writeHeld_bay_self b r s, postBay_posted _ b .returned⟩
  others o m := writeHeld_bay_ne b r s fun e => m (List.mem_singleton.mpr e)
  highWater := (HighWaterFollows.appendRecord (.foreignReturn r) s).trans (.of_same rfl rfl rfl)
    (by rw [appendRecord_frame]; exact (List.length_append ▸ Nat.le_add_right _ _)) le_rfl
  causes := .writeHeld b r s
  frame := by rw [writeHeld_frame]

theorem trans {l m : List BayIx} {s t u : State} (h : Written l s t) (k : Written m t u) (apart : ∀ b ∈ m, b ∉ l) :
    Written (l ++ m) s u where
  journal := by
    have same : (m.filterMap fun b => (t.bay b).held.map .foreignReturn) =
        m.filterMap fun b => (s.bay b).held.map JournalRecord.foreignReturn :=
      List.filterMap_congr fun b hb => by rw [h.others b (apart b hb)]
    rw [k.journal, h.journal, same, List.append_assoc, List.filterMap_append]
  length := by rw [k.length, h.length, List.length_append, Nat.add_assoc]
  bays b hb := by
    rcases List.mem_append.mp hb with hl | hm
    · obtain ⟨record, posted⟩ := h.bays b hl
      rw [k.others b fun hm => apart b hm hl]
      exact ⟨record, k.causes.posted posted⟩
    · rw [← h.others b (apart b hm)]
      exact k.bays b hm
  others b hb := by
    rw [List.mem_append, not_or] at hb
    rw [k.others b hb.2, h.others b hb.1]
  highWater := h.highWater.trans k.highWater (by rw [h.length]; exact Nat.le_add_right _ _)
    (by rw [k.length]; exact Nat.le_add_right _ _)
  causes := h.causes.trans k.causes
  frame := by rw [k.frame, h.frame]

/-- A bay record differs in the held return at most. -/
theorem bay {l : List BayIx} {s t : State} (h : Written l s t) (b : BayIx) :
    t.bay b = { s.bay b with held := (t.bay b).held } := by
  by_cases m : b ∈ l
  · rw [(h.bays b m).1]
  · rw [h.others b m]

theorem committed {l : List BayIx} {s t : State} (h : Written l s t) : t.committed = s.committed + l.length :=
  committed_grown h.length (by rw [h.frame]) fun b => by rw [h.bay b]

theorem returnDue {l : List BayIx} {s t : State} (h : Written l s t) (b : BayIx) :
    (t.bay b).returnDue = (s.bay b).returnDue := by
  rw [h.bay b]; rfl

/-- The flush writes of a held order as many returns as the committed count leaves room for below 256 (R127, R130). -/
theorem flushFrom (l : List BayIx) (s : State) (order : s.heldOrder = l) (once : l.Nodup)
    (held : ∀ b ∈ l, (s.bay b).held.isSome) : let n := min l.length (256 - s.committed)
    Written (l.take n) s (flushFrom l s).1 ∧ (flushFrom l s).2 = l.take n ∧ (flushFrom l s).1.heldOrder = l.drop n := by
  induction l generalizing s with
  | nil =>
    simp only [List.take_nil, List.drop_nil]
    exact ⟨refl s, rfl, order⟩
  | cons b rest ih =>
    obtain ⟨r, hr⟩ := Option.isSome_iff_exists.mp (held b List.mem_cons_self)
    obtain ⟨new, once⟩ := List.nodup_cons.mp once
    simp only [Machine.flushFrom, hr, List.length_cons]
    split
    · next admits =>
      have front := writeHeld hr
      have room : s.committed + 1 ≤ 256 := of_decide_eq_true admits
      have count : (Machine.writeHeld b r s).committed = s.committed + 1 := front.committed
      obtain ⟨written, bays, order⟩ := ih (Machine.writeHeld b r s) (by rw [writeHeld_frame, order]; rfl) once fun o m => by
        rw [front.others o fun e => new (List.mem_singleton.mp e ▸ m)]
        exact held o (List.mem_cons_of_mem b m)
      have split : min (rest.length + 1) (256 - s.committed) = min rest.length (256 - (s.committed + 1)) + 1 := by omega
      rw [count] at written bays order
      rw [split, List.take_succ_cons, List.drop_succ_cons]
      refine ⟨front.trans written fun o m e => new ?_, congrArg (b :: ·) bays, order⟩
      exact List.mem_singleton.mp e ▸ List.mem_of_mem_take m
    · next full =>
      have none : min (rest.length + 1) (256 - s.committed) = 0 := by
        have : ¬ s.committed + 1 ≤ 256 := fun room => full (decide_eq_true room)
        omega
      rw [none]
      exact ⟨refl s, rfl, order⟩

end Written

/-- The number of held returns that the journal has room for. -/
def State.writable (s : State) : Nat := min s.heldOrder.length (256 - s.committedSum)

/-- The flush writes what the journal has room for, and then processes the returns of the bays it wrote (R130, R131). -/
theorem flush_written {s : State} (h : JournalKept s) : ∃ t, Written (s.heldOrder.take s.writable) s t ∧
    t.heldOrder = s.heldOrder.drop s.writable ∧
    flush s = (s.heldOrder.take s.writable).foldl (fun t b => processReturn b t) t := by
  obtain ⟨written, bays, order⟩ := Written.flushFrom s.heldOrder s rfl h.heldOnce fun b m => (h.heldExact b).mp m
  rw [committed_eq_sum] at written bays order
  exact ⟨_, written, order, by rw [flush, bays]; rfl⟩

/-- Bays with no return due are left as they are. -/
theorem processReturns_idle {l : List BayIx} {s : State} (h : ∀ b ∈ l, (s.bay b).returnDue = false) :
    l.foldl (fun t b => processReturn b t) s = s := by
  induction l with
  | nil => rfl
  | cons b rest ih =>
    rw [List.foldl_cons, processReturn_idle b s (h b List.mem_cons_self)]
    exact ih fun o m => h o (List.mem_cons_of_mem b m)

/-- With no return waiting the flush writes held returns and does no more. -/
theorem flush_of_none_waiting {s : State} (h : JournalKept s)
    (none : ∀ b : BayIx, (s.bay b).held.isSome → (s.bay b).returnDue = false) :
    Written (s.heldOrder.take s.writable) s (flush s) ∧ (flush s).heldOrder = s.heldOrder.drop s.writable := by
  obtain ⟨t, written, order, e⟩ := flush_written h
  have idle : flush s = t := e.trans (processReturns_idle fun b m => by
    rw [written.returnDue b]
    exact none b ((h.heldExact b).mp (List.mem_of_mem_take m)))
  rw [idle]
  exact ⟨written, order⟩

/-! ### A return that waits -/

theorem Bay.returnDue_iff (y : Bay) : y.returnDue = true ↔
    (y.state = .docked ∨ y.state = .fault ∧ y.presence = .present) ∧ y.identity ≠ none ∧ y.processed = false := by
  simp [Bay.returnDue, Option.isSome_iff_ne_none, and_assoc]

/-- A return that is due is processed as an entry to DOCKED would process it (R4, R18). -/
theorem processReturn_settled {b : BayIx} {s : State} (due : (s.bay b).returnDue = true) :
    EntrySettled b s (processReturn b s) := by
  obtain ⟨state, identity, -⟩ := (s.bay b).returnDue_iff.mp due
  have settled := secured_settled b s state
  rwa [secured, startTagWindow_known b s identity] at settled

/-- A foreign return due at bay `b`, of a bike with no OPEN record and with no return held there. -/
structure ForeignDue (s : State) (b : BayIx) (i : Identity) : Prop where
  due      : (s.bay b).returnDue = true
  identity : (s.bay b).identity = some i
  foreign  : ∀ (k : Fin 64) r, s.rentals[k] = some r → r.bike = i.bike → r.stage ≠ .opened
  free     : (s.bay b).held = none

/-- The record of a foreign return at a bay (R95, R98). -/
def State.foreignRecord (s : State) (b : BayIx) (i : Identity) : ForeignReturn :=
  ⟨(s.bay b).arrival.getD s.clock.minute, b, i.bike, i.cls, i.battery⟩

namespace ForeignDue
variable {s : State} {b : BayIx} {i : Identity} (h : ForeignDue s b i)
include h

/-- With room it is written (R98). -/
theorem written (room : s.committed + 1 ≤ 256) :
    (processReturn b s).journal = s.journal ++ [.foreignReturn (s.foreignRecord b i)] ∧
    (processReturn b s).heldOrder = s.heldOrder ∧ ((processReturn b s).bay b).held = none ∧
    ((processReturn b s).bay b).processed = true ∧ (processReturn b s).rentals = s.rentals ∧
    (processReturn b s).committed = s.committed + 1 := by
  have settled := (processReturn_settled h.due).foreignOne i h.identity ((s.bay b).returnDue_iff.mp h.due).2.2 h.foreign
  have e := settled.1 h.free (committed_eq_sum s ▸ room)
  have bay : (processReturn b s).bay b =
      { s.bay b with arrival := some ((s.bay b).arrival.getD s.clock.minute), processed := true } := by
    rw [e]; exact State.modBay_bay_self s b fun _ => _
  have journal : (processReturn b s).journal = s.journal ++ [.foreignReturn (s.foreignRecord b i)] := by rw [e]; rfl
  have rentals : (processReturn b s).rentals = s.rentals := by rw [e]; rfl
  refine ⟨journal, by rw [e]; rfl, by rw [bay]; exact h.free, by rw [bay], rentals, ?_⟩
  refine committed_grown (by rw [journal]; exact List.length_append) rentals fun o => ?_
  by_cases c : o = b
  · rw [c, bay]
  · rw [processReturn_other b o s c]

/-- Without room it is held behind the others (R99). -/
theorem isHeld (full : 256 < s.committed + 1) : (processReturn b s).journal = s.journal ∧
    (processReturn b s).heldOrder = s.heldOrder ++ [b] ∧
    ((processReturn b s).bay b).held = some (s.foreignRecord b i) ∧ ((processReturn b s).bay b).processed = true ∧
    (processReturn b s).posted b .held := by
  have settled := (processReturn_settled h.due).foreignOne i h.identity ((s.bay b).returnDue_iff.mp h.due).2.2 h.foreign
  have e := settled.2.1 h.free (committed_eq_sum s ▸ full)
  have bay : (processReturn b s).bay b = { s.bay b with
      arrival := some ((s.bay b).arrival.getD s.clock.minute), processed := true
      held := some (s.foreignRecord b i) } := by
    rw [e]; exact State.modBay_bay_self s b fun _ => _
  refine ⟨by rw [e], by rw [e], by rw [bay], by rw [bay], ?_⟩
  rw [e]
  exact postBay_posted s b .held

end ForeignDue

/-- The flush has written the held return of a bay, and the foreign return that waited behind it is due (R100, R131). -/
theorem Written.foreignDue {l : List BayIx} {s t : State} (h : Written l s t) {b : BayIx} (m : b ∈ l) {i : Identity}
    (due : (s.bay b).returnDue = true) (identity : (s.bay b).identity = some i)
    (foreign : ∀ (k : Fin 64) r, s.rentals[k] = some r → r.bike = i.bike → r.stage ≠ .opened) :
    ForeignDue t b i ∧ t.foreignRecord b i = s.foreignRecord b i := by
  have clock : t.clock = s.clock := by rw [h.frame]
  have rentals : t.rentals = s.rentals := by rw [h.frame]
  refine ⟨⟨(h.returnDue b).trans due, ?_, ?_, by rw [(h.bays b m).1]⟩, ?_⟩
  · rw [h.bay b]; exact identity
  · rw [rentals]; exact foreign
  · rw [State.foreignRecord, h.bay b, clock]; rfl

/-! ### One bay and two bays whose returns wait -/

/-- A full journal leaves everything as it stands. -/
theorem flush_full {s : State} {b : BayIx} {h : ForeignReturn} (order : s.heldOrder = [b])
    (held : (s.bay b).held = some h) (full : 256 ≤ s.committedSum) : flush s = s := by
  have never : s.admitsForeign = false := by
    rw [State.admitsForeign, committed_eq_sum]
    exact decide_eq_false (by omega)
  simp [flush, order, flushFrom, held, never]

section Waiting
variable {s : State} {b : BayIx} {h : ForeignReturn} {i : Identity} (kept : JournalKept s)
include kept

/-- The held return of one bay is written, and the return that waited behind it is then due. -/
theorem flush_one (order : s.heldOrder = [b]) (held : (s.bay b).held = some h) (due : (s.bay b).returnDue = true)
    (identity : (s.bay b).identity = some i)
    (foreign : ∀ (k : Fin 64) r, s.rentals[k] = some r → r.bike = i.bike → r.stage ≠ .opened)
    (room : s.committedSum + 1 ≤ 256) : ∃ t, flush s = processReturn b t ∧ ForeignDue t b i ∧
      t.foreignRecord b i = s.foreignRecord b i ∧ t.journal = s.journal ++ [.foreignReturn h] ∧ t.heldOrder = [] ∧
      t.committed = s.committedSum + 1 := by
  obtain ⟨t, written, rest, e⟩ := flush_written kept
  have one : s.writable = 1 := by rw [State.writable, order, List.length_singleton]; omega
  rw [one, order] at written rest e
  obtain ⟨waits, record⟩ := written.foreignDue (List.mem_singleton_self b) due identity foreign
  refine ⟨t, e, waits, record, ?_, rest, ?_⟩
  · rw [written.journal]
    simp [held]
  · rw [written.committed, committed_eq_sum]; rfl

/-- The waiting returns of two bays are written after both held ones, in their order. -/
theorem flush_two {a : BayIx} {g : ForeignReturn} {j : Identity} (order : s.heldOrder = [a, b])
    (heldA : (s.bay a).held = some g) (dueA : (s.bay a).returnDue = true) (identityA : (s.bay a).identity = some i)
    (heldB : (s.bay b).held = some h) (dueB : (s.bay b).returnDue = true) (identityB : (s.bay b).identity = some j)
    (foreign : ∀ (k : Fin 64) r, s.rentals[k] = some r → r.bike = i.bike ∨ r.bike = j.bike → r.stage ≠ .opened)
    (room : s.committedSum + 4 ≤ 256) : (flush s).journal = s.journal ++ [.foreignReturn g, .foreignReturn h,
      .foreignReturn (s.foreignRecord a i), .foreignReturn (s.foreignRecord b j)] := by
  obtain ⟨t, written, -, e⟩ := flush_written kept
  have two : s.writable = 2 := by rw [State.writable, order]; simp only [List.length_cons, List.length_nil]; omega
  have ne : b ≠ a := by
    have once := kept.heldOnce
    rw [order] at once
    intro same
    simp [same] at once
  rw [two, order] at written e
  have count : t.committed = s.committedSum + 2 := by rw [written.committed, committed_eq_sum]; rfl
  obtain ⟨first, recordA⟩ := written.foreignDue (b := a) (by simp) dueA identityA fun k r stored same =>
    foreign k r stored (.inl same)
  obtain ⟨second, recordB⟩ := written.foreignDue (b := b) (by simp) dueB identityB fun k r stored same =>
    foreign k r stored (.inr same)
  obtain ⟨journal, -, -, -, rentals, countA⟩ := first.written (by omega)
  have clock : (processReturn a t).clock = t.clock := (AtBays.processReturn a t).clock
  have stands : (processReturn a t).bay b = t.bay b := processReturn_other a b t ne
  have last : ForeignDue (processReturn a t) b j := ⟨by rw [stands]; exact second.due, by rw [stands]; exact second.identity,
    by rw [rentals]; exact second.foreign, by rw [stands]; exact second.free⟩
  have record : (processReturn a t).foreignRecord b j = t.foreignRecord b j := by
    rw [State.foreignRecord, stands, clock, State.foreignRecord]
  obtain ⟨journalB, -⟩ := last.written (by omega)
  rw [e]
  refine Eq.trans journalB ?_
  rw [journal, record, recordA, recordB, written.journal]
  simp [heldA, heldB]

end Waiting

/-- Settles O39: the held returns that find room are written in their order, and then the returns of their bays are
processed. -/
theorem flushWritesHeldReturnsInOrder : Obligations.FlushWritesHeldReturnsInOrder := by
  refine ⟨fun s kept none => ?_, fun s b h i kept order held due identity foreign => ?_, ?_⟩
  · obtain ⟨written, order⟩ := flush_of_none_waiting kept none
    have length : (s.heldOrder.take s.writable).length = s.writable := List.length_take_of_le (Nat.min_le_left _ _)
    have grown := written.length
    rw [length] at grown
    refine ⟨order, written.journal, fun b m => ?_, written.others, by rw [written.frame], by rw [written.frame], ?_⟩
    · obtain ⟨record, posted⟩ := written.bays b m
      exact ⟨by rw [record], posted⟩
    · have follows := written.highWater
      constructor
      · intro rises
        exact follows.rises (by rw [grown]; exact rises)
      · intro never
        exact follows.still (by rw [grown]; exact never)
  · refine ⟨fun room => ?_, fun last => ?_, flush_full order held⟩
    · obtain ⟨t, e, waits, record, journal, rest, count⟩ := flush_one kept order held due identity foreign (by omega)
      obtain ⟨written, heldOrder, free, processed, -⟩ := waits.written (by omega)
      rw [e]
      refine ⟨?_, heldOrder.trans rest, free, processed⟩
      rw [written, journal, record, List.append_assoc]
      rfl
    · obtain ⟨t, e, waits, record, journal, rest, count⟩ := flush_one kept order held due identity foreign (by omega)
      obtain ⟨stands, heldOrder, held, processed, posted⟩ := waits.isHeld (by omega)
      rw [e]
      refine ⟨stands.trans journal, ?_, ?_, processed, posted⟩
      · rw [heldOrder, rest]; rfl
      · rw [held, record]; rfl
  · intro s a b g h i j kept order heldA dueA identityA heldB dueB identityB foreign room
    exact flush_two kept order heldA dueA identityA heldB dueB identityB foreign room

end Sys2Proof.Machine
end

section
/-! RENTAL_CLOSE, and the return of a bike whose tag a bay takes: O33, O34. -/

namespace Sys2Proof.Machine

/-! ### The flush does not depend on reception -/

section Hunting
variable (s : State)

theorem appendRecord_hunting (r : JournalRecord) : appendRecord r s.hunting = (appendRecord r s).hunting := by
  simp only [appendRecord, apply_ite State.hunting]
  rfl

theorem writeHeld_hunting (b : BayIx) (r : ForeignReturn) : writeHeld b r s.hunting = (writeHeld b r s).hunting := by
  unfold writeHeld
  rw [appendRecord_hunting]
  rfl

theorem flushFrom_hunting (l : List BayIx) :
    flushFrom l s.hunting = ((flushFrom l s).1.hunting, (flushFrom l s).2) := by
  induction l generalizing s with
  | nil => rfl
  | cons b rest ih =>
    have admits : s.hunting.admitsForeign = s.admitsForeign := rfl
    simp only [flushFrom, State.hunting_bay, admits, writeHeld_hunting]
    cases (s.bay b).held with
    | none => exact ih { s with heldOrder := s.heldOrder.tail }
    | some r =>
      cases s.admitsForeign
      · rfl
      · simp only [if_true, ih]

theorem localReturn_hunting (b : BayIx) (minute : Nat) (k : Fin 64) (r : Rental) :
    localReturn b minute k r s.hunting = (localReturn b minute k r s).hunting := by
  unfold localReturn
  simp only [appendRecord_hunting]
  rfl

theorem foreignReturn_hunting (b : BayIx) (minute : Nat) (i : Identity) :
    foreignReturn b minute i s.hunting = (foreignReturn b minute i s).hunting := by
  have admits : s.hunting.admitsForeign = s.admitsForeign := rfl
  simp only [foreignReturn, admits, appendRecord_hunting]
  split <;> rfl

theorem processReturn_hunting (b : BayIx) : processReturn b s.hunting = (processReturn b s).hunting := by
  have opened (bike : Nat) : s.hunting.openRental? bike = s.openRental? bike := rfl
  have marked : markProcessed b s.hunting = (markProcessed b s).hunting := rfl
  have fixed : fixMinute b s.hunting = (fixMinute b s).hunting := rfl
  have clock : s.hunting.clock = s.clock := rfl
  simp only [processReturn, State.hunting_bay, opened, marked, fixed, clock, localReturn_hunting, foreignReturn_hunting]
  cases (s.bay b).identity with
  | none => rfl
  | some i =>
    dsimp only
    split
    · cases s.openRental? i.bike with
      | some p => rfl
      | none => dsimp only; split <;> rfl
    · rfl

/-- A flush before reception goes to HUNT is a flush after it (R130, R191). -/
theorem flush_hunting : flush s.hunting = (flush s).hunting := by
  have fold (l : List BayIx) (t : State) : l.foldl (fun t b => processReturn b t) t.hunting =
      (l.foldl (fun t b => processReturn b t) t).hunting := by
    induction l generalizing t with
    | nil => rfl
    | cons b rest ih => rw [List.foldl_cons, processReturn_hunting, ih, List.foldl_cons]
  have order : s.hunting.heldOrder = s.heldOrder := rfl
  simp only [flush, order, flushFrom_hunting, fold]

end Hunting

/-! ### RENTAL_CLOSE -/

theorem slotsOfBike_isEmpty (s : State) (bike : Nat) :
    (s.slotsOfBike bike).isEmpty = true ↔ ∀ (k : Fin 64) r, s.rentals[k] = some r → r.bike ≠ bike := by
  simp [State.slotsOfBike, allSlots, List.isEmpty_iff, Option.any_eq_false]

section
variable {bike : Nat} (s : State) (nonzero : bike ≠ 0)
include nonzero

theorem rentalClose_opened {k : Fin 64} {r : Rental} (found : s.openRental? bike = some (k, r)) :
    rentalClose bike s = (flush (s.setRental k none),
      okWith (be8 k.val ++ be32 r.rider ++ be8 r.plan.code ++ be32 (r.checkout.getD 0))) := by
  simp only [rentalClose, if_neg nonzero, found]

theorem rentalClose_refused (never : s.openRental? bike = none) : rentalClose bike s =
    (s, statusOnly (if (s.slotsOfBike bike).isEmpty then .notFound else .state)) := by
  simp only [rentalClose, if_neg nonzero, never]

end

/-- A slot freed before a flush is free after it, and no record in the journal changes (R105, R130). -/
theorem flush_freed (s : State) (k : Fin 64) : let t := flush (s.setRental k none)
    t.rentals[k] = none ∧ s.journal <+: t.journal := by
  intro t
  obtain ⟨n, f, writes, rentals, -, returns⟩ := flush_returns (s.setRental k none)
  refine ⟨Option.eq_none_iff_forall_ne_some.mpr fun r stored => ?_, writes.journal.trans returns.journal⟩
  have freed : (s.setRental k none).rentals[k] = none := by simp [State.setRental]
  have stands := returns.rentals k r stored
  rw [rentals, freed] at stands
  cases stands

/-- Settles O34: the OPEN record of the bike is looked up, and its slot is freed before the flush. -/
theorem rentalCloseOutcomes : Obligations.RentalCloseOutcomes := by
  intro s bike hs
  have done {t : State} {p : List Byte} (e : rentalClose bike.toNat s.hunting = (t, p)) :
      exec (.rentalClose bike) s = .next { t with reply := some ⟨0xBA, p⟩ } :=
    congrArg Host.Outcome.next (takeRequest_done 0x3A hs e)
  have refused {p : List Byte} (e : rentalClose bike.toNat s.hunting = (s.hunting, p)) :
      exec (.rentalClose bike) s = .next (s.answered 0xBA p) := done e
  have number (nonzero : bike ≠ 0) : bike.toNat ≠ 0 := fun zero => nonzero (BitVec.eq_of_toNat_eq zero)
  refine ⟨fun zero => refused ?_, fun nonzero free => refused ?_, fun nonzero held closed => refused ?_,
    fun k r nonzero stored same opened only => ?_⟩
  · rw [zero]; rfl
  · have empty := (slotsOfBike_isEmpty s.hunting bike.toNat).mpr free
    rw [rentalClose_refused s.hunting (number nonzero) (openRental?_none _ _ fun k r stored same => absurd same (free k r stored)),
      empty]
    rfl
  · have full : (s.hunting.slotsOfBike bike.toNat).isEmpty ≠ true := fun empty => by
      obtain ⟨k, r, stored, same⟩ := held
      exact (slotsOfBike_isEmpty s.hunting bike.toNat).mp empty k r stored same
    rw [rentalClose_refused s.hunting (number nonzero) (openRental?_none _ _ closed), if_neg full]
    rfl
  · intro reply
    have close := rentalClose_opened _ (number nonzero) (openRental?_some s.hunting bike.toNat k r stored same opened only)
    have freed : s.hunting.setRental k none = (s.setRental k none).hunting := rfl
    rw [freed, flush_hunting] at close
    have flushed : exec (.rentalClose bike) s = .next ((flush (s.setRental k none)).answered 0xBA reply) := (done close).trans rfl
    obtain ⟨slot, journal⟩ := flush_freed s k
    refine ⟨fun empty => ?_, flushed, _, flushed, rfl, slot, journal⟩
    rw [flushed, flush_empty (s.setRental k none) empty]
    rfl

/-! ### A tag assigned where the bike is secured -/

theorem State.bay_of_set {s t : State} {b : BayIx} {y : Bay} (h : t.bays = s.bays.set b.val y b.isLt) : t.bay b = y := by
  simp [State.bay, h]

/-- The state `s` with an identity stored at bay `b`, its tag window stopped and UNIDENTIFIED removed, which posts ALARM
exactly where it stood (R103). -/
def State.assigned (s : State) (b : BayIx) (i : Identity) : State :=
  { s with
    bays := s.bays.set b.val { s.bay b with
      identity := some i, tagWindow := none, alarms := { (s.bay b).alarms with unidentified := false } } b.isLt
    changes := { s.changes with bays := s.changes.bays.set b.val { s.changes.bays[b] with
      alarm := s.changes.bays[b].alarm || (s.bay b).alarms.unidentified } b.isLt } }

theorem State.assigned_bay (s : State) (b : BayIx) (i : Identity) : (s.assigned b i).bay b = { s.bay b with
    identity := some i, tagWindow := none, alarms := { (s.bay b).alarms with unidentified := false } } := by
  simp [State.assigned, State.bay]

theorem State.assigned_other (s : State) {b o : BayIx} (i : Identity) (h : o ≠ b) : (s.assigned b i).bay o = s.bay o := by
  have : b.val ≠ o.val := fun e => h (Fin.ext e.symm)
  simp [State.assigned, State.bay, this]

theorem State.assigned_committed (s : State) (b : BayIx) (i : Identity) :
    (s.assigned b i).committedSum = s.committedSum := by
  rw [← committed_eq_sum, ← committed_eq_sum]
  refine committed_congr _ _ rfl rfl fun o => ?_
  by_cases c : o = b
  · rw [c, State.assigned_bay]
  · rw [State.assigned_other s i c]

/-- An identity assigned is stored, and then its return is processed (R103). -/
theorem assignIdentity_eq (b : BayIx) (i : Identity) (s : State) :
    assignIdentity b i s = processReturn b (s.assigned b i) := by
  unfold assignIdentity clearUnidentified State.assigned
  rw [State.modBay_bay_self]
  congr 1
  cases u : (s.bay b).alarms.unidentified
  · have alarms : { (s.bay b).alarms with unidentified := false } = (s.bay b).alarms := by rw [← u]
    rw [if_neg (by simp)]
    have quiet : s.changes.bays.set b.val { s.changes.bays[b] with alarm := s.changes.bays[b].alarm || false } b.isLt =
        s.changes.bays := by
      rw [Bool.or_false]
      exact Vector.set_getElem_self b.isLt
    simp only [State.modBay, alarms, quiet]
  · rw [if_pos rfl]
    simp [State.modBay, State.bay, State.postBay, BayCauses.add]

/-- A due return has its minute fixed in the arrival minute (R95). -/
theorem processReturn_fixes {b : BayIx} {s : State} (due : (s.bay b).returnDue = true) :
    ((processReturn b s).bay b).arrival = some ((s.bay b).arrival.getD s.clock.minute) := by
  obtain ⟨-, identity, -⟩ := (s.bay b).returnDue_iff.mp due
  obtain ⟨i, hi⟩ := Option.ne_none_iff_exists'.mp identity
  simp only [processReturn, hi, due, if_true]
  split
  · rw [localReturn_bay, markProcessed_bay]
  · split
    · rw [fixMinute_bay]
    · rw [foreignReturn_bay, markProcessed_bay]

section Assigned
variable {s : State} {b : BayIx} {i : Identity}

/-- The bay after its return: the tag is stored, and return processing writes mark, minute and held return. -/
theorem processReturn_assigned_bay : (processReturn b (s.assigned b i)).bay b = { s.bay b with
    identity := some i, tagWindow := none, alarms := { (s.bay b).alarms with unidentified := false }
    processed := ((processReturn b (s.assigned b i)).bay b).processed
    arrival := ((processReturn b (s.assigned b i)).bay b).arrival
    held := ((processReturn b (s.assigned b i)).bay b).held } := by
  rw [processReturn_bay, State.assigned_bay]

theorem State.assigned_due (secured : (s.bay b).state = .docked ∨ (s.bay b).state = .fault ∧ (s.bay b).presence = .present)
    (fresh : (s.bay b).processed = false) : ((s.assigned b i).bay b).returnDue = true := by
  rw [Bay.returnDue_iff, State.assigned_bay]
  exact ⟨secured, nofun, fresh⟩

theorem processReturn_assigned_frame : let t := processReturn b (s.assigned b i)
    t = { s with
      bays := t.bays, rentals := t.rentals, journal := t.journal, heldOrder := t.heldOrder
      highWaterArmed := t.highWaterArmed, changes := t.changes } := by
  intro t
  exact (processReturn_frame b (s.assigned b i)).trans rfl

/-- The causes of bay `b` after an assignment in `s` and the processing of its return (R96, R98, R99, R103). -/
def State.causesAssigned (s : State) (b : BayIx) (returned held : Bool) : Vector BayCauses 32 :=
  s.changes.bays.set b.val { s.changes.bays[b] with
    alarm := s.changes.bays[b].alarm || (s.bay b).alarms.unidentified
    returned := s.changes.bays[b].returned || returned, held := s.changes.bays[b].held || held } b.isLt

/-- An assignment in `s` has put a record in the journal: RETURN is posted, and JOURNAL_HIGH at its rise to 192 with the flag
armed (R96, R98, R135). -/
structure AssignedWritten (b : BayIx) (r : JournalRecord) (s t : State) : Prop where
  journal : t.journal = s.journal ++ [r]
  armed   : t.highWaterArmed = (s.highWaterArmed && !(decide (s.journal.length = 191) && s.highWaterArmed))
  station : t.changes.station = { s.changes.station with
    journalHigh := s.changes.station.journalHigh || decide (s.journal.length = 191) && s.highWaterArmed }
  causes  : t.changes.bays = s.causesAssigned b true false

/-- An assignment in `s` has put nothing in the journal. -/
structure AssignedUnwritten (b : BayIx) (held : Bool) (s t : State) : Prop where
  journal : t.journal = s.journal
  armed   : t.highWaterArmed = s.highWaterArmed
  station : t.changes.station = s.changes.station
  causes  : t.changes.bays = s.causesAssigned b false held

theorem AssignedWritten.withReturn (r : JournalRecord) (bays : Vector Bay 32) (rentals : Vector (Option Rental) 64) :
    AssignedWritten b r s ({ s.assigned b i with bays := bays, rentals := rentals }.withReturn b r) :=
  ⟨rfl, rfl, rfl, by simp [State.withReturn, State.assigned, State.causesAssigned]⟩

variable (secured : (s.bay b).state = .docked ∨ (s.bay b).state = .fault ∧ (s.bay b).presence = .present)
  (fresh : (s.bay b).processed = false)
include secured fresh

/-- The OPEN record of the bike leaves the table for a RETURN record (R96, R97). -/
theorem assigned_local {k : Fin 64} {r : Rental} (stored : s.rentals[k] = some r) (same : r.bike = i.bike)
    (opened : r.stage = .opened) (only : ∀ (j : Fin 64) x, s.rentals[j] = some x → x.bike = i.bike → j = k) :
    let t := processReturn b (s.assigned b i)
    let minute := (s.bay b).arrival.getD s.clock.minute
    let x := computeCharge r minute
    AssignedWritten b (.returned ⟨minute, b, r.bay, r.bike, r.cls, r.rider, r.plan, r.checkout.getD 0, x.duration, x.charge,
      x.settled, x.due⟩) s t ∧
    t.rentals = s.rentals.set k.val none k.isLt ∧ (t.bay b).processed = true ∧ t.heldOrder = s.heldOrder := by
  have e := (processReturn_settled (State.assigned_due (i := i) secured fresh)).localOne i k r
    (by rw [State.assigned_bay]) (by rw [State.assigned_bay]; exact fresh) stored same opened only
  simp only [State.assigned_bay] at e
  intro t minute x
  have e : t = _ := e
  have bay := State.bay_of_set (s := s.assigned b i) (congrArg State.bays e)
  rw [bay, e]
  exact ⟨.withReturn _ _ _, rfl, rfl, rfl⟩

/-- A foreign return is written where the journal admits it, held where it does not, and waits behind a held one, and no
rental changes (R98, R99, R100). -/
theorem assigned_foreign (foreign : ∀ (j : Fin 64) x, s.rentals[j] = some x → x.bike = i.bike → x.stage ≠ .opened) :
    let t := processReturn b (s.assigned b i)
    let record : ForeignReturn := ⟨(s.bay b).arrival.getD s.clock.minute, b, i.bike, i.cls, i.battery⟩
    t.rentals = s.rentals ∧
    ((s.bay b).held = none → s.committedSum + 1 ≤ 256 → (t.bay b).processed = true ∧
      AssignedWritten b (.foreignReturn record) s t ∧ t.heldOrder = s.heldOrder ∧ (t.bay b).held = none) ∧
    ((s.bay b).held = none → 256 < s.committedSum + 1 → (t.bay b).processed = true ∧ AssignedUnwritten b true s t ∧
      t.heldOrder = s.heldOrder ++ [b] ∧ (t.bay b).held = some record) ∧
    ((s.bay b).held ≠ none → (t.bay b).processed = false ∧ AssignedUnwritten b false s t ∧
      t.heldOrder = s.heldOrder ∧ (t.bay b).held = (s.bay b).held) := by
  have settled := (processReturn_settled (State.assigned_due (i := i) secured fresh)).foreignOne i
    (by rw [State.assigned_bay]) (by rw [State.assigned_bay]; exact fresh) foreign
  simp only [State.assigned_bay, State.assigned_committed] at settled
  obtain ⟨written, kept, waits⟩ := settled
  intro t record
  refine ⟨?_, fun free room => ?_, fun free full => ?_, fun behind => ?_⟩
  · by_cases free : (s.bay b).held = none
    · rcases Nat.lt_or_ge 256 (s.committedSum + 1) with full | room
      · exact (congrArg State.rentals (kept free full) :)
      · exact (congrArg State.rentals (written free room) :)
    · exact (congrArg State.rentals (waits free) :)
  · have e : t = _ := written free room
    have bay := State.bay_of_set (s := s.assigned b i) (congrArg State.bays e)
    rw [bay, e]
    exact ⟨rfl, .withReturn _ _ _, rfl, free⟩
  · have e : t = _ := kept free full
    have bay := State.bay_of_set (s := s.assigned b i) (congrArg State.bays e)
    rw [bay, e]
    exact ⟨rfl, ⟨rfl, rfl, rfl, by simp [State.assigned, State.causesAssigned]⟩, rfl, rfl⟩
  · have e : t = _ := waits behind
    have bay := State.bay_of_set (s := s.assigned b i) (congrArg State.bays e)
    rw [bay, e]
    exact ⟨fresh, ⟨rfl, rfl, rfl, by simp [State.assigned, State.causesAssigned]⟩, rfl, rfl⟩

end Assigned

/-- A bay in DOCKED, or in FAULT with the bike present, that has no identity takes a tag that no other bay names (R101). -/
theorem bikeTag_assigns {s : State} {n : Byte} {b : BayIx} {bike : Nat} (c : BikeClass) (pct : Nat)
    (number : n.toNat = b.val + 1) (nonzero : bike ≠ 0)
    (secured : (s.bay b).state = .docked ∨ (s.bay b).state = .fault ∧ (s.bay b).presence = .present)
    (unknown : (s.bay b).identity = none) (free : ∀ o, o ≠ b → (s.bay o).names bike = false) :
    bikeTag n bike (BitVec.ofNat 8 c.code) pct s = (processReturn b (s.assigned b ⟨bike, c, min pct 100⟩),
      tagReply .assigned ⟨bike, c, min pct 100⟩) := by
  have takes : ¬ (s.bay b).refusesTag = true := by
    rw [Bay.refusesTag_iff]
    rcases secured with docked | ⟨fault, present⟩
    · simp [docked]
    · simp [fault, present]
  have occupied : (s.bay b).state ≠ .vacant := by
    rcases secured with docked | ⟨fault, -⟩
    · simp [docked]
    · simp [fault]
  rw [bikeTag_eq pct s number nonzero, tagBay_unknown ((not_namedElsewhere_iff s b bike).mpr free) takes occupied unknown,
    assignIdentity_eq]

/-- Settles O33: the assignment stores the tag, and the return is then processed as an entry would process it. -/
theorem tagAssignmentProcessesTheReturn : Obligations.TagAssignmentProcessesTheReturn := by
  intro s n b bike c battery hs number nonzero secured unknown fresh free
  have named : bike.toNat ≠ 0 := fun zero => nonzero (BitVec.eq_of_toNat_eq zero)
  let i : Identity := ⟨bike.toNat, c, min battery.toNat 100⟩
  have taken : exec (.bikeTag n bike (BitVec.ofNat 8 c.code) battery) s = _ :=
    congrArg Host.Outcome.next (takeRequest_done 0x38 hs
      (bikeTag_assigns (s := s.hunting) c battery.toNat number named secured unknown free))
  have fixed := processReturn_fixes (State.assigned_due (s := s.hunting) (i := i) secured fresh)
  have bay := processReturn_assigned_bay (s := s.hunting) (b := b) (i := i)
  rw [State.assigned_bay] at fixed
  refine ⟨_, taken, rfl, fun o ne => (processReturn_other b o _ ne).trans (State.assigned_other s.hunting _ ne),
    (congrArg Bay.identity bay :), (congrArg Bay.tagWindow bay :), (congrArg (fun y => y.alarms.unidentified) bay :),
    (congrArg Bay.state bay :), ?_, fixed, ?_, ?_⟩
  · rw [processReturn_assigned_frame]; rfl
  · intro k r stored same opened only
    obtain ⟨⟨journal, armed, station, causes⟩, rest⟩ :=
      assigned_local (s := s.hunting) (i := i) secured fresh stored same opened only
    exact ⟨⟨journal, armed, station, causes⟩, rest⟩
  · intro foreign
    obtain ⟨rentals, written, kept, waits⟩ := assigned_foreign (s := s.hunting) (i := i) secured fresh foreign
    refine ⟨rentals, fun free room => ?_, fun free full => ?_, fun behind => ?_⟩
    · obtain ⟨processed, ⟨journal, armed, station, causes⟩, rest⟩ := written free room
      exact ⟨processed, ⟨journal, armed, station, causes⟩, rest⟩
    · obtain ⟨processed, ⟨journal, armed, station, causes⟩, rest⟩ := kept free full
      exact ⟨processed, ⟨journal, armed, station⟩, causes, rest⟩
    · obtain ⟨processed, ⟨journal, armed, station, causes⟩, rest⟩ := waits behind
      exact ⟨processed, ⟨journal, armed, station⟩, causes, rest⟩

end Sys2Proof.Machine
end

section
/-! The bounds of a charge, the tariff table and the queries of stored values: O15, O24, O27. -/

namespace Sys2Proof.Machine

/-! ### The bounds of a charge -/

/-- The minimum at the cap bounds the charge, and the minimum at the hold is the part of it that is settled (R120, R121). -/
theorem computeCharge_bounds (r : Rental) (minute : Nat) : let c := computeCharge r minute
    c.charge ≤ r.tariff.rideCap ∧ c.settled + c.due = c.charge ∧ c.settled ≤ r.hold :=
  ⟨Nat.min_le_right _ _, Nat.add_sub_cancel' (Nat.min_le_left _ _), Nat.min_le_right _ _⟩

/-- Settles O27: the bounds of the computation, with the cap of a legal record above the hold and within its range. -/
theorem chargeBounds : Obligations.ChargeBounds := by
  intro r minute legal c
  obtain ⟨capped, split, settled⟩ := computeCharge_bounds r minute
  obtain ⟨hold, ⟨-, -, -, -, -, -, -, cap⟩, -⟩ := legal
  have charge : c.charge ≤ 50000 := capped.trans cap
  have parts : c.settled + c.due ≤ 50000 := split.trans_le charge
  exact ⟨capped, split, settled, hold.trans cap, charge, (Nat.le_add_right _ _).trans parts, (Nat.le_add_left _ _).trans parts⟩

/-! ### The plan a request names -/

theorem planOf?_none {n : Byte} (h : n = 0 ∨ 3 < n.toNat) : planOf? n = none :=
  Option.isNone_iff_eq_none.mp ((planOf?_isNone n).trans (decide_eq_true h))

theorem planOf?_code (p : Plan) : planOf? (BitVec.ofNat 8 p.code) = some p := by cases p <;> rfl

theorem Plan.code_eq (p : Plan) : p.code = (planIndex p).val + 1 := by cases p <;> rfl

theorem planIndex_surjective : Function.Surjective planIndex
  | 0 => ⟨.casual, rfl⟩
  | 1 => ⟨.daypass, rfl⟩
  | 2 => ⟨.member, rfl⟩

/-! ### TARIFF_SET -/

theorem clampTariff_eq (t : Tariff) : clampTariff t = ⟨min 1000 t.unlockFee, min 1440 t.freeMinutes,
    min 240 (max 1 t.period), min 2000 t.periodPrice, min 2000 t.supplement, min 50000 (max 100 t.rideCap)⟩ := by
  simp only [clampTariff, clamp, Nat.zero_max]

theorem exec_tariffSet_range {n : Byte} (a b c d e f : BitVec 16) {s : State} (hs : s.accepting)
    (bad : n = 0 ∨ 3 < n.toNat) : exec (.tariffSet n a b c d e f) s = .next (s.answered 0xA0 [1]) :=
  congrArg Host.Outcome.next (takeRequest_answer 0x20 _ s hs _ (by rw [planOf?_none bad]; rfl))

/-- TARIFF_SET stores the clamped entry of its plan and answers it, with whether one stood there before (R111). -/
theorem exec_tariffSet (p : Plan) (a b c d e f : BitVec 16) {s : State} (hs : s.accepting) :
    let t := clampTariff ⟨a.toNat, b.toNat, c.toNat, d.toNat, e.toNat, f.toNat⟩
    exec (.tariffSet (BitVec.ofNat 8 p.code) a b c d e f) s =
      .next ({ s with tariffs := s.tariffs.set (planIndex p).val (some t) (planIndex p).isLt }.answered 0xA0
        (okWith (be8 p.code ++ beFlag (s.tariffOf p).isSome ++ tariffFields t))) := by
  intro t
  exact congrArg Host.Outcome.next (takeRequest_done 0x20 hs
    (t := { s.hunting with tariffs := s.tariffs.set (planIndex p).val (some t) (planIndex p).isLt })
    (by rw [planOf?_code]; rfl))

/-- Settles O24: the refusal, and the entry that the clamps store. -/
theorem tariffSetClamps : Obligations.TariffSetClamps := by
  intro s n a b c d e f hs
  refine ⟨exec_tariffSet_range a b c d e f hs, fun k number => ?_⟩
  obtain ⟨p, rfl⟩ := planIndex_surjective k
  have code : n = BitVec.ofNat 8 p.code := by rw [p.code_eq, ← number, BitVec.ofNat_toNat, BitVec.setWidth_eq]
  rw [code, exec_tariffSet p a b c d e f hs, clampTariff_eq, beFlag_eq]
  rfl

/-! ### The queries -/

/-- A query answers the payload that it computes of the state and changes nothing. -/
theorem query_answers (kind : Byte) {payload : State → List Byte} {s : State} {p : List Byte} (hs : s.accepting)
    (e : payload s.hunting = p) : (.next (takeRequest kind (answer payload) s) : Host.Outcome State Fault Refusal) =
      .next (s.answered (kind + 0x80) p) :=
  congrArg Host.Outcome.next (takeRequest_answer kind _ s hs p (congrArg (Prod.mk s.hunting) e))

theorem exec_tariffGet_range {n : Byte} {s : State} (hs : s.accepting) (bad : n = 0 ∨ 3 < n.toNat) :
    exec (.tariffGet n) s = .next (s.answered 0xA1 [1]) :=
  query_answers 0x21 hs (by rw [planOf?_none bad]; rfl)

/-- TARIFF_GET answers the entry of its plan, with zeros where none is set (R113). -/
theorem exec_tariffGet (p : Plan) {s : State} (hs : s.accepting) :
    exec (.tariffGet (BitVec.ofNat 8 p.code)) s = .next (s.answered 0xA1
      (okWith (be8 p.code ++ beFlag (s.tariffOf p).isSome ++ tariffFields ((s.tariffOf p).getD ⟨0, 0, 0, 0, 0, 0⟩)))) :=
  query_answers 0x21 hs (by rw [planOf?_code]; rfl)

theorem profileOf?_none {n : Byte} (latch : n ≠ 1) (unlatch : n ≠ 2) : profileOf? n = none := by
  rw [profileOf?, if_neg latch, if_neg unlatch]

theorem exec_profileGet_range {n : Byte} {s : State} (hs : s.accepting) (latch : n ≠ 1) (unlatch : n ≠ 2) :
    exec (.profileGet n) s = .next (s.answered 0xD1 [1]) :=
  query_answers 0x51 hs (by rw [profileOf?_none latch unlatch]; rfl)

/-- Settles O15: each query answers the payload of its rule, and a plan is the place of its entry in the table. -/
theorem storedValueQueries : Obligations.StoredValueQueries := by
  intro s hs tariff profile
  refine ⟨query_answers 0x11 hs rfl, query_answers 0x13 hs rfl, fun n bad => exec_tariffGet_range hs bad,
    fun k t stored => ?_, fun k unset => ?_, fun n latch unlatch => exec_profileGet_range hs latch unlatch,
    query_answers 0x51 hs rfl, query_answers 0x51 hs rfl, query_answers 0x59 hs rfl⟩
  · obtain ⟨p, rfl⟩ := planIndex_surjective k
    have stored : s.tariffOf p = some t := stored
    rw [← p.code_eq, exec_tariffGet p hs, stored]
    rfl
  · obtain ⟨p, rfl⟩ := planIndex_surjective k
    have unset : s.tariffOf p = none := unset
    rw [← p.code_eq, exec_tariffGet p hs, unset]
    rfl

end Sys2Proof.Machine
end

section
/-! How the committed count moves, and what the bounds of the journal read of a state (O4). -/

namespace Sys2Proof.Machine

/-! ### The committed count -/

/-- With the journal left alone, slots and bays that weigh no more give a committed count that is no greater (R126). -/
theorem committed_le {s t : State} (journal : t.journal = s.journal)
    (slots : ∀ k : Fin 64, slotWeight t.rentals[k] ≤ slotWeight s.rentals[k])
    (bays : ∀ b, bayWeight (t.bay b) ≤ bayWeight (s.bay b)) : t.committed ≤ s.committed := by
  rw [committed_eq_sum, committed_eq_sum, State.committedSum, State.committedSum, journal]
  exact Nat.add_le_add (Nat.add_le_add_left (List.sum_le_sum fun k _ => slots k) _) (List.sum_le_sum fun b _ => bays b)

/-- A slot that is set gives up its old weight for its new one. -/
theorem committed_setRental (s : State) (k : Fin 64) (slot : Option Rental) :
    (s.setRental k slot).committed + slotWeight s.rentals[k] = s.committed + slotWeight slot := by
  have slots := sum_changed (fun j => slotWeight (s.setRental k slot).rentals[j]) (fun j => slotWeight s.rentals[j]) k
    fun j e => congrArg slotWeight (State.setRental_get_ne s k j slot e)
  simp only [Fin.getElem_fin, State.setRental_get_self] at slots
  have journal : (s.setRental k slot).journal = s.journal := rfl
  have bays : (s.setRental k slot).bays = s.bays := rfl
  rw [committed_eq_sum, committed_eq_sum]
  simp only [State.committedSum, journal, bays, Fin.getElem_fin]
  omega

/-- A bay that is written gives up its old weight for its new one. -/
theorem committed_modBay (s : State) (b : BayIx) (f : Bay → Bay) :
    (s.modBay b f).committed + bayWeight (s.bay b) = s.committed + bayWeight (f (s.bay b)) := by
  have bays := sum_changed (fun o => bayWeight ((s.modBay b f).bay o)) (fun o => bayWeight (s.bay o)) b
    fun o e => congrArg bayWeight (State.modBay_bay_ne s f b o e)
  simp only [State.modBay_bay_self] at bays
  have journal : (s.modBay b f).journal = s.journal := rfl
  have rentals : (s.modBay b f).rentals = s.rentals := rfl
  rw [committed_eq_sum, committed_eq_sum]
  simp only [State.committedSum, journal, rentals]
  simp only [State.bay] at bays ⊢
  omega

theorem committed_appendRecord (r : JournalRecord) (s : State) : (appendRecord r s).committed = s.committed + 1 :=
  committed_grown (by rw [appendRecord_frame]; exact List.length_append) (by rw [appendRecord_frame]) fun b => by
    rw [appendRecord_bay]

theorem Bay.weight_le_one (y : Bay) : bayWeight y ≤ 1 := by
  rw [bayWeight]
  cases y.link with
  | staff => exact le_rfl
  | unlinked | rental | readiness => exact Nat.zero_le 1

theorem slotWeight_held {s : State} {k : Fin 64} {r : Rental} (h : s.heldRental? k = some r) :
    slotWeight s.rentals[k] = 2 := by
  obtain ⟨stored, held⟩ := heldRental?_spec h
  rw [stored, slotWeight]
  cases e : r.stage with
  | pending | released => rfl
  | opened => exact absurd e held

/-- At a flag that is not disarmed by a rise to 192 a low journal leaves it as it was (R135). -/
theorem HighWaterFollows.low {s t : State} (h : HighWaterFollows s t) (low : t.journal.length ≤ 128) :
    t.highWaterArmed = s.highWaterArmed := (h.still (by omega)).2

/-! ### What the bounds read -/

/-- The record `z` holds the return that `y` holds and weighs no more in the committed count (R126, R129). -/
structure Bay.Tallied (y z : Bay) : Prop where
  held   : z.held = y.held
  weight : bayWeight z ≤ bayWeight y

theorem Bay.Tallied.refl (y : Bay) : y.Tallied y := ⟨rfl, le_rfl⟩

/-- A bay that no release holds weighs nothing. -/
theorem Bay.Tallied.unlinked {y z : Bay} (held : z.held = y.held) (link : z.link = .unlinked) : y.Tallied z :=
  ⟨held, by rw [bayWeight, link]; exact Nat.zero_le _⟩

/-- What the bounds read outside the bays. -/
def State.ledger (s : State) := (s.journal, s.cursor, s.heldOrder, s.highWaterArmed, s.rentals)

/-- A journal that has grown keeps its bounds where it has room and the held order is again that of the held returns. -/
theorem JournalKept.grown {s t : State} (h : JournalKept s) (grows : s.journal.length ≤ t.journal.length)
    (follows : t.journal.length ≤ 128 → t.highWaterArmed = s.highWaterArmed) (cursor : t.cursor = s.cursor)
    (room : t.committed ≤ 256) (once : t.heldOrder.Nodup) (exact : ∀ b, b ∈ t.heldOrder ↔ (t.bay b).held.isSome) :
    JournalKept t where
  committed := room
  cursor := by rw [cursor]; exact h.cursor.trans grows
  heldOnce := once
  heldExact := exact
  armed low := (follows low).trans (h.armed (grows.trans low))

/-- `t` keeps the bounds of the journal if `s` has them. -/
def KeepsJournal (s t : State) : Prop := JournalKept s → JournalKept t

namespace KeepsJournal

theorem refl (s : State) : KeepsJournal s s := id

theorem trans {s t u : State} (h : KeepsJournal s t) (k : KeepsJournal t u) : KeepsJournal s u := fun kept => k (h kept)

/-- With the journal and the held returns left alone, the bounds rest on the cursor and the committed count. -/
theorem of_count {s t : State} (journal : t.journal = s.journal) (cursor : t.cursor ≤ s.cursor)
    (order : t.heldOrder = s.heldOrder) (armed : t.highWaterArmed = s.highWaterArmed)
    (held : ∀ b, (t.bay b).held = (s.bay b).held) (count : JournalKept s → t.committed ≤ 256) : KeepsJournal s t :=
  fun h => {
    committed := count h
    cursor := by rw [journal]; exact cursor.trans h.cursor
    heldOnce := by rw [order]; exact h.heldOnce
    heldExact := fun b => by rw [order, held]; exact h.heldExact b
    armed := by rw [journal, armed]; exact h.armed }

/-- Slots and bays weigh no more, and the cursor is not moved on. -/
theorem of_fewer {s t : State} (journal : t.journal = s.journal) (cursor : t.cursor ≤ s.cursor)
    (order : t.heldOrder = s.heldOrder) (armed : t.highWaterArmed = s.highWaterArmed)
    (slots : ∀ k : Fin 64, slotWeight t.rentals[k] ≤ slotWeight s.rentals[k])
    (bays : ∀ b, (s.bay b).Tallied (t.bay b)) : KeepsJournal s t :=
  of_count journal cursor order armed (fun b => (bays b).held) fun h =>
    (committed_le journal slots fun b => (bays b).weight).trans h.committed

/-- Only bay records change of what the bounds read. -/
theorem of_bays {s t : State} (ledger : t.ledger = s.ledger) (bays : ∀ b, (s.bay b).Tallied (t.bay b)) :
    KeepsJournal s t := by
  simp only [State.ledger, Prod.mk.injEq] at ledger
  obtain ⟨journal, cursor, order, armed, rentals⟩ := ledger
  exact of_fewer journal cursor.le order armed (fun k => by rw [rentals]) bays

/-- Nothing that the bounds read has changed. -/
theorem of_same {s t : State} (ledger : t.ledger = s.ledger) (bays : t.bays = s.bays) : KeepsJournal s t :=
  of_bays ledger fun b => by rw [State.bay_congr bays]; exact .refl _

theorem foldl {α : Type} {f : State → α → State} (h : ∀ t a, KeepsJournal t (f t a)) (l : List α) (s : State) :
    KeepsJournal s (l.foldl f s) := by
  induction l generalizing s with
  | nil => exact refl s
  | cons a rest ih => exact (h s a).trans (ih _)

/-- An effect that comes or not. -/
theorem taken {cond : Prop} [Decidable cond] {s t : State} (h : KeepsJournal s t) :
    KeepsJournal s (if cond then t else s) := by
  split
  · exact h
  · exact refl s

/-! ### Bay records -/

/-- A bay record changes, holds the same return and weighs no more. -/
theorem modBay (s : State) (b : BayIx) (f : Bay → Bay)
    (tallied : (s.bay b).Tallied (f (s.bay b)) := by exact ⟨rfl, le_rfl⟩) : KeepsJournal s (s.modBay b f) := by
  refine of_bays rfl fun o => ?_
  by_cases e : o = b
  · rw [e, State.modBay_bay_self]; exact tallied
  · rw [State.modBay_bay_ne s f b o e]; exact .refl _

/-- A bay may take the weight of a staff release where there is room for one record more. -/
theorem put {s : State} {b : BayIx} {y : Bay} (held : y.held = (s.bay b).held) (room : s.committed + 1 ≤ 256) :
    KeepsJournal s (s.put b y) := by
  refine of_count rfl le_rfl rfl rfl (fun o => ?_) fun _ => ?_
  · by_cases e : o = b
    · rw [e, State.put_bay]; exact held
    · rw [State.put_other s b y e]
  · have count : (s.put b y).committed + bayWeight (s.bay b) = s.committed + bayWeight y := committed_modBay s b fun _ => y
    have := y.weight_le_one
    omega

theorem postBay (s : State) (b : BayIx) (c : BayCause) : KeepsJournal s (s.postBay b c) := of_same rfl rfl

theorem raiseAlarm (b : BayIx) (a : Alarm) (s : State) : KeepsJournal s (raiseAlarm b a s) :=
  (modBay s b _).trans (postBay _ b _)

theorem clearStage (b : BayIx) (s : State) : KeepsJournal s (clearStage b s) := modBay s b _

theorem withdrawRequest (b : BayIx) (s : State) : KeepsJournal s (withdrawRequest b s) :=
  .trans (t := s.unqueued b) (of_same rfl rfl) (modBay _ b _)

theorem endRelease (b : BayIx) (o : LastOutcome) (s : State) : KeepsJournal s (endRelease b o s) :=
  (modBay s b _ (.unlinked rfl rfl)).trans (postBay _ b _)

theorem startTagWindow (b : BayIx) (s : State) : KeepsJournal s (startTagWindow b s) :=
  taken (modBay s b fun y => { y with tagWindow := some (s.ms + 1000 * s.settings.tagWindow) })

theorem changeState (b : BayIx) (n : BayState) (s : State) : KeepsJournal s (changeState b n s) := by
  refine of_bays (by rw [changeState_frame]; rfl) fun o => ?_
  by_cases e : o = b
  · rw [e, changeState_bay]; exact ⟨rfl, le_rfl⟩
  · rw [changeState_other b o n s e]; exact .refl _

theorem postRequest (b : BayIx) (s : State) : KeepsJournal s (postRequest b s) := by
  unfold Machine.postRequest
  split
  · refine .trans (t := { s with queue := _, nextOrder := _ }) ?_ (modBay _ b _)
    exact of_same rfl rfl
  · exact refl s

theorem enterLatching (b : BayIx) (s : State) : KeepsJournal s (enterLatching b s) :=
  (changeState b _ s).trans ((modBay _ b _ (.unlinked rfl rfl)).trans (postRequest b _))

/-- A bay enters UNLATCHING under a link other than the staff mark. -/
theorem enterUnlatching (b : BayIx) {l : Link} (unstaffed : l ≠ .staff) (s : State) :
    KeepsJournal s (enterUnlatching b l s) := by
  have weight (y : Bay) : bayWeight { y with attempts := 0, link := l } = 0 := by
    cases l with
    | staff => exact absurd rfl unstaffed
    | unlinked | rental | readiness => rfl
  exact (changeState b _ s).trans
    ((modBay _ b _ ⟨rfl, by rw [weight]; exact Nat.zero_le _⟩).trans (postRequest b _))

/-! ### Returns -/

/-- A record is written, and what else changes leaves room for it. -/
theorem written {r : JournalRecord} {s t : State} (journal : t.journal = (appendRecord r s).journal)
    (armed : t.highWaterArmed = (appendRecord r s).highWaterArmed) (cursor : t.cursor = s.cursor)
    (order : t.heldOrder = s.heldOrder) (held : ∀ b, (t.bay b).held = (s.bay b).held)
    (count : JournalKept s → t.committed ≤ 256) : KeepsJournal s t := fun h =>
  h.grown (by rw [journal, appendRecord_frame]; exact (List.length_append ▸ Nat.le_add_right _ _))
    (fun low => by rw [armed]; exact (HighWaterFollows.appendRecord r s).low (by rwa [journal] at low)) cursor (count h)
    (by rw [order]; exact h.heldOnce) fun b => by rw [order, held]; exact h.heldExact b

/-- A record that finds room is written (R124). -/
theorem appendRecord {r : JournalRecord} {s : State} (room : s.committed + 1 ≤ 256) :
    KeepsJournal s (appendRecord r s) :=
  written rfl rfl (by rw [appendRecord_frame]) (by rw [appendRecord_frame]) (fun b => by rw [appendRecord_bay]) fun _ => by
    rw [committed_appendRecord]; exact room

/-- The place of an OPEN rental in the committed count becomes that of its RETURN record (R96, R126). -/
theorem localReturn {b : BayIx} {m bike : Nat} {k : Fin 64} {r : Rental} {s : State}
    (found : s.openRental? bike = some (k, r)) : KeepsJournal s (localReturn b m k r s) := by
  have one : slotWeight s.rentals[k] = 1 := by
    rw [(openRental?_spec found).1, slotWeight, openRental?_opened found]
  unfold Machine.localReturn
  simp only
  generalize JournalRecord.returned _ = x
  refine .trans (t := (Machine.appendRecord x s).setRental k none) ?_ (postBay _ b _)
  have count := committed_setRental (Machine.appendRecord x s) k none
  rw [committed_appendRecord] at count
  rw [appendRecord_frame] at count ⊢
  refine written (r := x) ?_ ?_ rfl rfl (fun _ => rfl) fun h => ?_
  · rw [appendRecord_frame]; rfl
  · rfl
  · have := h.committed
    simp only [one] at count
    have : slotWeight none = 0 := rfl
    omega

/-- A foreign return is written where it finds room; otherwise its bay, which holds none yet, joins the held order (R98, R99). -/
theorem foreignReturn {b : BayIx} {s : State} (m : Nat) (i : Identity) (free : (s.bay b).held = none) :
    KeepsJournal s (foreignReturn b m i s) := by
  unfold Machine.foreignReturn
  simp only
  split
  · next admits => exact (appendRecord (of_decide_eq_true admits)).trans (postBay _ b _)
  · generalize ForeignReturn.mk m b i.bike i.cls i.battery = r
    refine .trans (t := ({ s with heldOrder := s.heldOrder ++ [b] } : State).modBay b fun y => { y with held := some r })
      (fun h => ?_) (postBay _ b _)
    have new : b ∉ s.heldOrder := fun m => by simpa [free] using (h.heldExact b).mp m
    have count := committed_modBay { s with heldOrder := s.heldOrder ++ [b] } b fun y => { y with held := some r }
    refine h.grown le_rfl (fun _ => rfl) rfl ((Nat.add_right_cancel count).trans_le h.committed) ?_ fun o => ?_
    · exact List.concat_eq_append ▸ h.heldOnce.concat new
    · show o ∈ s.heldOrder ++ [b] ↔ _
      by_cases e : o = b
      · rw [e, State.modBay_bay_self]; simp
      · rw [State.modBay_bay_ne _ _ b o e, List.mem_append, List.mem_singleton, or_iff_left e]
        exact h.heldExact o

theorem processReturn (b : BayIx) (s : State) : KeepsJournal s (processReturn b s) := by
  unfold Machine.processReturn
  simp only
  split
  · exact refl s
  · refine taken ?_
    have marked : KeepsJournal s (markProcessed b s) := modBay s b _
    split
    · next found => exact marked.trans (localReturn (s := markProcessed b s) found)
    · split
      · exact modBay s b _
      · next free =>
        refine marked.trans (foreignReturn _ _ ?_)
        rw [markProcessed_bay]
        exact Option.not_isSome_iff_eq_none.mp free

/-- Held returns at the front of the order are written, as many as find room (R127, R130). -/
theorem front {n : Nat} {s t : State} (room : s.committed + (s.heldOrder.take n).length ≤ 256)
    (written : Written (s.heldOrder.take n) s t) (order : t.heldOrder = s.heldOrder.drop n) : KeepsJournal s t := fun h => by
  refine h.grown (by rw [written.length]; exact Nat.le_add_right _ _) written.highWater.low (by rw [written.frame])
    (by rw [written.committed]; exact room) (by rw [order]; exact h.heldOnce.sublist (List.drop_sublist _ _)) fun b => ?_
  rw [order]
  by_cases m : b ∈ s.heldOrder.take n
  · rw [(written.bays b m).1]
    exact iff_of_false (List.disjoint_take_drop h.heldOnce le_rfl m) Bool.false_ne_true
  · rw [written.others b m, ← h.heldExact b]
    conv_rhs => rw [← List.take_append_drop n s.heldOrder, List.mem_append, or_iff_right m]

/-- The flush writes what finds room, and then processes the returns of the bays it wrote (R130, R131). -/
theorem flush (s : State) : KeepsJournal s (flush s) := fun h => by
  obtain ⟨t, written, order, e⟩ := flush_written h
  have room : s.committed + (s.heldOrder.take s.writable).length ≤ 256 := by
    have := h.committed
    rw [List.length_take, State.writable, ← committed_eq_sum]
    omega
  rw [e]
  exact (front room written order).trans (foldl (fun t b => processReturn b t) _ t) h

/-! ### Entries to bay states -/

theorem secured (b : BayIx) (s : State) : KeepsJournal s (secured b s) := (startTagWindow b s).trans (processReturn b _)

theorem enterDocked (b : BayIx) (s : State) : KeepsJournal s (enterDocked b s) := (changeState b _ s).trans (secured b _)

theorem enterFault (b : BayIx) (s : State) : KeepsJournal s (enterFault b s) := by
  unfold Machine.enterFault
  simp only
  split
  · exact (changeState b _ s).trans (secured b _)
  · exact changeState b _ s

theorem rederived (m : Nat) (y : Bay) : y.Tallied (y.rederived m) := by
  unfold Bay.rederived
  simp only
  split <;> exact .unlinked rfl rfl

theorem rederive (b : BayIx) (s : State) : KeepsJournal s (rederive b s) := by
  unfold Machine.rederive
  simp only
  refine (modBay s b _ (rederived s.clock.minute _)).trans ?_
  split
  · exact enterDocked b _
  · exact enterLatching b _
  · exact changeState b _ _
  · exact enterUnlatching b (l := .readiness) nofun _

/-! ### The rental table and the ends of a release -/

/-- A slot is set, and the committed count stays within its bound. -/
theorem setRental {s : State} {k : Fin 64} {slot : Option Rental} (count : JournalKept s → (s.setRental k slot).committed ≤ 256) :
    KeepsJournal s (s.setRental k slot) := of_count rfl le_rfl rfl rfl (fun _ => rfl) count

/-- A slot is set to a lighter record, or to one as heavy. -/
theorem lightened {s : State} {k : Fin 64} {slot : Option Rental} (lighter : slotWeight slot ≤ slotWeight s.rentals[k]) :
    KeepsJournal s (s.setRental k slot) := setRental fun h => by
  have := committed_setRental s k slot
  have := h.committed
  omega

theorem freed (k : Fin 64) (s : State) : KeepsJournal s (s.setRental k none) := lightened (Nat.zero_le _)

theorem removeRental (k : Fin 64) (r : Rental) (s : State) : KeepsJournal s (removeRental k r s) := by
  rw [removeRental_frame]
  exact (freed k s).trans (of_same (s := s.setRental k none) rfl rfl)

theorem discardRelease (b : BayIx) (o : LastOutcome) (s : State) : KeepsJournal s (discardRelease b o s) := by
  unfold Machine.discardRelease
  split
  · split
    · exact (removeRental _ _ s).trans ((endRelease b o _).trans (flush _))
    · exact endRelease b o s
  · exact (endRelease b o s).trans (flush _)
  · exact refl s
  · exact refl s

/-- The two places of a release become its OPEN record and its CHECKOUT record (R82, R83, R126). -/
theorem openRental {k : Fin 64} {r : Rental} {s : State} (found : s.heldRental? k = some r) :
    KeepsJournal s (openRental k r s) := fun h => by
  unfold Machine.openRental
  simp only
  generalize hu : s.setRental k (some { r with stage := .opened, checkout := some s.clock.minute }) = u
  have count : u.committed + 2 = s.committed + 1 := by
    have := committed_setRental s k (some { r with stage := .opened, checkout := some s.clock.minute })
    rwa [slotWeight_held found, hu] at this
  have opened : KeepsJournal s u := by
    subst hu
    exact lightened (by rw [slotWeight_held found]; exact Nat.le_succ 1)
  have room : u.committed + 1 ≤ 256 := by have := h.committed; omega
  split
  · exact (opened.trans (.trans (t := finalizeSpent r.rider r.serial u) (of_same rfl rfl) (appendRecord room))) h
  · exact opened.trans (appendRecord room) h

/-- The place of a staff release becomes its STAFF_REMOVAL record (R88, R126). -/
theorem staffRemoved {b : BayIx} {s : State} (r : JournalRecord) (o : LastOutcome) (staff : (s.bay b).link = .staff) :
    KeepsJournal s (Machine.endRelease b o (Machine.appendRecord r s)) := by
  refine .trans (t := (Machine.appendRecord r s).modBay b fun y =>
    { y with lastOutcome := o, deadline := .stopped, takeWindow := none, link := .unlinked }) ?_ (postBay _ b _)
  have count := committed_modBay (Machine.appendRecord r s) b fun y =>
    { y with lastOutcome := o, deadline := .stopped, takeWindow := none, link := .unlinked }
  rw [committed_appendRecord, appendRecord_bay, bayWeight, staff] at count
  refine written (r := r) rfl rfl ?_ ?_ (fun x => ?_) fun h => (Nat.add_right_cancel count).trans_le h.committed
  · show (Machine.appendRecord r s).cursor = _; rw [appendRecord_frame]
  · show (Machine.appendRecord r s).heldOrder = _; rw [appendRecord_frame]
  · by_cases e : x = b
    · rw [e, State.modBay_bay_self, appendRecord_bay]
    · rw [State.modBay_bay_ne _ _ b x e, appendRecord_bay]

theorem removeBike (b : BayIx) (s : State) : KeepsJournal s (removeBike b s) := by
  unfold Machine.removeBike
  simp only
  refine .trans ?_ (modBay _ b Bay.clearBike)
  split
  · split
    · next found => exact (openRental found).trans (endRelease b _ _)
    · exact endRelease b _ s
  · next staff => exact staffRemoved _ _ staff
  · exact endRelease b _ s
  · exact endRelease b _ s

/-- A release that opens to be taken goes on with its two places (R80, R126). -/
theorem releaseRental (b : BayIx) (s : State) : KeepsJournal s (releaseRental b s) := by
  unfold Machine.releaseRental
  split
  · split
    · next found => exact lightened (by rw [slotWeight_held found]; exact le_rfl)
    · exact refl s
  all_goals exact refl s

end KeepsJournal
end Sys2Proof.Machine
end

section
/-! The events of bays, timers and channels keep the bounds of the journal (O4). -/

namespace Sys2Proof.Machine.KeepsJournal

/-! ### Completions -/

theorem retryOrFault (b : BayIx) (c : FaultCause) (s : State) : KeepsJournal s (retryOrFault b c s) := by
  unfold Machine.retryOrFault
  simp only
  split
  · exact modBay s b _
  · exact (modBay s b _).trans
      ((discardRelease b _ _).trans ((modBay _ b _ (.unlinked rfl rfl)).trans (enterFault b _)))

theorem completeChanged (b : BayIx) (s : State) : KeepsJournal s (completeChanged b s) :=
  (modBay s b _ (.unlinked rfl rfl)).trans (rederive b _)

/-- The bay's request is posted again after an ABORT. -/
theorem reposted (b : BayIx) (s : State) : KeepsJournal s (Machine.postRequest b (Machine.clearStage b s)) :=
  (clearStage b s).trans (postRequest b _)

theorem completeLatch (b : BayIx) (r : PulseResult) (s : State) : KeepsJournal s (completeLatch b r s) := by
  unfold Machine.completeLatch
  split
  · exact completeChanged b s
  · cases r with
    | done =>
      simp only
      split
      · exact (clearStage b s).trans (enterDocked b _)
      · exact retryOrFault b _ s
    | jam => exact retryOrFault b _ s
    | abort => exact reposted b s

theorem completeReady (b : BayIx) (r : PulseResult) (s : State) : KeepsJournal s (completeReady b r s) := by
  unfold Machine.completeReady
  split
  · exact completeChanged b s
  · cases r with
    | done => exact (clearStage b s).trans ((modBay _ b _ (.unlinked rfl rfl)).trans (rederive b _))
    | jam => exact retryOrFault b _ s
    | abort => exact reposted b s

theorem enterReleased (b : BayIx) (s : State) : KeepsJournal s (enterReleased b s) :=
  (clearStage b s).trans ((releaseRental b _).trans ((changeState b _ _).trans (modBay _ b _)))

theorem completeRelease (b : BayIx) (r : PulseResult) (s : State) : KeepsJournal s (completeRelease b r s) := by
  have discard (o : LastOutcome) : KeepsJournal s (Machine.rederive b (Machine.discardRelease b o (Machine.clearStage b s))) :=
    (clearStage b s).trans ((discardRelease b o _).trans (rederive b _))
  unfold Machine.completeRelease
  split
  · exact completeChanged b s
  · cases r with
    | done => exact enterReleased b s
    | jam =>
      simp only
      split
      · exact discard .jammed
      · exact retryOrFault b _ s
    | abort => exact discard .powerAbort

theorem complete (b : BayIx) (k : DriveKind) (r : PulseResult) (s : State) : KeepsJournal s (complete b k r s) := by
  refine taken ?_
  cases k with
  | latch => exact completeLatch b r s
  | unlatchReady => exact completeReady b r s
  | unlatchRental | unlatchStaff => exact completeRelease b r s

/-! ### Sense events -/

theorem presenceMoved (b : BayIx) (s : State) : KeepsJournal s (presenceMoved b s) := by
  unfold Machine.presenceMoved
  split
  · exact modBay s b _
  · exact (modBay s b _ (.unlinked rfl rfl)).trans ((withdrawRequest b _).trans (rederive b _))

theorem recordArrival (b : BayIx) (s : State) : KeepsJournal s (recordArrival b s) := modBay s b _

theorem forgetBike (b : BayIx) (s : State) : KeepsJournal s (forgetBike b s) := modBay s b _

theorem vacantRise (b : BayIx) (s : State) : KeepsJournal s (vacantRise b s) := by
  have arrived : KeepsJournal s (s.put b ((s.bay b).arrived s.clock.minute)) := modBay s b fun y => y.arrived s.clock.minute
  cases l : (s.bay b).latch with
  | opened =>
    have rise := vacantRise_opened s b (s.bay b) l
    rw [State.put_self] at rise
    rw [rise]
    exact arrived.trans (enterLatching b _)
  | closed =>
    have rise := vacantRise_closed s b (s.bay b) l
    rw [State.put_self] at rise
    rw [rise]
    exact arrived.trans (enterDocked b _)

theorem dockedFall (b : BayIx) (s : State) : KeepsJournal s (dockedFall b s) :=
  (taken (raiseAlarm b .unrentedRemoval s)).trans ((forgetBike b _).trans ((modBay _ b _).trans (rederive b _)))

theorem faultFall (b : BayIx) (s : State) : KeepsJournal s (faultFall b s) := by
  unfold Machine.faultFall
  exact (taken (raiseAlarm b .unrentedRemoval s)).trans ((forgetBike b _).trans (modBay _ b _))

theorem unlatchingFall (b : BayIx) (s : State) : KeepsJournal s (unlatchingFall b s) := by
  unfold Machine.unlatchingFall
  cases (s.bay b).link with
  | rental | staff => exact (removeBike b s).trans (presenceMoved b _)
  | readiness | unlinked => exact modBay s b _

theorem unlatchingRise (b : BayIx) (s : State) : KeepsJournal s (unlatchingRise b s) := by
  unfold Machine.unlatchingRise
  cases (s.bay b).link with
  | readiness => exact (recordArrival b s).trans (presenceMoved b _)
  | unlinked => exact recordArrival b s
  | rental | staff => exact refl s

theorem handlePresence (b : BayIx) (s : State) : KeepsJournal s (handlePresence b s) := by
  unfold Machine.handlePresence
  simp only
  split
  case h_1 => exact vacantRise b s
  case h_3 => exact (forgetBike b s).trans (presenceMoved b _)
  case h_4 => exact taken (recordArrival b s)
  case h_5 => exact dockedFall b s
  case h_7 => exact unlatchingFall b s
  case h_8 => exact unlatchingRise b s
  case h_9 => exact (removeBike b s).trans (rederive b _)
  case h_11 => exact faultFall b s
  all_goals exact refl s

theorem handleLatch (b : BayIx) (s : State) : KeepsJournal s (handleLatch b s) := by
  unfold Machine.handleLatch
  simp only
  split
  · exact enterUnlatching b (l := .readiness) nofun s
  · exact taken ((withdrawRequest b s).trans ((modBay _ b _).trans (enterDocked b _)))
  · exact (raiseAlarm b _ s).trans ((modBay _ b _).trans (enterLatching b _))
  · exact (discardRelease b _ s).trans (enterDocked b _)
  · exact refl s

/-- What leaves everything but channels and causes reads the same to the bounds. -/
theorem offChannels {s t : State} (h : OffChannels s t) : KeepsJournal s t :=
  of_same (by rw [h.frame]; rfl) (by rw [h.frame])

theorem drivesEnded (b : BayIx) (s : State) : KeepsJournal s (drivesEnded b (s.bay b) s) := by
  obtain ⟨u, e, off⟩ := drivesEnded_frame (b := b) (s.bay b) s
  have record : u.bay b = s.bay b := by rw [off.frame]; rfl
  rw [e]
  refine (offChannels off).trans (modBay u b (fun _ => (s.bay b).accept) ?_)
  rw [record, Bay.accept_eq]
  exact ⟨rfl, le_rfl⟩

theorem senseEvent (b : BayIx) (s : State) : KeepsJournal s (senseEvent b s) := by
  rw [senseEvent_eq]
  simp only
  generalize hu : (if (s.bay b).presenceDue = true then Machine.handlePresence b (Machine.drivesEnded b (s.bay b) s)
    else Machine.drivesEnded b (s.bay b) s) = u
  have handled : KeepsJournal s u := by
    rw [← hu]
    split
    · exact (drivesEnded b s).trans (handlePresence b _)
    · exact drivesEnded b s
  split
  · exact handled.trans (handleLatch b u)
  · exact handled

/-! ### The unlatch deadline -/

theorem deadlineExpired (b : BayIx) (s : State) : KeepsJournal s (deadlineExpired b s) := by
  unfold Machine.deadlineExpired
  split
  · exact modBay s b _
  · exact (withdrawRequest b s).trans ((modBay _ b _).trans ((discardRelease b _ _).trans (rederive b _)))

/-! ### Pulses and the arbiter -/

theorem setChannel (c : Fin 4) (x : Channel) (s : State) : KeepsJournal s (s.setChannel c x) := of_same rfl rfl

theorem setPulse (c : Fin 4) (p : Pulse) (s : State) : KeepsJournal s (s.setPulse c p) := of_same rfl rfl

theorem grantTo (c : Fin 4) (q : DriveRequest) (s : State) : KeepsJournal s (grantTo c q s) := by
  have granted : KeepsJournal s (({ s with queue := s.queue.erase q }).setChannel c ⟨.driving (grantedPulse q s), 0, 0⟩) :=
    of_same rfl rfl
  exact granted.trans (modBay _ q.bay fun y => { y with driveStage := .driving })

theorem arbitrate (s : State) : KeepsJournal s (arbitrate s) :=
  arbitrate_keeps (KeepsJournal s) (fun c q t h _ _ _ => h.trans (grantTo c q t)) s (refl s)

theorem refreshChain (s : State) : KeepsJournal s (refreshChain s) := by
  rw [refreshChain_frame]; exact of_same rfl rfl

theorem finishBrake (c : Fin 4) (p : Pulse) (s : State) : KeepsJournal s (finishBrake c p s) :=
  (setPulse c _ s).trans (complete _ _ _ _)

theorem endDeadtime (c : Fin 4) (p : Pulse) (s : State) : KeepsJournal s (endDeadtime c p s) := by
  unfold Machine.endDeadtime
  split
  · rw [beginKick_eq]
    exact setPulse c _ s
  · unfold endSecondDeadtime
    simp only
    split
    · exact setPulse c _ s
    · split
      · exact (setPulse c _ s).trans (finishBrake c _ _)
      · exact setPulse c _ s
  all_goals exact refl s

theorem reportCoast (p : Pulse) (s : State) : KeepsJournal s (reportCoast p s) := by
  unfold Machine.reportCoast
  split
  · exact complete _ _ _ _
  · exact taken (complete _ _ _ _)
  · exact refl s

theorem endCoast (c : Fin 4) (p : Pulse) (s : State) : KeepsJournal s (endCoast c p s) := by
  refine taken ((refreshChain s).trans ?_)
  rw [finishCoast_eq]
  exact (reportCoast p _).trans ((setChannel c _ _).trans (arbitrate _))

theorem abortChannel (s : State) (c : Fin 4) : KeepsJournal s (abortChannel s c) := by
  unfold Machine.abortChannel
  (repeat' split) <;> exact of_same rfl rfl

theorem changeBand (b : Band) (s : State) : KeepsJournal s (changeBand b s) := by
  unfold Machine.changeBand
  split
  · exact refl s
  · refine .trans (t := { s.postBand with band := b }) (of_same rfl rfl) ?_
    simp only
    split
    · exact (foldl abortChannel _ _).trans (arbitrate _)
    · exact arbitrate _

theorem takeEvaluation (s : State) : KeepsJournal s (takeEvaluation s) := by
  refine taken (.trans (t := { s with evaluationDue := false }) (of_same rfl rfl) ?_)
  unfold evaluateBand
  split
  · exact refl _
  · exact changeBand _ _

/-! ### The conversions -/

theorem countScan (c : Fin 4) (mA : Nat) (s : State) : KeepsJournal s (countScan c mA s) := by
  unfold Machine.countScan
  split
  · exact taken (setChannel _ _ s)
  · exact refl s

theorem judgeSample (mV : Nat) (s : State) : KeepsJournal s (judgeSample mV s) := by
  unfold Machine.judgeSample
  split <;> exact of_same rfl rfl

theorem whenRunning {s : State} {act : State → State} (k : KeepsJournal s (act s)) : KeepsJournal s (whenRunning s act) :=
  whenRunning_keeps (KeepsJournal s) s act (refl s) fun _ => k

theorem convert {slot : Fin 5} {take : State → State} (k : ∀ t, KeepsJournal t (take t)) (s : State) :
    KeepsJournal s (convert slot take s) :=
  taken (.trans (t := { s with scanSlot := s.scanSlot + 1 }) (of_same rfl rfl) (k _))

theorem takeCurrent (c : Fin 4) (mA : Nat) (s : State) : KeepsJournal s (takeCurrent c mA s) :=
  convert (fun t => .trans (t := { t with currents := t.currents.set c.val mA c.isLt }) (of_same rfl rfl)
    (whenRunning (countScan c mA _))) s

theorem takeBattery (mV : Nat) (s : State) : KeepsJournal s (takeBattery mV s) :=
  convert (fun t => .trans (t := { t with battery := mV }) (of_same rfl rfl) (whenRunning (judgeSample mV _))) s

/-! ### An event of a timer or a pulse -/

theorem expire {running : Bay → Option Nat} {b : BayIx} {act : State → State} {s : State} (k : KeepsJournal s (act s)) :
    KeepsJournal s (expire running b act s) := expire_keeps (KeepsJournal s) running b act s (refl s) fun _ => k

theorem pulseEvent {c : Fin 4} {act : Pulse → State → State} {s : State} (k : ∀ p, KeepsJournal s (act p s)) :
    KeepsJournal s (pulseEvent c act s) := by
  refine whenRunning ?_
  split
  · exact k _
  · exact refl s

end Sys2Proof.Machine.KeepsJournal
end

section
/-! O4: the requests, the restarts, every command and the step keep the bounds of the journal. -/

namespace Sys2Proof.Machine

/-- An accepted PRESENT has found room for its CHECKOUT and RETURN records (R73, R127). -/
theorem admission_room {n : Byte} {t : Token} {s : State} {a : Acceptance} (h : admission n t s = .accepted a) :
    s.committed + 2 ≤ 248 := by
  unfold admission at h
  split at h
  · cases h
  · obtain ⟨-, h⟩ := Admission.passed h
    obtain ⟨p, -, h⟩ := admitToken_accepted h
    obtain ⟨f, i, -, -, -, h⟩ := admitBike_accepted h
    obtain ⟨-, h⟩ := Admission.passed h
    split at h
    · cases h
    · obtain ⟨-, h⟩ := Admission.passed h
      exact Nat.le_of_not_lt (Admission.passed h).1

/-- The records that leave the journal leave the committed count (R126, R133). -/
theorem committed_dropRecords {n : Nat} {s : State} (h : n ≤ s.journal.length) :
    (dropRecords n s).committed = s.committed - n := by
  have length : (dropRecords n s).journal.length = s.journal.length - n := List.length_drop
  have slots (g : Stage) : (dropRecords n s).stageCount g = s.stageCount g := rfl
  have bays : (dropRecords n s).staffReleases = s.staffReleases := rfl
  simp only [State.committed, length, slots, bays]
  omega

namespace KeepsJournal

/-! ### The requests that write the journal or the rental table -/

/-- A CASUAL acceptance writes the spent list, which the bounds do not read. -/
theorem holdSpent (p : Plan) (t : Token) (s : State) : KeepsJournal s (holdSpent p t s) := taken (of_same rfl rfl)

/-- The record of an acceptance takes two places, which the admission has found free (R75, R126, R127). -/
theorem acceptRental {n : Byte} {t : Token} {s : State} {a : Acceptance} (h : admission n t s = .accepted a) :
    KeepsJournal s (acceptRental a t s) := by
  have recorded : KeepsJournal s (s.setRental a.slot (some (acceptedRental a t s.ms))) := setRental fun _ => by
    have count := committed_setRental s a.slot (some (acceptedRental a t s.ms))
    have two : slotWeight (some (acceptedRental a t s.ms)) = 2 := rfl
    have := admission_room h
    omega
  exact recorded.trans ((holdSpent _ _ _).trans
    ((modBay _ a.bay _).trans (enterUnlatching a.bay (l := .rental a.slot) nofun _)))

theorem presentToken (n : Byte) (t : Token) (s : State) : KeepsJournal s (presentToken n t s).1 := by
  unfold Machine.presentToken
  split
  · exact refl s
  · next accepted => exact acceptRental accepted

/-- A staff release takes one place in the committed count (R29, R126, R127). -/
theorem staffReleased {b : BayIx} {s : State} (docked : (s.bay b).state = .docked) (room : s.committed + 1 ≤ 248) :
    KeepsJournal s (takeRelease b .staff s) := by
  rw [takeRelease_docked b .staff s .unlatchStaff docked fun y st li => by simp [Bay.requestKind, st, li]]
  refine .trans (t := s.put b _) (put ?_ (room.trans (by decide))) (of_same rfl rfl)
  rfl

theorem staffUnlatch (b : BayIx) (s : State) : KeepsJournal s (staffUnlatch b s).1 := by
  unfold Machine.staffUnlatch
  split
  · exact refl s
  · next docked =>
    split
    · exact refl s
    · next room => exact staffReleased (not_not.mp docked) (Nat.le_of_not_lt room)

theorem rentalClose (bike : Nat) (s : State) : KeepsJournal s (rentalClose bike s).1 := by
  unfold Machine.rentalClose
  split
  · exact refl s
  · split
    · exact (freed _ s).trans (flush _)
    · exact refl s

/-- The cursor comes to stand behind the last record returned (R132, R134). -/
theorem journalRead (flag count : Nat) (s : State) : KeepsJournal s (journalRead flag count s).1 := by
  unfold Machine.journalRead
  split
  · exact refl s
  · intro h
    have first : (if flag = 1 then 0 else s.cursor) ≤ s.journal.length := by
      split
      · exact Nat.zero_le _
      · exact h.cursor
    refine { h with cursor := ?_ }
    simp only [List.length_take, List.length_drop]
    omega

/-- Records up to the cursor leave, and a journal at 128 or below arms its flag again (R133, R135). -/
theorem dropRecords {n : Nat} {s : State} (read : n ≤ s.cursor) : KeepsJournal s (dropRecords n s) := fun h => by
  refine ⟨?_, ?_, h.heldOnce, h.heldExact, fun low => ?_⟩
  · rw [committed_dropRecords (read.trans h.cursor)]
    exact (Nat.sub_le _ _).trans h.committed
  · exact (Nat.sub_le_sub_right h.cursor n).trans_eq List.length_drop.symm
  · exact (Bool.or_eq_true _ _).mpr (.inr (decide_eq_true low))

theorem journalRelease (n : Nat) (s : State) : KeepsJournal s (journalRelease n s).1 := by
  unfold Machine.journalRelease
  split
  · exact refl s
  · next read =>
    split
    · exact refl s
    · exact (dropRecords (Nat.le_of_not_lt read)).trans (flush _)

/-! ### The other requests -/

theorem clearUnidentified (b : BayIx) (s : State) : KeepsJournal s (clearUnidentified b s) :=
  taken ((modBay s b fun y => { y with alarms := { y.alarms with unidentified := false } }).trans (postBay _ b _))

theorem assignIdentity (b : BayIx) (i : Identity) (s : State) : KeepsJournal s (assignIdentity b i s) :=
  (modBay s b _).trans ((clearUnidentified b _).trans (processReturn b _))

theorem tagBay (b : BayIx) (i : Identity) (s : State) : KeepsJournal s (tagBay b i s).1 := by
  have conflict := raiseAlarm b .tagConflict s
  unfold Machine.tagBay
  split
  · exact conflict
  · split
    · exact refl s
    · split
      · exact modBay s b fun y => { y with pendingTag := some ⟨i, s.ms + 5000⟩ }
      · split
        · exact assignIdentity b i s
        · next known _ =>
          split
          · exact modBay s b fun y => { y with identity := some { known with battery := i.battery } }
          · exact conflict

theorem bikeTag (n : Byte) (bike : Nat) (cls : Byte) (pct : Nat) (s : State) :
    KeepsJournal s (bikeTag n bike cls pct s).1 := by
  unfold Machine.bikeTag
  split
  · split
    · exact refl s
    · exact tagBay _ _ s
  · exact refl s

theorem serviceOn (b : BayIx) (s : State) : KeepsJournal s (serviceOn b s).1 := by
  unfold Machine.serviceOn
  split
  · exact (modBay s b Bay.quiet).trans (changeState b _ _)
  · exact refl s

theorem serviceOff (b : BayIx) (s : State) : KeepsJournal s (serviceOff b s).1 := by
  unfold Machine.serviceOff
  split
  · exact rederive b s
  · exact refl s

theorem clearBay (b : BayIx) (s : State) : KeepsJournal s (clearBay b s).1 := by
  unfold Machine.clearBay
  simp only
  split
  · exact (modBay s b _).trans ((modBay _ b _).trans (rederive b _))
  · exact modBay s b _

theorem atBay {n : Byte} {act : BayIx → State → State × List Byte} {s : State} (k : ∀ b, KeepsJournal s (act b s).1) :
    KeepsJournal s (atBay n act s).1 := by
  unfold Machine.atBay
  split
  · exact k _
  · exact refl s

theorem channelEnable (n : Byte) (s : State) : KeepsJournal s (channelEnable n s).1 := by
  unfold Machine.channelEnable
  split
  · exact taken ((setChannel _ _ s).trans (arbitrate _))
  · exact refl s

theorem profileSet (n : Byte) (p : Profile) (s : State) : KeepsJournal s (profileSet n p s).1 := by
  unfold Machine.profileSet
  split
  · next x _ => cases x <;> exact of_same rfl rfl
  · exact refl s

theorem setTime (m x : Nat) (s : State) : KeepsJournal s (setTime m x s).1 := by
  unfold Machine.setTime
  split <;> exact of_same rfl rfl

theorem takeRequest {kind : Byte} {act : State → State × List Byte} {s : State} (k : ∀ t, KeepsJournal t (act t).1) :
    KeepsJournal s (takeRequest kind act s) :=
  takeRequest_keeps (KeepsJournal s) kind act s (refl s) (fun _ _ h => h.trans (of_same rfl rfl))
    (fun _ _ h => h.trans (of_same rfl rfl)) fun t h => h.trans (k t)

/-- Every request keeps the bounds; a command that is no request changes nothing in a frame. -/
theorem handRequest {i : Instr} {s t : State} (h : handRequest i s = .next t) : KeepsJournal s t := by
  cases i
  all_goals (cases h)
  case hello | status | restart | getTime | settingsGet | tariffGet | denyLookup | rentalQuery | profileGet | supplyGet =>
    exact takeRequest refl
  case changesGet | denyClear | settingsSet => exact takeRequest fun _ => of_same rfl rfl
  case setTime => exact takeRequest (setTime _ _)
  case keyLoad | keyDrop | tariffSet =>
    refine takeRequest fun t => ?_
    split <;> exact of_same rfl rfl
  case denyAdd =>
    refine takeRequest fun t => ?_
    unfold denyAdd
    (repeat' split) <;> exact of_same rfl rfl
  case denyRemove =>
    refine takeRequest fun t => ?_
    unfold denyRemove
    (repeat' split) <;> exact of_same rfl rfl
  case supplySet => exact takeRequest fun t => by unfold supplySet; split <;> exact of_same rfl rfl
  case present => exact takeRequest (presentToken _ _)
  case bikeTag => exact takeRequest (bikeTag _ _ _ _)
  case rentalClose => exact takeRequest (rentalClose _)
  case journalRead => exact takeRequest (journalRead _ _)
  case journalRelease => exact takeRequest (journalRelease _)
  case profileSet => exact takeRequest (profileSet _ _)
  case channelEnable => exact takeRequest (channelEnable _)
  case bayQuery => exact takeRequest fun t => atBay fun _ => refl t
  case bayService =>
    refine takeRequest fun t => atBay fun b => ?_
    split
    · exact serviceOff b t
    · exact serviceOn b t
  case bayClear => exact takeRequest fun t => atBay fun b => clearBay b t
  case staffUnlatch => exact takeRequest fun t => atBay fun b => staffUnlatch b t
  all_goals exact refl s

/-! ### The clock -/

theorem minuteEvent (s : State) : KeepsJournal s (minuteEvent s) := by
  unfold Machine.minuteEvent
  simp only
  split <;> exact of_same rfl rfl

theorem clockSecond (s : State) : KeepsJournal s (clockSecond s) := by
  unfold Machine.clockSecond
  split
  · exact minuteEvent s
  · exact of_same rfl rfl

/-! ### Restarts and the supplies -/

theorem seedScan (w : SenseWord) (s : State) : KeepsJournal s (seedScan w s) :=
  of_bays (by simp only [Machine.seedScan, State.mapBays, State.ledger]) fun o => by
    rw [seedScan_bay]; exact ⟨rfl, le_rfl⟩

theorem rederiveAll (s : State) : KeepsJournal s (rederiveAll s) := foldl (fun t b => rederive b t) allBays s

/-- What comes of a state as a cold reset leaves it has the bounds whatever stood before. -/
theorem of_reset {s t : State} (h : KeepsJournal State.reset t) : KeepsJournal s t := fun _ => h reset_journalKept

theorem coldReset (w : SenseWord) (s t : State) : KeepsJournal s (coldReset w t) := by
  have base : KeepsJournal State.reset (coldBase t) := of_same rfl rfl
  have bays := base.trans ((seedScan w _).trans (rederiveAll _))
  rw [coldReset_eq]
  generalize Machine.rederiveAll _ = u at bays
  exact of_reset (bays.trans (of_same rfl rfl))

/-- The cursor goes back to the front (R134, R137). -/
theorem unread (s : State) : KeepsJournal s { s with cursor := 0 } :=
  of_fewer rfl (Nat.zero_le _) rfl rfl (fun _ => le_rfl) fun _ => .refl _

/-- A warm restart drops every release and every rental but the OPEN ones (R31, R86). -/
theorem restartDiscards (s : State) : KeepsJournal s (restartDiscards s) := by
  have frame := restartDiscards_frame s
  refine of_fewer (by rw [frame]) (by rw [frame]) (by rw [frame]) (by rw [frame]) (fun k => ?_) fun o => ?_
  · cases e : (Machine.restartDiscards s).rentals[k] with
    | none => exact Nat.zero_le _
    | some r => rw [((restartDiscards_rentals s k r).mp e).1]
  · rw [restartDiscards_bay]
    exact .unlinked rfl rfl

theorem warmRestart (k : RestartKind) (w : SenseWord) (s : State) : KeepsJournal s (warmRestart k w s) := by
  have bays : KeepsJournal s (restartedBays w s) :=
    (restartDiscards s).trans ((flush _).trans ((seedScan w _).trans (rederiveAll _)))
  rw [warmRestart_eq]
  generalize restartedBays w s = t at bays
  exact bays.trans ((unread t).trans (of_same rfl rfl))

theorem resetRelease (w : SenseWord) (s : State) : KeepsJournal s (resetRelease w s) := by
  refine taken ?_
  simp only
  split
  · exact coldReset w s _
  · exact of_same rfl rfl

theorem powerReturn (w : SenseWord) (s : State) : KeepsJournal s (powerReturn w s) := by
  cases h : s.mainPower with
  | true => rw [powerReturn_present w s h]; exact refl s
  | false =>
    rw [powerReturn_absent w s h]
    split
    · exact .trans (t := poweredUp s) (of_same rfl rfl) (warmRestart _ w _)
    · exact coldReset w s _

/-- The journal, the rentals, the links and the held returns outlast main power, and the cursor does not (R134, R174). -/
theorem loseMainPower (s : State) : KeepsJournal s (loseMainPower s) := by
  refine (unread s).trans (of_bays ?_ fun o => ?_)
  · simp only [Machine.loseMainPower, State.mapBays, unconvertAll, State.ledger]
  · rw [loseMainPower_bay]; exact ⟨rfl, le_rfl⟩

theorem loseBackup (s : State) : KeepsJournal s (loseBackup s) := of_reset (of_same rfl rfl)

theorem scanAll (w : SenseWord) (s : State) : KeepsJournal s (scanAll w s) :=
  of_bays (by simp only [Machine.scanAll, State.ledger]) fun o => by rw [scanAll_bay]; exact ⟨rfl, le_rfl⟩

theorem replyComplete (w : SenseWord) {s t : State} (h : execReplyComplete w s = .next t) : KeepsJournal s t := by
  cases h
  refine whenRunning ?_
  split
  · have ended : KeepsJournal s { s with reply := none } := of_same rfl rfl
    simp only
    split
    · exact ended.trans (warmRestart _ w _)
    · exact ended
  · exact refl s

/-! ### Reception -/

theorem takeFrame {body : List Byte} {check : Byte} {s t : State} (h : takeFrame body check s = .next t) :
    KeepsJournal s t := by
  unfold Machine.takeFrame at h
  split at h
  · cases h; exact of_same rfl rfl
  · split at h
    · cases h; exact of_same rfl rfl
    · exact handRequest h
    · cases h; exact of_same rfl rfl

theorem reject {body : List Byte} {check : Byte} {s t : State} (h : execReject body check s = .next t) :
    KeepsJournal s t := by
  unfold execReject at h
  split at h
  · split at h
    · exact takeFrame h
    · cases h; exact of_same rfl rfl
  · cases h; exact refl s

theorem byteReceived {x : Byte} {s t : State} (h : execByteReceived x s = .next t) : KeepsJournal s t := by
  unfold execByteReceived at h
  split at h
  · unfold receiveByte at h
    split at h
    case h_4 => exact takeFrame h
    all_goals cases h; exact of_same rfl rfl
  · cases h; exact refl s

/-! ### Every command and the step -/

theorem exec (i : Instr) {s t : State} (h : exec i s = .next t) : KeepsJournal s t := by
  have request : Machine.handRequest i s = .next t → KeepsJournal s t := handRequest
  cases i
  case reject => exact reject h
  case byteReceived => exact byteReceived h
  case replyComplete => exact replyComplete _ h
  case busyFrameDrop | interByteGapTimeout => cases h; exact whenRunning (taken (of_same rfl rfl))
  case lineError => cases h; exact whenRunning (of_same rfl rfl)
  case resetAssert => cases h; exact of_same rfl rfl
  case resetRelease => cases h; exact resetRelease _ s
  case mainPowerLoss => cases h; exact taken (loseMainPower s)
  case mainPowerReturn => cases h; exact powerReturn _ s
  case backupSupplyLoss =>
    cases h
    split
    · exact refl s
    · exact loseBackup s
  case senseScan => cases h; exact whenRunning (scanAll _ s)
  case senseEvent => cases h; exact whenRunning (senseEvent _ s)
  case takeWindowExpiry b => cases h; exact expire ((discardRelease b _ s).trans (enterLatching b _))
  case tagWindowExpiry b => cases h; exact expire ((modBay s b _).trans (raiseAlarm b _ _))
  case unlatchDeadlineExpiry => cases h; exact expire (deadlineExpired _ s)
  case retryDelayExpiry b => cases h; exact expire ((modBay s b _).trans (postRequest b _))
  case pendingTagExpiry b => cases h; exact expire (modBay s b _)
  case lampPhase b => cases h; exact expire (modBay s b _)
  case grant => cases h; exact whenRunning (arbitrate s)
  case connectEnd c => cases h; exact pulseEvent fun p => taken ((refreshChain s).trans (setPulse c _ _))
  case deadtimeEnd => cases h; exact pulseEvent fun p => endDeadtime _ p s
  case kickEnd => cases h; exact pulseEvent fun p => taken (setPulse _ _ s)
  case stall | travelLimit => cases h; exact pulseEvent fun p => taken (offChannels (.endDrive _ p s))
  case short => cases h; exact pulseEvent fun p => taken (of_same rfl rfl)
  case brakeEnd => cases h; exact pulseEvent fun p => taken (finishBrake _ p s)
  case coastEnd => cases h; exact pulseEvent fun p => endCoast _ p s
  case currentConversion => cases h; exact takeCurrent _ _ s
  case batteryConversion => cases h; exact takeBattery _ s
  case bandEvaluation => cases h; exact whenRunning (takeEvaluation s)
  case clockSecond => cases h; exact taken (clockSecond s)
  case minuteEvent => cases h; exact taken (minuteEvent s)
  all_goals exact request h

/-- With no command waiting an event is taken up, or a period passes with its refresh of the select chain. -/
theorem tick (s : State) : KeepsJournal s (tick s) := by
  rcases tick_cases s with ⟨i, n, -, e⟩ | ⟨-, u, hu, ⟨-, e⟩ | ⟨-, e⟩⟩
  · rw [e]; exact of_same rfl rfl
  all_goals
    have period : KeepsJournal s u := by
      rw [hu, crystalPeriod_frame]
      exact (whenRunning (refreshChain s)).trans (of_same rfl rfl)
    rw [e]
    exact period.trans (of_same rfl rfl)

theorem step {s t : State} (h : step s = .next t) : KeepsJournal s t := by
  unfold Machine.step at h
  split at h
  · cases h; exact tick s
  · next i rest _ => exact .trans (t := { s with pending := rest }) (of_same rfl rfl) (exec i h)

end KeepsJournal

/-- Settles O4: every command keeps the bounds. What is written finds room first, or takes the place of what it ends, and a
bay joins the held order with its held return and leaves it with that. -/
theorem stepKeepsTheJournalBounds : Obligations.StepKeepsTheJournalBounds := fun _ _ kept h => KeepsJournal.step h kept

end Sys2Proof.Machine
end

section
/-! HELLO, STATUS, and the requests that read and release the journal: O14, O37, O38. -/

namespace Sys2Proof.Machine

/-! ### HELLO and STATUS -/

theorem stageCount_eq (s : State) (g : Stage) :
    s.stageCount g = (List.finRange 64).countP fun k => (s.rentals[k]).any fun r => decide (r.stage = g) :=
  List.countP_eq_length_filter.symm

/-- The fields of the four channels stand in the order of their numbers (R198). -/
theorem channels_fields (f : Fin 4 → List Byte) : allChannels.flatMap f = f 0 ++ f 1 ++ f 2 ++ f 3 := by
  have four : allChannels = [0, 1, 2, 3] := by decide
  simp [four]

/-- Settles O14: both are queries, whose payloads are those of R197 and R198. -/
theorem helloAndStatusReplies : Obligations.HelloAndStatusReplies := by
  refine ⟨fun s hs => ?_, fun s hs => ?_⟩
  · obtain ⟨below, slots⟩ := keyMap_byte s
    exact ⟨_, below, slots, query_answers 0x01 hs rfl⟩
  · intro channel
    have fields (x : Channel) : channelFields x = channel x := by
      cases mode : x.mode <;> simp only [channelFields, channel, mode] <;> rfl
    refine query_answers 0x02 hs ?_
    simp only [statusPayload, okWith, committed_eq_sum, stageCount_eq, channels_fields, fields, State.filtered,
      List.append_assoc]
    rfl

/-! ### JOURNAL_READ -/

/-- Of parts of equal length in a row, each stands at its multiple of that length. -/
theorem flatMap_part {α β : Type} {f : α → List β} {m : Nat} (length : ∀ x, (f x).length = m) (l : List α) {k : Nat} {x : α}
    (h : l[k]? = some x) : ((l.flatMap f).drop (m * k)).take m = f x := by
  induction l generalizing k with
  | nil => cases h
  | cons y rest ih =>
    cases k with
    | zero =>
      cases h
      rw [Nat.mul_zero, List.drop_zero, List.flatMap_cons, List.take_left' (length _)]
    | succ k =>
      rw [List.flatMap_cons, Nat.mul_succ, Nat.add_comm, ← List.drop_drop, List.drop_left' (length y)]
      exact ih h

theorem recordBytes_length (r : JournalRecord) : (recordBytes r).length = 28 := by cases r <;> rfl

theorem journalRead_range {flag count : Nat} {s : State} (bad : 1 < flag ∨ count = 0 ∨ 4 < count) :
    journalRead flag count s = (s, statusOnly .range) := if_pos bad

/-- The records that a read returns (R132). -/
def State.recordsFrom (s : State) (first count : Nat) : List JournalRecord := (s.journal.drop first).take count

theorem recordsFrom_length (s : State) (first count : Nat) :
    (s.recordsFrom first count).length = min count (s.journal.length - first) := by
  rw [State.recordsFrom, List.length_take, List.length_drop]

theorem recordsFrom_get {s : State} {first count k : Nat} (h : k < (s.recordsFrom first count).length) :
    ∃ r, (s.recordsFrom first count)[k]? = some r ∧ s.journal[first + k]? = some r := by
  have place : (s.recordsFrom first count)[k]? = s.journal[first + k]? := by
    rw [State.recordsFrom, List.getElem?_take_of_lt (h.trans_le (List.length_take_le _ _)), List.getElem?_drop]
  exact ⟨_, List.getElem?_eq_getElem h, place.symm.trans (List.getElem?_eq_getElem h)⟩

theorem journalRead_from {flag count first : Nat} {s : State} (start : first = if flag = 1 then 0 else s.cursor)
    (good : ¬ (1 < flag ∨ count = 0 ∨ 4 < count)) : let n := min count (s.journal.length - first)
    journalRead flag count s = ({ s with cursor := first + n }, okWith (be16 first ++ be8 n ++ be16 (first + n)
      ++ be16 s.journal.length ++ (s.recordsFrom first count).flatMap recordBytes)) := by
  subst start
  rw [journalRead, if_neg good]
  simp only [← recordsFrom_length]
  rfl

/-- Settles O37: the records stand in the reply one after the other, 28 bytes each. -/
theorem journalReadReply : Obligations.JournalReadReply := by
  intro s flag count hs _ layout
  have fields (r : JournalRecord) : recordBytes r = layout r := by cases r <;> rfl
  refine ⟨fun bad => ?_, fun mode one four => ?_⟩
  · have bad : 1 < flag.toNat ∨ count.toNat = 0 ∨ 4 < count.toNat := by rwa [← eq_zero_iff_toNat]
    exact congrArg Host.Outcome.next (takeRequest_answer 0x48 _ s hs _ (journalRead_range bad))
  · intro first n
    have start : first = if flag.toNat = 1 then 0 else s.hunting.cursor :=
      if_congr (by simp [← BitVec.toNat_inj]) rfl rfl
    have read := journalRead_from (count := count.toNat) start (by omega)
    have length : (s.recordsFrom first count.toNat).length = n := recordsFrom_length s first count.toNat
    refine ⟨(s.recordsFrom first count.toNat).flatMap recordBytes, ?_, fun k below => ?_,
      congrArg Host.Outcome.next (takeRequest_done 0x48 hs read)⟩
    · simp [List.length_flatMap, recordBytes_length, length, Nat.mul_comm]
    · obtain ⟨r, returned, stored⟩ := recordsFrom_get (below.trans_eq length.symm)
      exact ⟨r, stored, (flatMap_part recordBytes_length _ returned).trans (fields r)⟩

/-! ### JOURNAL_RELEASE -/

theorem journalRelease_unread {n : Nat} {s : State} (unread : s.cursor < n) :
    journalRelease n s = (s, statusOnly .range) := if_pos unread

theorem journalRelease_none (s : State) : journalRelease 0 s = (s, releaseReply 0 s) := rfl

theorem journalRelease_drops {n : Nat} {s : State} (positive : n ≠ 0) (read : n ≤ s.cursor) :
    journalRelease n s = (flush (dropRecords n s), releaseReply n (flush (dropRecords n s))) := by
  rw [journalRelease, if_neg (Nat.not_lt.mpr read), if_neg positive]

theorem releaseReply_eq (n : Nat) (s : State) : releaseReply n s =
    [0] ++ be16 n ++ be16 s.journal.length ++ be16 s.cursor ++ be16 s.committedSum := by
  rw [releaseReply, committed_eq_sum]
  rfl

/-- A release of records that were read leaves what the flush leaves without them (R133). -/
theorem exec_journalRelease {s : State} {n : BitVec 16} (hs : s.accepting) (positive : n ≠ 0) (read : n.toNat ≤ s.cursor) :
    let v := flush (dropRecords n.toNat s)
    exec (.journalRelease n) s = .next (v.answered 0xC9
      ([0] ++ be16 n.toNat ++ be16 v.journal.length ++ be16 v.cursor ++ be16 v.committedSum)) := by
  have number : n.toNat ≠ 0 := fun zero => positive ((eq_zero_iff_toNat n).mpr zero)
  have drops := journalRelease_drops (s := s.hunting) number read
  have lowered : dropRecords n.toNat s.hunting = (dropRecords n.toNat s).hunting := rfl
  rw [lowered, flush_hunting, releaseReply_eq] at drops
  exact congrArg Host.Outcome.next (takeRequest_done 0x49 hs drops)

/-- A flush writes behind the records that stand, and moves no cursor (R130). -/
theorem flush_journal (s : State) : s.journal <+: (flush s).journal ∧ (flush s).cursor = s.cursor := by
  obtain ⟨n, f, writes, -, -, returns⟩ := flush_returns s
  exact ⟨writes.journal.trans returns.journal, by rw [flush_frame]⟩

/-- Settles O38: the records dropped are those in front of the cursor, and the flush writes behind those that remain. -/
theorem journalReleaseDropsReadRecords : Obligations.JournalReleaseDropsReadRecords := by
  intro s n hs bound rest
  refine ⟨fun unread => ?_, fun zero => ?_, fun positive read order => ?_, fun positive read => exec_journalRelease hs positive read,
    fun positive read => ⟨_, exec_journalRelease hs positive read, flush_journal (dropRecords n.toNat s)⟩⟩
  · exact congrArg Host.Outcome.next (takeRequest_answer 0x49 _ s hs _ (journalRelease_unread unread))
  · subst zero
    exact congrArg Host.Outcome.next (takeRequest_answer 0x49 _ s hs _
      ((journalRelease_none s.hunting).trans (congrArg (Prod.mk s.hunting) (releaseReply_eq 0 s.hunting))))
  · have count : (dropRecords n.toNat s).committedSum = s.committedSum - n.toNat := by
      rw [← committed_eq_sum, committed_dropRecords (read.trans bound), committed_eq_sum]
    have idle : flush (dropRecords n.toNat s) = dropRecords n.toNat s := flush_empty _ order
    have release := exec_journalRelease hs positive read
    simp only [idle, count] at release
    exact release

end Sys2Proof.Machine
end

section
/-! The arbiter: what one grant makes of a state, and what stands when no further grant is possible (O42, O43). -/

namespace Sys2Proof.Machine

/-! ### What a grant makes of a state -/

/-- Where one element of a list without repetitions comes to count and the others stand, the count rises by one. -/
theorem countP_gains {α : Type} [DecidableEq α] {l : List α} {a : α} {f g : α → Bool} (once : l.Nodup) (mem : a ∈ l)
    (now : f a = true) (before : g a = false) (others : ∀ b, b ≠ a → f b = g b) : l.countP f = l.countP g + 1 := by
  have front := List.perm_cons_erase mem
  have rest : (l.erase a).countP f = (l.erase a).countP g :=
    List.countP_congr fun b hb => by rw [others b (once.mem_erase_iff.mp hb).1]
  rw [front.countP_eq f, front.countP_eq g, List.countP_cons_of_pos now, List.countP_cons_of_neg (by simp [before]), rest]

/-- The number of IDLE channels. -/
def State.idleCount (s : State) : Nat := allChannels.countP fun c => decide ((s.channels[c]).mode = .idle)

theorem State.drivingCount_eq (s : State) : s.drivingCount = allChannels.countP fun c => (s.pulse? c).isSome :=
  List.countP_eq_length_filter.symm

theorem State.pulse?_of_idle {s : State} {c : Fin 4} (h : (s.channels[c]).mode = .idle) : s.pulse? c = none := by
  rw [State.pulse?_eq, Channel.pulse?, h]

section GrantTo
variable (c : Fin 4) (q : DriveRequest) (s : State)

@[simp] theorem grantTo_queue : (grantTo c q s).queue = s.queue.erase q := rfl

theorem grantTo_channel_self : (grantTo c q s).channels[c] = ⟨.driving (grantedPulse q s), 0, 0⟩ :=
  State.setChannel_get_self _ c _

theorem grantTo_channel_ne {d : Fin 4} (h : d ≠ c) : (grantTo c q s).channels[d] = s.channels[d] :=
  State.setChannel_get_ne _ c d _ h

theorem grantTo_pulse_self : (grantTo c q s).pulse? c = some (grantedPulse q s) := by
  rw [State.pulse?_eq, grantTo_channel_self, Channel.pulse?]

theorem grantTo_pulse_ne {d : Fin 4} (h : d ≠ c) : (grantTo c q s).pulse? d = s.pulse? d := by
  rw [State.pulse?_eq, State.pulse?_eq, grantTo_channel_ne c q s h]

theorem grantTo_bay_self : (grantTo c q s).bay q.bay = { s.bay q.bay with driveStage := .driving } :=
  State.modBay_bay_self _ _ _

theorem grantTo_bay_ne {b : BayIx} (h : b ≠ q.bay) : (grantTo c q s).bay b = s.bay b := State.modBay_bay_ne _ _ _ b h

/-- A bay that is driving is so after a further grant. -/
theorem grantTo_driving {b : BayIx} (h : (s.bay b).driveStage = .driving) :
    ((grantTo c q s).bay b).driveStage = .driving := by
  by_cases e : b = q.bay
  · rw [e, grantTo_bay_self]
  · rw [grantTo_bay_ne c q s e, h]

variable {c} {s} (idle : (s.channels[c]).mode = .idle)
include idle

theorem grantTo_drivingCount : (grantTo c q s).drivingCount = s.drivingCount + 1 := by
  rw [State.drivingCount_eq, State.drivingCount_eq]
  exact countP_gains (List.nodup_finRange 4) (List.mem_finRange c) (by rw [grantTo_pulse_self]; rfl)
    (by rw [State.pulse?_of_idle idle]; rfl) fun d e => by rw [grantTo_pulse_ne c q s e]

theorem grantTo_idleCount : s.idleCount = (grantTo c q s).idleCount + 1 :=
  countP_gains (List.nodup_finRange 4) (List.mem_finRange c) (decide_eq_true idle)
    (decide_eq_false (by rw [grantTo_channel_self]; simp)) fun d e => by rw [grantTo_channel_ne c q s e]

end GrantTo

/-! ### Where a grant is possible -/

/-- The three conditions of a grant (R140). -/
theorem grantOne_some {s : State} {c : Fin 4} {q : DriveRequest} (room : s.drivingCount < s.band.allowance)
    (channel : s.idleChannel? = some c) (request : s.chosenRequest? = some q) : grantOne s = some (grantTo c q s) := by
  rw [grantOne, if_pos room, channel, request]

theorem grantOne_conditions {s t : State} (h : grantOne s = some t) : s.drivingCount < s.band.allowance ∧
    ∃ c q, t = grantTo c q s ∧ (s.channels[c]).mode = .idle ∧ s.chosenRequest? = some q := by
  unfold grantOne at h
  split at h
  · rename_i room
    split at h
    · rename_i c q hc hq
      cases h
      exact ⟨room, c, q, rfl, State.idleChannel?_mode hc, hq⟩
    · cases h
  · cases h

theorem State.idleChannel?_none {s : State} : s.idleChannel? = none ↔ ∀ c : Fin 4, (s.channels[c]).mode ≠ .idle := by
  simp [State.idleChannel?, allChannels]

/-- Where a request that the band admits waits for a free bay, one is chosen (R141). -/
theorem State.chosenRequest?_none {s : State} (h : s.chosenRequest? = none) : ∀ q ∈ s.queue, s.grantable q = false := by
  simp only [State.chosenRequest?, Option.orElse_eq_orElse, Option.orElse_eq_or, Option.or_eq_none_iff,
    List.head?_eq_none_iff, List.filter_eq_nil_iff] at h
  exact fun q m => Bool.eq_false_iff.mpr (h.2.2 q m)

theorem grantOne_none {s : State} (h : grantOne s = none) : s.band.allowance ≤ s.drivingCount ∨
    (∀ c : Fin 4, (s.channels[c]).mode ≠ .idle) ∨ ∀ q ∈ s.queue, s.grantable q = false := by
  by_cases room : s.drivingCount < s.band.allowance
  · cases channel : s.idleChannel? with
    | none => exact .inr (.inl (State.idleChannel?_none.mp channel))
    | some c =>
      cases request : s.chosenRequest? with
      | none => exact .inr (.inr (State.chosenRequest?_none request))
      | some q => rw [grantOne_some room channel request] at h; cases h
  · exact .inl (Nat.le_of_not_lt room)

/-- As many grants as there are IDLE channels are all that can be made (R140). -/
theorem grantMany_exhausts (n : Nat) (s : State) (enough : s.idleCount ≤ n) : grantOne (grantMany n s) = none := by
  induction n generalizing s with
  | zero =>
    cases h : grantOne s with
    | none => exact h
    | some t =>
      obtain ⟨-, c, q, -, idle, -⟩ := grantOne_conditions h
      have := grantTo_idleCount q idle
      omega
  | succ n ih =>
    unfold grantMany
    split
    · rename_i t h
      obtain ⟨-, c, q, rfl, idle, -⟩ := grantOne_conditions h
      have := grantTo_idleCount q idle
      exact ih _ (by omega)
    · assumption

theorem arbitrate_exhausts (s : State) : grantOne (arbitrate s) = none :=
  grantMany_exhausts 4 s List.countP_le_length

/-! ### What a run of grants makes of a state -/

/-- What the grants that lead from `s` to `t` have changed (R138, R140, R142). -/
structure GrantedFrom (s t : State) : Prop where
  frame    : t = { s with queue := t.queue, channels := t.channels, bays := t.bays }
  allowed  : t.drivingCount ≤ max s.drivingCount s.band.allowance
  order    : t.queue.Sublist s.queue
  count    : t.queue.length + t.drivingCount = s.queue.length + s.drivingCount
  requests : ∀ q ∈ s.queue, q ∈ t.queue ∨ ∃ (c : Fin 4) (p : Pulse), (s.channels[c]).mode = .idle ∧ t.pulse? c = some p ∧
    p.bay = q.bay ∧ p.kind = q.kind ∧ p.phase = .connect
  channels : ∀ c : Fin 4, t.channels[c] = s.channels[c] ∨ ((s.channels[c]).mode = .idle ∧ ∃ p : Pulse, t.pulse? c = some p ∧
    p.phase = .connect ∧ (t.bay p.bay).driveStage = .driving ∧ ∃ q ∈ s.queue, q.bay = p.bay ∧ q.kind = p.kind)
  bays     : ∀ b, t.bay b = s.bay b ∨ (t.bay b = { s.bay b with driveStage := .driving } ∧
    ∃ (c : Fin 4) (p : Pulse), (s.channels[c]).mode = .idle ∧ t.pulse? c = some p ∧ p.bay = b)

namespace GrantedFrom
variable {s t : State}

theorem refl (s : State) : GrantedFrom s s :=
  ⟨rfl, Nat.le_max_left _ _, .refl _, rfl, fun _ m => .inl m, fun _ => .inl rfl, fun _ => .inl rfl⟩

theorem idle (h : GrantedFrom s t) {c : Fin 4} (i : (t.channels[c]).mode = .idle) : (s.channels[c]).mode = .idle := by
  rcases h.channels c with same | ⟨before, -⟩
  · rw [← same, i]
  · exact before

theorem band (h : GrantedFrom s t) : t.band = s.band := by rw [h.frame]

/-- One more grant. -/
theorem grantTo (h : GrantedFrom s t) {c : Fin 4} {q : DriveRequest} (room : t.drivingCount < t.band.allowance)
    (i : (t.channels[c]).mode = .idle) (m : q ∈ t.queue) : GrantedFrom s (grantTo c q t) := by
  have began := grantTo_drivingCount q i
  have taken := List.length_erase_add_one m
  have stands : ∀ d p, t.pulse? d = some p → (Machine.grantTo c q t).pulse? d = some p := fun d p hp => by
    have other : d ≠ c := fun e => by rw [e, State.pulse?_of_idle i] at hp; cases hp
    rw [grantTo_pulse_ne c q t other, hp]
  have self := grantTo_pulse_self c q t
  refine ⟨?_, ?_, .trans List.erase_sublist h.order, ?_, fun x hx => ?_, fun d => ?_, fun b => ?_⟩
  · rw [grantTo_eq, h.frame]
    rfl
  · rw [h.band] at room
    omega
  · have := h.count
    rw [grantTo_queue]
    omega
  · rcases h.requests x hx with waits | ⟨d, p, before, hp, rest⟩
    · by_cases e : x = q
      · exact .inr ⟨c, _, h.idle i, self, by rw [e]; exact ⟨rfl, rfl, rfl⟩⟩
      · exact .inl ((List.mem_erase_of_ne e).mpr waits)
    · exact .inr ⟨d, p, before, stands d p hp, rest⟩
  · by_cases e : d = c
    · subst e
      exact .inr ⟨h.idle i, _, self, rfl, by simp only [grantedPulse, grantTo_bay_self], q, h.order.mem m, rfl, rfl⟩
    · rw [grantTo_channel_ne c q t e]
      rcases h.channels d with same | ⟨before, p, hp, connect, driving, request⟩
      · exact .inl same
      · exact .inr ⟨before, p, stands d p hp, connect, grantTo_driving c q t driving, request⟩
  · by_cases e : b = q.bay
    · subst e
      refine .inr ⟨?_, c, _, h.idle i, self, rfl⟩
      rw [grantTo_bay_self]
      rcases h.bays q.bay with same | ⟨same, -⟩ <;> rw [same]
    · rw [grantTo_bay_ne c q t e]
      rcases h.bays b with same | ⟨same, d, p, before, hp, here⟩
      · exact .inl same
      · exact .inr ⟨same, d, p, before, stands d p hp, here⟩

theorem grantMany (n : Nat) (s : State) : GrantedFrom s (grantMany n s) :=
  grantMany_keeps (GrantedFrom s) (fun t u h e => by
    obtain ⟨room, c, q, rfl, i, chosen⟩ := grantOne_conditions e
    exact h.grantTo room i (State.chosenRequest?_spec chosen).1) n s (refl s)

theorem arbitrate (s : State) : GrantedFrom s (arbitrate s) := grantMany 4 s

end GrantedFrom

/-- Settles O42: each grant of the run keeps `GrantedFrom`, and the run ends where no further grant is possible. -/
theorem grantKeepsTheAllowance : Obligations.GrantKeepsTheAllowance := by
  intro s hs
  obtain ⟨frame, allowed, order, count, requests, channels, bays⟩ := GrantedFrom.arbitrate s
  refine ⟨arbitrate s, exec_grant hs, frame, allowed, order, count, requests, channels, bays, ?_⟩
  have ends := grantOne_none (arbitrate_exhausts s)
  rw [(GrantedFrom.arbitrate s).band] at ends
  refine ends.imp_right (Or.imp_right fun none q m => ?_)
  have refused := none q m
  rw [State.grantable, (GrantedFrom.arbitrate s).band, Bool.and_eq_false_iff, Bool.not_eq_false'] at refused
  exact refused

/-! ### The request that the arbiter chooses -/

/-- What a search finds in an ordered list stands before everything else that it could have found. -/
theorem find?_first {α : Type} {R : α → α → Prop} {l : List α} {f : α → Bool} {a : α} (ordered : l.Pairwise R)
    (h : l.find? f = some a) : ∀ x ∈ l, f x = true → x = a ∨ R a x := by
  obtain ⟨-, front, back, rfl, none⟩ := List.find?_eq_some_iff_append.mp h
  intro x m fx
  rcases List.mem_append.mp m with m | m
  · have := none x m
    rw [fx] at this
    cases this
  · exact (List.mem_cons.mp m).imp_right (List.rel_of_pairwise_cons (List.pairwise_append.mp ordered).2.1)

theorem DriveKind.rank_cases (k : DriveKind) : k.rank = 1 ∨ k.rank = 2 ∨ k.rank = 3 := by cases k <;> simp [DriveKind.rank]

/-- The requests that can be granted, in posting order (R140). -/
def State.grantableRequests (s : State) : List DriveRequest := s.queue.filter s.grantable

theorem State.mem_grantableRequests {s : State} {q : DriveRequest} : q ∈ s.grantableRequests ↔
    q ∈ s.queue ∧ s.band.admits q.kind = true ∧ s.bayHeld q.bay = false := by
  simp [State.grantableRequests, State.grantable]

/-- The request chosen is the first in its class, and no earlier class waits (R141). -/
theorem State.chosenRequest?_class {s : State} {q : DriveRequest} (h : s.chosenRequest? = some q) :
    ∃ r, s.grantableRequests.find? (fun x => decide (x.kind.rank = r)) = some q ∧
      ∀ x ∈ s.grantableRequests, r ≤ x.kind.rank := by
  have least : ∀ x : DriveRequest, 1 ≤ x.kind.rank := fun x => by have := x.kind.rank_cases; omega
  have waiting : s.queue.filter s.grantable = s.grantableRequests := rfl
  simp only [State.chosenRequest?, Option.orElse_eq_orElse, Option.orElse_eq_or, Option.or_eq_some_iff, waiting] at h
  rcases h with first | ⟨noFirst, second | ⟨noSecond, third⟩⟩
  · exact ⟨1, first, fun x _ => least x⟩
  · refine ⟨2, second, fun x m => ?_⟩
    have := of_decide_eq_false (Bool.eq_false_iff.mpr (List.find?_eq_none.mp noFirst x m))
    have := least x
    omega
  · have last : ∀ x ∈ s.grantableRequests, x.kind.rank = 3 := fun x m => by
      have := of_decide_eq_false (Bool.eq_false_iff.mpr (List.find?_eq_none.mp noFirst x m))
      have := of_decide_eq_false (Bool.eq_false_iff.mpr (List.find?_eq_none.mp noSecond x m))
      have := x.kind.rank_cases
      omega
    obtain ⟨rest, split⟩ := List.head?_eq_some_iff.mp third
    refine ⟨3, ?_, fun x m => (last x m).ge⟩
    exact split ▸ List.find?_cons_of_pos (decide_eq_true (last q (List.mem_of_mem_head? third)))

/-- The request chosen can be granted, and of every other such request it is of an earlier class or posted no later (R141). -/
theorem State.chosenRequest?_first {s : State} {q : DriveRequest} (ordered : s.queue.Pairwise fun x y => x.order < y.order)
    (h : s.chosenRequest? = some q) : q ∈ s.grantableRequests ∧ ∀ x ∈ s.grantableRequests,
      q.kind.rank < x.kind.rank ∨ (q.kind.rank = x.kind.rank ∧ q.order ≤ x.order) := by
  obtain ⟨r, found, least⟩ := State.chosenRequest?_class h
  have rank : q.kind.rank = r := of_decide_eq_true (List.find?_some (p := fun x : DriveRequest => decide (x.kind.rank = r)) found)
  refine ⟨List.mem_of_find?_eq_some found, fun x m => ?_⟩
  rcases Nat.lt_or_eq_of_le (least x m) with later | same
  · exact .inl (rank ▸ later)
  · refine .inr ⟨rank.trans same, ?_⟩
    rcases find?_first (ordered.sublist List.filter_sublist) found x m (decide_eq_true same.symm) with rfl | after
    · exact Nat.le_refl _
    · exact Nat.le_of_lt after

theorem State.profileOf_eq (s : State) (k : DriveKind) :
    s.profileOf k = if k = .latch then s.latchProfile else s.unlatchProfile := by cases k <;> rfl

/-- The arbiter looks for the lowest-numbered IDLE channel (R140). -/
theorem State.idleChannel?_lowest {s : State} {c : Fin 4} (idle : (s.channels[c]).mode = .idle)
    (lowest : ∀ d : Fin 4, d < c → (s.channels[d]).mode ≠ .idle) : s.idleChannel? = some c := by
  cases h : s.idleChannel? with
  | none => exact absurd idle (State.idleChannel?_none.mp h c)
  | some d =>
    rcases find?_first (List.pairwise_lt_finRange 4) h c (List.mem_finRange c) (decide_eq_true idle) with rfl | after
    · rfl
    · exact absurd (State.idleChannel?_mode h) (lowest d after)

/-- Where a grant is possible, the arbiter begins with it. -/
theorem arbitrate_begins {s t : State} (h : grantOne s = some t) : GrantedFrom t (arbitrate s) := by
  have run : arbitrate s = grantMany 3 t := by rw [arbitrate, grantMany, h]
  rw [run]
  exact .grantMany 3 t

/-- Settles O43: the first grant of the run is the one described, and the grants after it leave its channel and its bay. -/
theorem grantChoosesByClassThenOrder : Obligations.GrantChoosesByClassThenOrder := by
  intro s hs drive room c idle lowest waits
  have channel := State.idleChannel?_lowest idle lowest
  cases request : s.chosenRequest? with
  | none =>
    obtain ⟨q, m, g⟩ := waits
    have := State.chosenRequest?_none request q m
    simp [State.grantable, g] at this
  | some q =>
    obtain ⟨m, first⟩ := State.chosenRequest?_first drive.ordered request
    obtain ⟨m, admitted, free⟩ := State.mem_grantableRequests.mp m
    have after := arbitrate_begins (grantOne_some room channel request)
    refine ⟨arbitrate s, q, exec_grant hs, m, admitted, free,
      fun x hx a f => first x (State.mem_grantableRequests.mpr ⟨hx, a, f⟩), ?_, ?_⟩
    · rcases after.channels c with same | ⟨idle, -⟩
      · rw [same, grantTo_channel_self, grantedPulse, State.profileOf_eq]
      · rw [grantTo_channel_self] at idle
        cases idle
    · rcases after.bays q.bay with same | ⟨same, -⟩ <;> rw [same]
      rw [grantTo_bay_self]

end Sys2Proof.Machine
end

section
/-! The requests PROFILE_SET and CHANNEL_ENABLE: O40, O41. -/

namespace Sys2Proof.Machine

/-! ### PROFILE_SET -/

theorem clampProfile_eq (p : Profile) : clampProfile p = ⟨min 1000 (max 100 p.kickDuty), min 200 p.kickTime,
    min 1000 (max 100 p.holdDuty), max (min 2000 (max 100 p.travelLimit)) (min 200 p.kickTime + 20),
    min 4000 (max 200 p.stallThreshold), min 200 (max 4 p.stallTime), min 100 p.inrushMask, min 100 p.brakeTime⟩ := by
  simp only [clampProfile, clamp, Nat.zero_max]

theorem profileSet_range {n : Byte} (latch : n ≠ 1) (unlatch : n ≠ 2) (p : Profile) (s : State) :
    profileSet n p s = (s, statusOnly .range) := by rw [profileSet, profileOf?_none latch unlatch]

/-- Settles O40: the refusal, and each of the two profiles replaced by what the clamps leave of the fields given. -/
theorem profileSetClamps : Obligations.ProfileSetClamps := by
  intro s n kd kt hd tl st stt im bt hs kick v fields
  have stored := clampProfile_eq ⟨kd.toNat, kt.toNat, hd.toNat, tl.toNat, st.toNat, stt.toNat, im.toNat, bt.toNat⟩
  refine ⟨fun latch unlatch => congrArg Host.Outcome.next (takeRequest_answer 0x50 _ s hs _ (profileSet_range latch unlatch _ _)),
    congrArg Host.Outcome.next (takeRequest_done 0x50 (t := { s.hunting with latchProfile := v }) hs ?_),
    congrArg Host.Outcome.next (takeRequest_done 0x50 (t := { s.hunting with unlatchProfile := v }) hs ?_)⟩
  · rw [profileSet, stored]
    rfl
  · rw [profileSet, stored]
    rfl

/-! ### CHANNEL_ENABLE -/

theorem channelOf?_none {n : Byte} (h : n = 0 ∨ 4 < n.toNat) : channelOf? n = none := by
  rw [channelOf?, dif_neg]
  rcases h with rfl | h
  · decide
  · omega

theorem channelOf?_some {n : Byte} {c : Fin 4} (h : n.toNat = c.val + 1) : channelOf? n = some c := by
  have := c.isLt
  rw [channelOf?, dif_pos (by omega)]
  exact congrArg some (Fin.ext (by simp [h]))

/-- A grant reads and writes nothing of reception. -/
theorem grantOne_hunting (s : State) : grantOne s.hunting = (grantOne s).map State.hunting := by
  have channel : s.hunting.idleChannel? = s.idleChannel? := rfl
  have request : s.hunting.chosenRequest? = s.chosenRequest? := rfl
  rw [grantOne, grantOne, channel, request, apply_ite (Option.map State.hunting)]
  refine if_congr Iff.rfl ?_ rfl
  cases s.idleChannel? <;> cases s.chosenRequest? <;> rfl

theorem grantMany_hunting (n : Nat) (s : State) : grantMany n s.hunting = (grantMany n s).hunting := by
  induction n generalizing s with
  | zero => rfl
  | succ n ih =>
    rw [grantMany, grantMany, grantOne_hunting]
    cases grantOne s with
    | none => rfl
    | some t => exact ih t

theorem arbitrate_hunting (s : State) : arbitrate s.hunting = (arbitrate s).hunting := grantMany_hunting 4 s

theorem State.accepting.works {s : State} (h : s.accepting) : s.works :=
  let ⟨main, released, _⟩ := h
  ⟨main, released⟩

/-- A DISABLED channel that is IDLE again, with its short count 0 (R156). -/
def State.enabled (s : State) (c : Fin 4) : State := s.setChannel c { s.channels[c] with mode := .idle, short := 0 }

theorem channelEnable_range {n : Byte} (h : n = 0 ∨ 4 < n.toNat) (s : State) :
    channelEnable n s = (s, statusOnly .range) := by rw [channelEnable, channelOf?_none h]

section
variable {n : Byte} {c : Fin 4} (number : n.toNat = c.val + 1) {s : State}
include number

theorem channelEnable_enabled (h : (s.channels[c]).mode ≠ .disabled) :
    channelEnable n s = (s, [0, 0, BitVec.ofNat 8 (s.channels[c]).mode.code]) := by
  rw [channelEnable, channelOf?_some number]
  simp only [enableChannel, if_neg h, beFlag_eq, decide_eq_false h]
  rfl

theorem channelEnable_disabled (h : (s.channels[c]).mode = .disabled) :
    channelEnable n s = (arbitrate (s.enabled c), [0, 1, BitVec.ofNat 8 ((arbitrate (s.enabled c)).channels[c]).mode.code]) := by
  rw [channelEnable, channelOf?_some number]
  simp only [enableChannel, if_pos h, beFlag_eq, decide_eq_true h]
  rfl

/-- CHANNEL_ENABLE leaves what the arbiter leaves of the state with the channel enabled, and answers the channel's state
after it (R140, R156, log 11). -/
theorem exec_channelEnable (hs : s.accepting) (h : (s.channels[c]).mode = .disabled) : exec (.channelEnable n) s = .next
    ((arbitrate (s.enabled c)).answered 0xD2 [0, 1, BitVec.ofNat 8 ((arbitrate (s.enabled c)).channels[c]).mode.code]) := by
  have enables := channelEnable_disabled (s := s.hunting) number h
  rw [show s.hunting.enabled c = (s.enabled c).hunting from rfl, arbitrate_hunting] at enables
  exact congrArg Host.Outcome.next (takeRequest_done 0x52 hs enables)

end

/-- Settles O41: the refusal, the channel that stands, and the enabled channel, to which the arbiter may grant a request. -/
theorem channelEnableOutcomes : Obligations.ChannelEnableOutcomes := by
  intro s n hs
  refine ⟨fun bad => congrArg Host.Outcome.next (takeRequest_answer 0x52 _ s hs _ (channelEnable_range bad _)),
    fun c number => ⟨fun stands => ?_, fun disabled empty => ?_, fun disabled => ?_⟩⟩
  · exact congrArg Host.Outcome.next
      (takeRequest_answer 0x52 _ s hs _ (channelEnable_enabled (s := s.hunting) number stands))
  · have done := exec_channelEnable number hs disabled
    have self : (s.enabled c).channels[c] = { s.channels[c] with mode := .idle, short := 0 } := State.setChannel_get_self s c _
    rw [arbitrate_idle (s := s.enabled c) (.inl empty), self] at done
    exact done
  · exact ⟨_, exec_grant hs.works, exec_channelEnable number hs disabled⟩

end Sys2Proof.Machine
end

section
/-! The ends of a drive, and the conversions that its channel counts: O45, O46. -/

namespace Sys2Proof.Machine

/-! ### The ends of a drive -/

theorem endDrive_ended {c : Fin 4} {p : Pulse} {s : State} (h : (s.channels[c]).short ≠ 2) :
    endDrive c p s = s.setPulse c { p with phase := .deadtime2 } := if_neg h

theorem endDrive_shorted {c : Fin 4} {p : Pulse} {s : State} (h : (s.channels[c]).short = 2) :
    endDrive c p s = takeShort c p s := if_pos h

theorem travelLimit_due {s : State} {c : Fin 4} {p : Pulse} (h : s.works) (hp : s.pulse? c = some p)
    (k : p.atLimit s.ms = true) : .travelLimit c ∈ s.due :=
  s.due_of_channelDue h (c := c) (by simp [State.channelDue, mem_eventIf, hp, k])

theorem Pulse.stalled_iff {x : Channel} {p : Pulse} :
    p.stalled x = true ↔ (p.phase = .kick ∨ p.phase = .hold) ∧ p.profile.stallTime ≤ x.stall := by
  simp [Pulse.stalled, Phase.drives_iff]

theorem Pulse.atLimit_iff {now : Nat} {p : Pulse} :
    p.atLimit now = true ↔ (p.phase = .kick ∨ p.phase = .hold) ∧ p.kickStart + p.profile.travelLimit ≤ now := by
  simp [Pulse.atLimit, Phase.drives_iff]

theorem Pulse.shorts_iff {x : Channel} {p : Pulse} :
    p.shorts x = true ↔ (p.phase = .kick ∨ p.phase = .hold) ∧ x.short = 2 := by
  simp [Pulse.shorts, Phase.drives_iff]

/-! ### The latch that closes -/

theorem foldl_still {α β : Type} {f : β → α → β} {b : β} {l : List α} (h : ∀ a ∈ l, f b a = b) : l.foldl f b = b := by
  induction l with
  | nil => rfl
  | cons a l ih => rw [List.foldl_cons, h a List.mem_cons_self, ih fun x m => h x (List.mem_cons_of_mem a m)]

/-- A fold whose steps change nothing but at one element is that one step. -/
theorem foldl_once {α β : Type} {f : β → α → β} {b : β} {a : α} {l : List α} (once : l.Nodup) (mem : a ∈ l)
    (before : ∀ x, x ≠ a → f b x = b) (after : ∀ x, x ≠ a → f (f b a) x = f b a) : l.foldl f b = f b a := by
  obtain ⟨front, back, rfl⟩ := List.append_of_mem mem
  have apart : ∀ x ∈ front ++ back, x ≠ a := fun x m e => (List.nodup_cons.mp (List.nodup_middle.mp once)).1 (e ▸ m)
  rw [List.foldl_append, foldl_still fun x m => before x (apart x (List.mem_append_left _ m)), List.foldl_cons,
    foldl_still fun x m => after x (apart x (List.mem_append_right _ m))]

/-- What a latch that closes at a bay does at one channel (R152). -/
def latchEnds (b : BayIx) (s : State) (c : Fin 4) : State :=
  match s.pulse? c with
  | some p => if p.bay = b ∧ p.kind = .latch ∧ p.phase.drives then endDrive c p s else s
  | none => s

theorem latchClosedEndsDrive_eq (b : BayIx) (s : State) :
    latchClosedEndsDrive b s = allChannels.foldl (latchEnds b) s := rfl

theorem latchEnds_elsewhere {b : BayIx} {s : State} {c : Fin 4} (h : ∀ p, s.pulse? c = some p → p.bay ≠ b) :
    latchEnds b s c = s := by
  unfold latchEnds
  split
  · rename_i p hp
    exact if_neg fun k => h p hp k.1
  · rfl

theorem latchEnds_drive {s : State} {c : Fin 4} {p : Pulse} (hp : s.pulse? c = some p) (latch : p.kind = .latch)
    (drives : p.phase.drives = true) : latchEnds p.bay s c = endDrive c p s := by
  rw [latchEnds, hp]
  exact if_pos ⟨rfl, latch, drives⟩

/-- A latch that closes at the bay of a single pulse ends that LATCH drive (R152). -/
theorem latchClosedEndsDrive_only {s : State} {c : Fin 4} {p : Pulse} (hp : s.pulse? c = some p) (latch : p.kind = .latch)
    (drives : p.phase.drives = true) (short : (s.channels[c]).short ≠ 2)
    (one : ∀ (d : Fin 4) q, s.pulse? d = some q → q.bay = p.bay → d = c) :
    latchClosedEndsDrive p.bay s = s.setPulse c { p with phase := .deadtime2 } := by
  have here : latchEnds p.bay s c = s.setPulse c { p with phase := .deadtime2 } :=
    (latchEnds_drive hp latch drives).trans (endDrive_ended short)
  rw [latchClosedEndsDrive_eq, foldl_once (l := allChannels) (List.nodup_finRange 4) (List.mem_finRange c), here]
  · exact fun d other => latchEnds_elsewhere fun q hq e => other (one d q hq e)
  · rw [here]
    exact fun d other => latchEnds_elsewhere fun q hq e =>
      other (one d q ((State.setPulse_pulse_ne s c d _ other).symm.trans hq) e)

/-- A latch that closes while the bay is driven asks nothing of the bay itself (R6, R152). -/
theorem handleLatch_driven {b : BayIx} {s : State} (state : (s.bay b).state = .latching) (latch : (s.bay b).latch = .closed)
    (stage : (s.bay b).driveStage = .driving) : handleLatch b s = s := by
  simp [handleLatch, state, latch, stage]

/-- A bay that takes no more than a latch that closes (R2). -/
theorem Bay.accept_closes {y : Bay} (latch : y.latch = .opened) (latchDue : y.latchDue = true)
    (presenceDue : y.presenceDue = false) : y.accept = { y with latch := .closed, latchAgree := 0, latchDue := false } := by
  simp [Bay.accept, presenceDue, latchDue, latch, Latch.flip]

/-- The sense event of a latch that closes ends the LATCH drive of its bay, and the bay waits for the report (R152). -/
theorem senseEvent_closes {s : State} {c : Fin 4} {p : Pulse} (hp : s.pulse? c = some p) (kind : p.kind = .latch)
    (drives : p.phase.drives = true) (short : (s.channels[c]).short ≠ 2)
    (one : ∀ (d : Fin 4) q, s.pulse? d = some q → q.bay = p.bay → d = c) (state : (s.bay p.bay).state = .latching)
    (stage : (s.bay p.bay).driveStage = .driving) (latch : (s.bay p.bay).latch = .opened)
    (latchDue : (s.bay p.bay).latchDue = true) (presenceDue : (s.bay p.bay).presenceDue = false) :
    senseEvent p.bay s =
      (s.put p.bay { s.bay p.bay with latch := .closed, latchAgree := 0, latchDue := false }).setPulse c
        { p with phase := .deadtime2 } := by
  have accepted := Bay.accept_closes latch latchDue presenceDue
  have ends : drivesEnded p.bay (s.bay p.bay) s =
      (s.put p.bay (s.bay p.bay).accept).setPulse c { p with phase := .deadtime2 } := by
    rw [drivesEnded, if_pos ⟨latchDue, by rw [accepted]⟩]
    exact latchClosedEndsDrive_only hp kind drives short one
  have bay : ((s.put p.bay (s.bay p.bay).accept).setPulse c { p with phase := .deadtime2 }).bay p.bay =
      (s.bay p.bay).accept := State.put_bay s p.bay _
  rw [← accepted]
  simp only [senseEvent_eq, presenceDue, latchDue, ends, bay, Bay.accept_state, and_self, if_true, Bool.false_eq_true,
    if_false]
  exact handleLatch_driven (by rw [bay, Bay.accept_state, state]) (by rw [bay, accepted]) (by rw [bay, accepted]; exact stage)

/-- Settles O45: each of the three events through `pulseEvent` by what it finds of the channel, and the latch that closes. -/
theorem drivesEndOnStallLimitOrShort : Obligations.DrivesEndOnStallLimitOrShort := by
  intro s c p hs hp x drives ended shorted limit
  have taken : ∀ act, pulseEvent c act s = act p s := fun act => pulseEvent_driving act hs hp
  have stalls : ∀ {t}, stallEnds c p s = t → exec (.stall c) s = .next t :=
    fun e => congrArg Host.Outcome.next ((taken _).trans e)
  have limits : ∀ {t}, limitEnds c p s = t → exec (.travelLimit c) s = .next t :=
    fun e => congrArg Host.Outcome.next ((taken _).trans e)
  have shorts : ∀ {t}, shortEnds c p s = t → exec (.short c) s = .next t :=
    fun e => congrArg Host.Outcome.next ((taken _).trans e)
  refine ⟨fun d n k => stalls ?_, fun d n k => stalls ?_, fun d k => stalls ?_, fun d n k => limits ?_,
    fun d n k => limits ?_, fun d k => limits ?_, fun d n => shorts ?_, fun d n => shorts ?_,
    fun d k => travelLimit_due hs hp (Pulse.atLimit_iff.mpr ⟨d, k⟩), fun d => ⟨stalls ?_, limits ?_, shorts ?_⟩, ?_⟩
  · rw [stallEnds, if_pos (Pulse.stalled_iff.mpr ⟨d, k⟩)]
    exact endDrive_ended n
  · rw [stallEnds, if_pos (Pulse.stalled_iff.mpr ⟨d, k⟩)]
    exact endDrive_shorted n
  · exact if_neg fun h => Nat.not_le.mpr k (Pulse.stalled_iff.mp h).2
  · rw [limitEnds, if_pos (Pulse.atLimit_iff.mpr ⟨d, k⟩)]
    exact endDrive_ended n
  · rw [limitEnds, if_pos (Pulse.atLimit_iff.mpr ⟨d, k⟩)]
    exact endDrive_shorted n
  · exact if_neg fun h => Nat.not_le.mpr k (Pulse.atLimit_iff.mp h).2
  · exact if_pos (Pulse.shorts_iff.mpr ⟨d, n⟩)
  · exact if_neg fun h => n (Pulse.shorts_iff.mp h).2
  · exact if_neg fun h => d (Pulse.stalled_iff.mp h).1
  · exact if_neg fun h => d (Pulse.atLimit_iff.mp h).1
  · exact if_neg fun h => d (Pulse.shorts_iff.mp h).1
  · intro y d kind n state stage latch latchDue presenceDue one
    exact congrArg Host.Outcome.next ((whenRunning_works s _ hs).trans
      (senseEvent_closes hp kind ((Phase.drives_iff _).mpr d) n one state stage latch latchDue presenceDue))

/-! ### The conversions -/

theorem pastMask_iff {now : Nat} {p : Pulse} :
    pastMask now p = true ↔ p.profile.inrushMask = 0 ∨ p.kickStart + p.profile.inrushMask < now := by
  rw [pastMask, decide_eq_true_eq]
  omega

/-- A channel whose count has reached its end counts nothing (log 9). -/
theorem countCurrent_ended {now mA : Nat} {p : Pulse} {x : Channel} (h : x.short = 2 ∨ p.profile.stallTime ≤ x.stall) :
    countCurrent now mA p x = x := if_pos h

theorem countCurrent_counts {now mA : Nat} {p : Pulse} {x : Channel} (short : x.short < 2)
    (stall : x.stall < p.profile.stallTime) : countCurrent now mA p x = { x with
      short := if 4000 ≤ mA then x.short + 1 else 0
      stall := if p.profile.inrushMask = 0 ∨ p.kickStart + p.profile.inrushMask < now
        then (if p.profile.stallThreshold ≤ mA then x.stall + 1 else 0) else x.stall } := by
  rw [countCurrent, if_neg (by omega)]
  simp only [pastMask_iff]

theorem State.setChannel_same (s : State) (c : Fin 4) : s.setChannel c s.channels[c] = s := by
  simp [State.setChannel]

/-- A conversion that its channel does not count, or that leaves both counts as they stand. -/
theorem countScan_none {c : Fin 4} {mA : Nat} {s : State}
    (h : ∀ p, s.pulse? c = some p → p.phase.drives = true → countCurrent s.ms mA p s.channels[c] = s.channels[c]) :
    countScan c mA s = s := by
  unfold countScan
  split
  · rename_i p hp
    split
    · rename_i d
      rw [h p hp d, State.setChannel_same]
    · rfl
  · rfl

theorem countScan_driving {c : Fin 4} {mA : Nat} {s : State} {p : Pulse} (hp : s.pulse? c = some p)
    (d : p.phase.drives = true) : countScan c mA s = s.setChannel c (countCurrent s.ms mA p s.channels[c]) := by
  rw [countScan, hp]
  exact if_pos d

/-- The state once the latest value of a current input is replaced and the scan goes on (R162). -/
def State.converted (s : State) (c : Fin 4) (mA : Nat) : State :=
  { s with currents := s.currents.set c.val mA c.isLt, scanSlot := c.succ }

theorem currentOf_eq (count : BitVec 10) : currentOf count = 4 * count.toNat := Nat.mul_comm _ _

theorem exec_currentConversion {s : State} {c : Fin 4} (count : BitVec 10) (main : s.mainPower = true)
    (slot : s.scanSlot = c.castSucc) : exec (.currentConversion c count) s =
      .next (whenRunning (s.converted c (4 * count.toNat)) (countScan c (4 * count.toNat))) := by
  refine congrArg Host.Outcome.next ((convert_here _ _ s main slot).trans ?_)
  rw [slot, Fin.coeSucc_eq_succ, currentOf_eq]
  rfl

/-- Settles O46: the conversion in its slot, counted by the running part where the channel drives and its counts are short of
their ends. -/
theorem currentConversionCounts : Obligations.CurrentConversionCounts := by
  intro s c count main mA x t
  refine ⟨fun slot => congrArg Host.Outcome.next (convert_elsewhere _ _ s (.inr slot)), fun slot => ?_⟩
  have counted : exec (.currentConversion c count) s = .next (whenRunning t (countScan c mA)) :=
    exec_currentConversion count main slot
  have uncounted : countScan c mA t = t → exec (.currentConversion c count) s = .next t := fun e => by
    rw [counted]
    exact congrArg Host.Outcome.next (whenRunning_keeps (· = t) t _ rfl fun _ => e)
  refine ⟨fun p released hp d short stall => ?_, fun p hp e => uncounted ?_, fun rests => uncounted ?_, fun held => ?_⟩
  · have works : t.works := ⟨main, released⟩
    rw [counted, whenRunning_works t _ works, countScan_driving (s := t) hp ((Phase.drives_iff _).mpr d),
      countCurrent_counts (x := t.channels[c]) short stall]
    rfl
  · refine countScan_none fun q hq _ => countCurrent_ended ?_
    obtain rfl : p = q := Option.some.inj (hp.symm.trans hq)
    exact e
  · exact countScan_none fun q hq d => absurd ((Phase.drives_iff _).mp d) (not_or.mpr (rests q hq))
  · rw [counted, whenRunning_stopped t _ (by simp [State.running, t, held])]

end Sys2Proof.Machine
end

section
/-! The evaluation of the supply band, and what a fall to BROWNOUT stops: O51. -/

namespace Sys2Proof.Machine

/-! ### The band an evaluation gives -/

/-- The leave threshold of a band, with the band one step higher (R168). -/
def Band.leave (t : Thresholds) : Band → Option (Nat × Band)
  | .normal => none
  | .low => some (t.lowLeave, .normal)
  | .critical => some (t.critLeave, .low)
  | .brownout => some (t.brownLeave, .critical)

theorem riseBand_rises {t : Thresholds} {v l : Nat} {b n : Band} (leave : b.leave t = some (l, n)) (reached : l ≤ v) :
    riseBand t v b = n := by
  cases b <;> cases leave <;> exact if_pos reached

theorem riseBand_stays {t : Thresholds} {v : Nat} {b : Band} (below : ∀ l n, b.leave t = some (l, n) → v < l) :
    riseBand t v b = b := by
  cases b with
  | normal => rfl
  | low | critical | brownout => exact if_neg (Nat.not_le.mpr (below _ _ rfl))

/-- A rise leads out of the band, and never to BROWNOUT. -/
theorem Band.leave_moves {t : Thresholds} {l : Nat} {b n : Band} (leave : b.leave t = some (l, n)) : n ≠ b ∧ n ≠ .brownout := by
  cases b <;> cases leave <;> decide

theorem Band.height_pos {b : Band} (h : b ≠ .brownout) : Band.brownout.height < b.height := by
  cases b with
  | brownout => exact absurd rfl h
  | critical | low | normal => decide

theorem nextBand_falls {t : Thresholds} {v : Nat} {b f : Band} (fall : fallBand t v = some f) (lower : f.height < b.height) :
    nextBand t v b = f := by
  rw [nextBand, fall]
  exact if_pos lower

theorem nextBand_rises {t : Thresholds} {v : Nat} {b : Band} (none : ¬ ∃ f, fallBand t v = some f ∧ f.height < b.height) :
    nextBand t v b = riseBand t v b := by
  unfold nextBand
  split
  · rename_i f fall
    exact if_neg fun lower => none ⟨f, fall, lower⟩
  · rfl

/-! ### What a fall to BROWNOUT makes of a channel -/

/-- A channel record after a fall to BROWNOUT (R157): a completed short is taken as the short (R154, log 9), any other pulse
that is not yet reported is aborted. -/
def Channel.stopped (x : Channel) : Channel :=
  match x.pulse? with
  | some p =>
    if p.shorted ∨ p.phase = .coast then x
    else if p.phase.drives ∧ x.short = 2 then
      { x with mode := .driving { p with phase := .deadtime2, result := some .jam, shorted := true } }
    else { x with mode := .driving { p with phase := .coast, result := some .abort, refreshed := false } }
  | none => x

/-- A channel has completed a short that has not been taken (log 9). -/
def Channel.completesShort (x : Channel) : Bool :=
  x.pulse?.any fun p => !p.shorted && p.phase.drives && decide (x.short = 2)

theorem Channel.completesShort_iff {x : Channel} : x.completesShort = true ↔
    ∃ p, x.pulse? = some p ∧ p.shorted = false ∧ (p.phase = .kick ∨ p.phase = .hold) ∧ x.short = 2 := by
  simp [Channel.completesShort, Option.any_eq_true, Phase.drives_iff, and_assoc]

section
variable {x : Channel} {p : Pulse}

theorem Channel.stopped_resting (h : x.pulse? = none) : x.stopped = x := by rw [Channel.stopped, h]

theorem Channel.completesShort_resting (h : x.pulse? = none) : x.completesShort = false := by
  rw [Channel.completesShort, h]
  rfl

variable (h : x.pulse? = some p)
include h

theorem Channel.completesShort_driving : x.completesShort = (!p.shorted && p.phase.drives && decide (x.short = 2)) := by
  rw [Channel.completesShort, h]
  rfl

section
variable (settled : p.shorted = true ∨ p.phase = .coast)
include settled

theorem Channel.stopped_settled : x.stopped = x := by
  rw [Channel.stopped, h]
  exact if_pos settled

theorem Channel.completesShort_settled : x.completesShort = false := by
  rcases settled with k | k <;> simp [Channel.completesShort_driving h, k, Phase.drives]

end

variable (unshorted : p.shorted = false)
include unshorted

theorem Channel.stopped_short (drives : p.phase.drives = true) (short : x.short = 2) : x.stopped =
    { x with mode := .driving { p with phase := .deadtime2, result := some .jam, shorted := true } } := by
  have going : p.phase ≠ .coast := fun e => by rw [e] at drives; cases drives
  rw [Channel.stopped, h]
  exact (if_neg (by simp [unshorted, going])).trans (if_pos ⟨drives, short⟩)

variable (going : p.phase ≠ .coast) (noShort : ¬ (p.phase.drives = true ∧ x.short = 2))
include noShort

theorem Channel.completesShort_none : x.completesShort = false := by
  simpa [Channel.completesShort_driving h, unshorted] using noShort

include going

theorem Channel.stopped_aborted : x.stopped =
    { x with mode := .driving { p with phase := .coast, result := some .abort, refreshed := false } } := by
  rw [Channel.stopped, h]
  exact (if_neg (by simp [unshorted, going])).trans (if_neg noShort)

end

/-- The state with CHANNEL posted where a short is taken (R154). -/
def State.shortPosted (s : State) (taken : Bool) : State :=
  { s with changes := { s.changes with station := { s.changes.station with
      channel := s.changes.station.channel || taken } } }

@[simp] theorem State.shortPosted_false (s : State) : s.shortPosted false = s := by simp [State.shortPosted]

theorem State.shortPosted_true (s : State) : s.shortPosted true = s.postChannel := by
  simp [State.shortPosted, State.postChannel]

/-- A fall to BROWNOUT at one channel. -/
theorem abortChannel_eq (s : State) (c : Fin 4) : abortChannel s c =
    (s.setChannel c (s.channels[c]).stopped).shortPosted (s.channels[c]).completesShort := by
  unfold abortChannel
  rw [State.pulse?_eq]
  cases hp : (s.channels[c]).pulse? with
  | none =>
    rw [Channel.stopped_resting hp, Channel.completesShort_resting hp, State.setChannel_same, State.shortPosted_false]
  | some p =>
    simp only
    split
    · rename_i settled
      rw [Channel.stopped_settled hp settled, Channel.completesShort_settled hp settled, State.setChannel_same,
        State.shortPosted_false]
    · rename_i going
      obtain ⟨unshorted, going⟩ := not_or.mp going
      rw [Bool.not_eq_true] at unshorted
      split
      · rename_i short
        obtain ⟨drives, short⟩ := short
        rw [Channel.stopped_short hp unshorted drives short, Channel.completesShort_driving hp, unshorted, drives,
          decide_eq_true short]
        exact (State.shortPosted_true _).symm
      · rename_i noShort
        rw [Channel.stopped_aborted hp unshorted going noShort, Channel.completesShort_none hp unshorted noShort,
          State.shortPosted_false]
        rfl

/-- What a fall to BROWNOUT makes of the channels of a list, and of the CHANNEL cause (R154, R157). -/
structure StoppedFrom (l : List (Fin 4)) (s t : State) : Prop where
  frame   : t = { s.shortPosted (l.any fun c => (s.channels[c]).completesShort) with channels := t.channels }
  stopped : ∀ c ∈ l, t.channels[c] = (s.channels[c]).stopped
  others  : ∀ c, c ∉ l → t.channels[c] = s.channels[c]

theorem abortChannels_stopped (l : List (Fin 4)) (s : State) (once : l.Nodup) :
    StoppedFrom l s (l.foldl abortChannel s) := by
  induction l generalizing s with
  | nil => exact ⟨by simp [State.shortPosted], fun _ m => absurd m List.not_mem_nil, fun _ _ => rfl⟩
  | cons c l ih =>
    obtain ⟨fresh, once⟩ := List.nodup_cons.mp once
    have rest := ih (abortChannel s c) once
    have self : (abortChannel s c).channels[c] = (s.channels[c]).stopped := by
      rw [abortChannel_eq]
      exact State.setChannel_get_self s c _
    have other : ∀ d, d ≠ c → (abortChannel s c).channels[d] = s.channels[d] := fun d e => by
      rw [abortChannel_eq]
      exact State.setChannel_get_ne s c d _ e
    refine ⟨?_, fun d m => ?_, fun d m => ?_⟩
    · have shorts : (l.any fun d => ((abortChannel s c).channels[d]).completesShort) =
          l.any fun d => (s.channels[d]).completesShort :=
        Bool.eq_iff_iff.mpr (by
          rw [List.any_eq_true, List.any_eq_true]
          exact exists_congr fun d => and_congr_right fun m => by rw [other d fun e => fresh (e ▸ m)])
      have frame := rest.frame
      rw [shorts, abortChannel_eq] at frame
      rw [List.foldl_cons, abortChannel_eq, frame]
      simp [State.shortPosted, State.setChannel, Bool.or_assoc]
    · rcases List.mem_cons.mp m with rfl | m
      · exact (rest.others d fresh).trans self
      · exact (rest.stopped d m).trans (by rw [other d fun e => fresh (e ▸ m)])
    · obtain ⟨ne, m⟩ := not_or.mp (mt List.mem_cons.mpr m)
      exact (rest.others d m).trans (other d ne)

theorem brownoutAbort_stopped (s : State) : StoppedFrom allChannels s (brownoutAbort s) :=
  abortChannels_stopped _ s (List.nodup_finRange 4)

/-- A motor whose pulse is in COAST is not driven. -/
theorem State.gates_coast {s : State} {c : Fin 4} {p : Pulse} (h : s.pulse? c = some p) (coast : p.phase = .coast) :
    s.gates c = gatesOff := by
  simp [State.gates, h, Pulse.gates, coast]

namespace StoppedFrom
variable {s t : State} (a : StoppedFrom allChannels s t)
include a

theorem posted : t.changes.station.channel =
    (s.changes.station.channel || allChannels.any fun c => (s.channels[c]).completesShort) := by
  rw [a.frame]
  rfl

/-- CHANNEL is posted exactly where a short has been completed (R154). -/
theorem posted_iff : t.changes.station.channel = true ↔ s.changes.station.channel = true ∨ ∃ (c : Fin 4) (p : Pulse),
    s.pulse? c = some p ∧ p.shorted = false ∧ (p.phase = .kick ∨ p.phase = .hold) ∧ (s.channels[c]).short = 2 := by
  rw [a.posted, Bool.or_eq_true, List.any_eq_true]
  refine or_congr_right (exists_congr fun c => ?_)
  rw [Channel.completesShort_iff]
  exact and_iff_right (List.mem_finRange c)

variable {c : Fin 4}

theorem record : t.channels[c] = (s.channels[c]).stopped := a.stopped c (List.mem_finRange c)

variable {p : Pulse} (hp : s.pulse? c = some p) (unshorted : p.shorted = false)
include hp unshorted

/-- A pulse that is not yet reported and has completed no short is aborted (R157). -/
theorem aborts (going : p.phase ≠ .coast) (noShort : ¬ (p.phase.drives = true ∧ (s.channels[c]).short = 2)) :
    t.channels[c] = { s.channels[c] with
      mode := .driving { p with phase := .coast, result := some .abort, refreshed := false } } ∧ t.gates c = gatesOff := by
  have record := a.record.trans (Channel.stopped_aborted hp unshorted going noShort)
  exact ⟨record, State.gates_coast (by rw [State.pulse?_eq, record, Channel.pulse?]) rfl⟩

/-- One that has completed a short is taken as the short (R154, log 9). -/
theorem shorts (drives : p.phase = .kick ∨ p.phase = .hold) (short : (s.channels[c]).short = 2) :
    t.changes.station.channel = true ∧ t.channels[c] = { s.channels[c] with
      mode := .driving { p with phase := .deadtime2, result := some .jam, shorted := true } } :=
  ⟨a.posted_iff.mpr (.inr ⟨c, p, hp, unshorted, drives, short⟩),
    a.record.trans (Channel.stopped_short hp unshorted ((Phase.drives_iff _).mpr drives) short)⟩

end StoppedFrom

/-! ### The event -/

/-- The state in another band, with BAND posted (R169). -/
def State.inBand (s : State) (b : Band) : State := { s.postBand with band := b }

theorem changeBand_grants {s : State} {b : Band} (moves : b ≠ s.band) (power : b ≠ .brownout) :
    changeBand b s = arbitrate (s.inBand b) := by
  rw [changeBand, if_neg moves]
  exact congrArg arbitrate (if_neg power)

/-- In BROWNOUT nothing is granted (R142, R157). -/
theorem changeBand_brownout {s : State} (moves : s.band ≠ .brownout) :
    changeBand .brownout s = brownoutAbort (s.inBand .brownout) := by
  have band : (brownoutAbort (s.inBand .brownout)).band = .brownout := by
    rw [(brownoutAbort_stopped _).frame]
    rfl
  rw [changeBand, if_neg moves.symm]
  exact (congrArg arbitrate (if_pos rfl)).trans (arbitrate_idle (.inr band))

theorem bandEvaluation_due {s : State} (h : s.works) (k : s.evaluationDue = true) : .bandEvaluation ∈ s.due := by
  simp [State.due, h.running, mem_eventIf, k]

/-- The state with the evaluation of its count taken (R167, log 38). -/
def State.evaluated (s : State) : State := { s with evaluationDue := false }

section
variable {s : State} (hs : s.works)
include hs

theorem exec_bandEvaluation_idle (k : s.evaluationDue = false) : exec .bandEvaluation s = .next s :=
  congrArg Host.Outcome.next ((whenRunning_works s _ hs).trans (takeEvaluation_idle s k))

variable (k : s.evaluationDue = true)
include k

theorem exec_bandEvaluation : exec .bandEvaluation s = .next (evaluateBand s.evaluated) :=
  congrArg Host.Outcome.next ((whenRunning_works s _ hs).trans (takeEvaluation_due s k))

theorem exec_bandEvaluation_few (few : s.samples.length < 16) : exec .bandEvaluation s = .next s.evaluated :=
  (exec_bandEvaluation hs k).trans (congrArg Host.Outcome.next (if_pos few))

variable (full : 16 ≤ s.samples.length) {b : Band} (next : nextBand s.thresholds s.filtered s.band = b)
include full next

theorem exec_bandEvaluation_full : exec .bandEvaluation s = .next (changeBand b s.evaluated) := by
  subst next
  exact (exec_bandEvaluation hs k).trans (congrArg Host.Outcome.next (if_neg (Nat.not_lt.mpr full)))

/-- A band that stands changes nothing else. -/
theorem exec_bandEvaluation_stays (same : b = s.band) : exec .bandEvaluation s = .next s.evaluated :=
  (exec_bandEvaluation_full hs k full next).trans (congrArg Host.Outcome.next (if_pos same))

/-- A change short of BROWNOUT leaves what GRANT leaves of the state in the new band (R169). -/
theorem exec_bandEvaluation_grants (moves : b ≠ s.band) (power : b ≠ .brownout) :
    ∃ t, exec .grant (s.evaluated.inBand b) = .next t ∧ exec .bandEvaluation s = .next t ∧ t.band = b :=
  ⟨_, exec_grant hs, (exec_bandEvaluation_full hs k full next).trans (congrArg _ (changeBand_grants moves power)),
    (GrantedFrom.arbitrate _).band⟩

end

/-- Settles O51: the band that the mean gives; a change short of BROWNOUT grants, and a fall to it stops each channel by
itself. -/
theorem bandEvaluationMovesTheBand : Obligations.BandEvaluationMovesTheBand := by
  intro s hs v h fall falls leave u moved
  refine ⟨exec_bandEvaluation_idle hs, bandEvaluation_due hs, exec_bandEvaluation_few hs, fun k full =>
    ⟨fun f fell lower power => ?_, fun above l b left reached => ?_, fun above below => ?_, fun fell power => ?_⟩⟩
  · refine exec_bandEvaluation_grants hs k full (nextBand_falls fell lower) (fun same => ?_) power
    rw [same] at lower
    exact Nat.lt_irrefl _ lower
  · have left : s.band.leave h = some (l, b) := left
    obtain ⟨moves, power⟩ := Band.leave_moves left
    exact exec_bandEvaluation_grants hs k full ((nextBand_rises above).trans (riseBand_rises left reached)) moves power
  · exact exec_bandEvaluation_stays hs k full ((nextBand_rises above).trans (riseBand_stays below)) rfl
  · have stops : StoppedFrom allChannels (moved .brownout) (brownoutAbort (moved .brownout)) := brownoutAbort_stopped _
    have event := exec_bandEvaluation_full hs k full (nextBand_falls fell (Band.height_pos power))
    rw [changeBand_brownout (s := s.evaluated) power] at event
    refine ⟨brownoutAbort (moved .brownout), event, ?_, stops.posted_iff,
      fun c => ⟨fun resting => stops.record.trans (Channel.stopped_resting resting), fun p hp =>
        ⟨fun unshorted phase => stops.aborts hp unshorted ?_ ?_, fun unshorted drives below => stops.aborts hp unshorted ?_ ?_,
          stops.shorts hp, fun settled => stops.record.trans (Channel.stopped_settled hp settled)⟩⟩⟩
    · rw [stops.posted]
      exact stops.frame
    · rcases phase with e | e | e | e <;> simp [e]
    · rcases phase with e | e | e | e <;> simp [e, Phase.drives]
    · rcases drives with e | e <;> simp [e]
    · exact fun ⟨_, short⟩ => Nat.ne_of_lt below short

end Sys2Proof.Machine
end

section
/-! The supply monitor, SUPPLY_SET and the battery conversions: O49, O50. -/

namespace Sys2Proof.Machine

/-! ### SUPPLY_SET -/

/-- The check of the request is the range and the order of its six values (R171, R172). -/
theorem thresholdsOk_iff (le ll ce cl be bl : BitVec 16) :
    thresholdsOk ⟨le.toNat, ll.toNat, ce.toNat, cl.toNat, be.toNat, bl.toNat⟩ = true ↔
      (∀ x ∈ [le, ll, ce, cl, be, bl], 6000 ≤ x.toNat ∧ x.toNat ≤ 18000) ∧
        be < bl ∧ bl ≤ ce ∧ ce < cl ∧ cl ≤ le ∧ le < ll := by
  simp [thresholdsOk, thresholdInRange, BitVec.lt_def, BitVec.le_def, and_assoc]

theorem supplySet_stores {t : Thresholds} (ok : thresholdsOk t = true) (s : State) :
    supplySet t s = ({ s with thresholds := t }, okWith (thresholdFields t)) := if_pos ok

theorem supplySet_refuses {t : Thresholds} (bad : ¬ thresholdsOk t = true) (s : State) :
    supplySet t s = (s, statusOnly .range) := if_neg bad

/-- Settles O49: the six values stored where the check passes, and the refusal. -/
theorem supplySetStoresOrRefuses : Obligations.SupplySetStoresOrRefuses := by
  intro s le ll ce cl be bl hs v ok
  have check : thresholdsOk v = true ↔ ok := thresholdsOk_iff le ll ce cl be bl
  refine ⟨fun h => congrArg Host.Outcome.next ?_, fun h => congrArg Host.Outcome.next ?_⟩
  · exact takeRequest_done 0x58 (t := { s.hunting with thresholds := v }) hs (supplySet_stores (check.mpr h) _)
  · exact takeRequest_answer 0x58 _ s hs _ (supplySet_refuses (mt check.mp h) _)

/-! ### The battery samples -/

theorem State.anyKick_iff (s : State) :
    s.anyKick = true ↔ ∃ (c : Fin 4) (p : Pulse), s.pulse? c = some p ∧ p.phase = .kick := by
  simp [State.anyKick, allChannels, Option.any_eq_true]

theorem judgeSample_rejects {mV : Nat} {s : State} (kicks : s.anyKick = true) (below : s.rejections < 200) :
    judgeSample mV s = { s with rejections := s.rejections + 1 } := if_pos ⟨kicks, below⟩

/-- An accepted sample joins the list, whose oldest goes where it held sixteen (R165). -/
theorem acceptSample_keeps_sixteen (mV : Nat) {s : State} (bounded : s.samples.length ≤ 16) : acceptSample mV s = { s with
    rejections := 0, samples := (if s.samples.length = 16 then s.samples.tail else s.samples) ++ [mV] } := by
  rw [acceptSample]
  congr 1
  rw [List.length_append, List.length_singleton]
  split
  · next full => rw [full, List.drop_append_of_le_length (by omega), List.drop_one]
  · rw [Nat.sub_eq_zero_of_le (by omega), List.drop_zero]

theorem judgeSample_accepts {mV : Nat} {s : State} (h : ¬ s.anyKick = true ∨ 200 ≤ s.rejections) :
    judgeSample mV s = acceptSample mV s :=
  if_neg fun ⟨kicks, below⟩ => h.elim (· kicks) (Nat.not_le.mpr below)

/-- The state once the latest value of the battery input is replaced and a new scan begins (R162). -/
def State.sampled (s : State) (mV : Nat) : State := { s with battery := mV, scanSlot := 0 }

theorem exec_batteryConversion {s : State} (count : BitVec 10) (main : s.mainPower = true) (slot : s.scanSlot = 4) :
    exec (.batteryConversion count) s =
      .next (whenRunning (s.sampled (20 * count.toNat)) (judgeSample (20 * count.toNat))) := by
  refine congrArg Host.Outcome.next ((convert_here _ _ s main slot).trans ?_)
  rw [slot, batteryOf, Nat.mul_comm]
  rfl

/-- Settles O50: the conversion in its slot, judged by the running part, and not judged while RESET is held. -/
theorem batterySamplesAreFiltered : Obligations.BatterySamplesAreFiltered := by
  intro s count main bounded mV kicks
  have kicking : (s.sampled mV).anyKick = true ↔ kicks := State.anyKick_iff s
  refine ⟨fun slot => congrArg Host.Outcome.next (convert_elsewhere _ _ s (.inr slot)), fun slot => ?_⟩
  have conversion : exec (.batteryConversion count) s = .next (whenRunning (s.sampled mV) (judgeSample mV)) :=
    exec_batteryConversion count main slot
  have judged (released : s.resetHeld = false) :
      exec (.batteryConversion count) s = .next (judgeSample mV (s.sampled mV)) := by
    rw [conversion, whenRunning_works (s.sampled mV) _ ⟨main, released⟩]
  refine ⟨fun released k below => ?_, fun released k => ?_, fun held => ?_⟩
  · rw [judged released, judgeSample_rejects (kicking.mpr k) below]
    rfl
  · rw [judged released, judgeSample_accepts (k.imp_left (mt kicking.mp)),
      acceptSample_keeps_sixteen mV (s := s.sampled mV) bounded]
    rfl
  · rw [conversion, whenRunning_stopped _ _ (by simp [State.running, State.sampled, held])]
    rfl

end Sys2Proof.Machine
end

section
/-! The loss of each supply: O59. -/

namespace Sys2Proof.Machine

/-! ### The loss of main power -/

/-- A loss of main power writes the bays and the main domain only (R174). -/
theorem loseMainPower_frame (s : State) : loseMainPower s = { s with
    bays := (loseMainPower s).bays, currents := (loseMainPower s).currents, battery := (loseMainPower s).battery
    freeIndex := s.freeIndex + 5, mainPower := false, ms := 0, msRemainder := 0, refreshDue := false, evaluationDue := false
    cursor := 0, queue := [], channels := Vector.replicate 4 idleChannel, chain := Vector.replicate 32 darkSlot, scanSlot := 0
    samples := [], rejections := 0, band := .critical, rx := .hunt, reply := none, changes := emptyChanges } := by
  simp only [loseMainPower, State.mapBays, unconvertAll]

theorem loseMainPower_currents (s : State) (c : Fin 4) :
    (loseMainPower s).currents[c] = currentOf (Config.unconverted (s.freeIndex + c.val)) := by
  simp only [loseMainPower, State.mapBays, unconvertAll, Fin.getElem_fin, Vector.getElem_ofFn]

theorem loseMainPower_battery (s : State) :
    (loseMainPower s).battery = batteryOf (Config.unconverted (s.freeIndex + 4)) := by
  simp only [loseMainPower, State.mapBays, unconvertAll]

/-- The items of the table of R174 stand through a loss of main power. -/
theorem loseMainPower_backup (s : State) : BackupKept s (loseMainPower s) := by
  have bay : ∀ b, (loseMainPower s).bay b = (s.bay b).backedUp := loseMainPower_bay s
  rw [loseMainPower_frame] at bay ⊢
  refine ⟨rfl, rfl, ⟨rfl, rfl, rfl, rfl, rfl, rfl⟩, ⟨rfl, rfl, rfl⟩, ⟨rfl, rfl, rfl⟩, fun b => ?_⟩
  rw [bay]
  exact ⟨rfl, rfl, rfl, rfl, rfl, rfl⟩

/-- Every channel is idle, so no pulse is in flight (R175). -/
theorem loseMainPower_pulse (s : State) (c : Fin 4) : (loseMainPower s).pulse? c = none := by
  rw [replicate_idle_pulse (loseMainPower s) rfl, noPulses]

theorem loseMainPower_stopped (s : State) : (loseMainPower s).running = false := rfl

theorem loseMainPower_chain (s : State) (b : BayIx) : (loseMainPower s).chain[b] = ⟨none, false⟩ := by
  simp [loseMainPower, darkSlot]

theorem exec_mainPowerLoss {s : State} (main : s.mainPower = true) : exec .mainPowerLoss s = .next (loseMainPower s) :=
  congrArg Host.Outcome.next (if_pos main)

/-! ### A stopped part -/

section Stopped
variable {s : State} (stopped : s.running = false)
include stopped

theorem gates_stopped (c : Fin 4) : s.gates c = gatesOff := by
  simp only [State.gates, stopped, Bool.false_eq_true, if_false]

theorem selectBits_stopped (b : BayIx) : s.selectBits b = [false, false, false, false] := by
  simp only [State.selectBits, stopped, Bool.false_eq_true, if_false]

theorem attn_stopped : s.attn = false := by rw [State.attn, stopped, Bool.false_and]

end Stopped

/-- Without main power the analog scanner makes no conversion (R162, R175). -/
theorem exec_currentConversion_dark {s : State} (dark : s.mainPower = false) (c : Fin 4) (n : BitVec 10) :
    exec (.currentConversion c n) s = .next s := congrArg Host.Outcome.next (convert_elsewhere _ _ s (.inl dark))

theorem exec_batteryConversion_dark {s : State} (dark : s.mainPower = false) (n : BitVec 10) :
    exec (.batteryConversion n) s = .next s := congrArg Host.Outcome.next (convert_elsewhere _ _ s (.inl dark))

/-! ### The loss of the backup supply -/

theorem exec_backupSupplyLoss {s : State} (dark : s.mainPower = false) : exec .backupSupplyLoss s = .next (loseBackup s) :=
  congrArg Host.Outcome.next (if_neg (by simp [dark]))

theorem loseBackup_bay (s : State) (b : BayIx) : (loseBackup s).bay b = blankBay := by
  have e : (loseBackup s).bays = State.reset.bays := by unfold loseBackup; generalize State.reset = r; rfl
  rw [State.bay, e]
  exact reset_bay b

theorem loseBackup_keys (s : State) (k : Fin 4) : (loseBackup s).keys[k] = none := by
  simp [loseBackup, State.reset]

theorem loseBackup_tariffs (s : State) (p : Fin 3) : (loseBackup s).tariffs[p] = none := by
  simp [loseBackup, State.reset]

theorem loseBackup_rentals (s : State) (k : Fin 64) : (loseBackup s).rentals[k] = none := by
  simp [loseBackup, State.reset]

/-! ### The statement -/

/-- Settles O59: what a loss of main power keeps and ends, what a part without it ignores, and what a loss of the backup
supply leaves. -/
theorem powerLossKeepsTheBackupDomain : Obligations.PowerLossKeepsTheBackupDomain := by
  intro s
  refine ⟨fun main => ⟨loseMainPower s, exec_mainPowerLoss main, loseMainPower_backup s, ?_⟩,
    fun main => ⟨loseMainPower s, exec_mainPowerLoss main, rfl, fun b =>
      ⟨loseMainPower_chain s b, selectBits_stopped (loseMainPower_stopped s) b⟩⟩,
    fun dark => ?_, fun dark => congrArg Host.Outcome.next (if_neg (by simp [dark])),
    fun main => congrArg Host.Outcome.next (if_pos main),
    fun dark => ⟨loseBackup s, exec_backupSupplyLoss dark, ?_⟩⟩
  · have stopped := loseMainPower_stopped s
    have timers : ∀ b, ((loseMainPower s).bay b).pendingTag = none ∧ ((loseMainPower s).bay b).takeWindow = none ∧
        ((loseMainPower s).bay b).tagWindow = none ∧ ((loseMainPower s).bay b).deadline = .stopped ∧
        ((loseMainPower s).bay b).retryDelay = none := fun b => by
      rw [loseMainPower_bay]; exact ⟨rfl, rfl, rfl, rfl, rfl⟩
    exact ⟨rfl, rfl, rfl, fun c => ⟨_, loseMainPower_currents s c, rfl⟩, loseMainPower_battery s, rfl, rfl, rfl, rfl, rfl, rfl,
      gates_stopped stopped, attn_stopped stopped, loseMainPower_pulse s, timers⟩
  · have stopped : s.running = false := by rw [State.running, dark, Bool.false_and]
    exact ⟨gates_stopped stopped, selectBits_stopped stopped, attn_stopped stopped, fun x => exec_stopped _ s stopped rfl,
      exec_currentConversion_dark dark, exec_batteryConversion_dark dark, fun i => exec_stopped i s stopped⟩
  · have blank : ∀ b, ((loseBackup s).bay b).identity = none ∧ ((loseBackup s).bay b).arrival = none ∧
        ((loseBackup s).bay b).processed = false ∧ ((loseBackup s).bay b).held = none ∧
        ((loseBackup s).bay b).link = .unlinked ∧ ((loseBackup s).bay b).alarms = ⟨false, false, false, false⟩ := fun b => by
      rw [loseBackup_bay]; exact ⟨rfl, rfl, rfl, rfl, rfl, rfl⟩
    exact ⟨rfl, rfl, rfl, rfl, rfl, rfl, rfl, rfl, loseBackup_keys s, loseBackup_tariffs s, rfl, rfl, rfl, rfl,
      loseBackup_rentals s, blank⟩

end Sys2Proof.Machine
end

section
/-! A step with a command waiting and with none: O1. -/

namespace Sys2Proof.Machine

/-! ### One crystal period -/

/-- Within a second a crystal period raises the phase of the clock (R180). -/
theorem tickPhase_within {s : State} (h : s.clock.phase + 1 < 32768) :
    tickPhase s = { s with clock := { s.clock with phase := s.clock.phase + 1 } } := if_pos h

/-- The period that ends a second returns the phase to 0 and makes the boundary due (R180, log 18). -/
theorem tickPhase_wraps {s : State} (h : 32768 ≤ s.clock.phase + 1) :
    tickPhase s = { s with clock := { s.clock with phase := 0, boundary := true } } := if_neg (Nat.not_lt.mpr h)

/-- Within a millisecond a crystal period raises the remainder of the count (R178, log 23). -/
theorem tickCount_within {s : State} (h : s.msRemainder + 1000 < 32768) :
    tickCount s = { s with msRemainder := s.msRemainder + 1000 } := if_pos h

/-- The period that completes a millisecond raises the count (R178, log 23). -/
theorem tickCount_rises {s : State} (h : 32768 ≤ s.msRemainder + 1000) (below : s.ms < maxCount) :
    tickCount s = { s with msRemainder := s.msRemainder + 1000 - 32768, ms := s.ms + 1 } := by
  rw [tickCount, if_neg (Nat.not_lt.mpr h), countUp, if_pos below]

theorem tickCount_clock (s : State) : (tickCount s).clock = s.clock := by
  unfold tickCount countUp
  (repeat' split) <;> rfl

theorem State.works.crystalRuns {s : State} (h : s.works) : s.crystalRuns = true := by simp [State.crystalRuns, h.1]

section Works
variable {s : State} (hs : s.works) (phase : s.clock.phase + 1 < 32768)
include hs

theorem crystalPeriod_works : crystalPeriod s = tickPhase (tickCount s) := by
  rw [crystalPeriod, if_pos hs.crystalRuns, if_pos hs.running]

include phase

theorem crystalPeriod_within (h : s.msRemainder + 1000 < 32768) : crystalPeriod s = { s with
    clock := { s.clock with phase := s.clock.phase + 1 }, msRemainder := s.msRemainder + 1000 } := by
  rw [crystalPeriod_works hs, tickCount_within h]
  exact tickPhase_within phase

theorem crystalPeriod_rises (h : 32768 ≤ s.msRemainder + 1000) (below : s.ms < maxCount) : crystalPeriod s = { s with
    clock := { s.clock with phase := s.clock.phase + 1 }, msRemainder := s.msRemainder + 1000 - 32768
    ms := s.ms + 1 } := by
  rw [crystalPeriod_works hs, tickCount_rises h below]
  exact tickPhase_within phase

end Works

/-- While a supply is present, the period that ends a second does so whether the part runs or not (R180). -/
theorem crystalPeriod_clock_wraps {s : State} (supply : s.crystalRuns = true) (h : 32768 ≤ s.clock.phase + 1) :
    (crystalPeriod s).clock = { s.clock with phase := 0, boundary := true } := by
  have clock : (if s.running then tickCount s else s).clock = s.clock := by
    split
    · exact tickCount_clock s
    · rfl
  rw [crystalPeriod, if_pos supply, tickPhase_wraps (by rw [clock]; exact h), clock]

/-! ### The period that an idle step passes -/

/-- The state in which a refresh that the count stood at, and that no event had made, has been made (R24, R144, log 38). -/
def State.refreshed (s : State) : State := if s.refreshDue = true then s.afterRefresh else s

theorem refreshChain_eq (s : State) : refreshChain s = s.refreshed := by
  unfold State.refreshed
  split
  · next due => exact refreshChain_due s due
  · next idle => exact refreshChain_idle s (Bool.not_eq_true _ ▸ idle)

/-- The refresh writes the select chain and the channels, and takes its own mark back. -/
theorem State.refreshed_frame (s : State) : s.refreshed = { s with
    refreshDue := s.refreshed.refreshDue, chain := s.refreshed.chain, channels := s.refreshed.channels } := by
  rw [← refreshChain_eq]
  exact refreshChain_frame s

section Works
variable {s : State} (hs : s.works) (phase : s.clock.phase + 1 < 32768)
include hs

theorem passPeriod_works : passPeriod s =
    if (crystalPeriod s.refreshed).ms = s.ms then { crystalPeriod s.refreshed with refreshDue := false }
    else startCount (crystalPeriod s.refreshed) := by
  rw [passPeriod, whenRunning_works s _ hs, refreshChain_eq]

include phase

theorem passPeriod_within (h : s.msRemainder + 1000 < 32768) : passPeriod s = { s.refreshed with
    clock := { s.clock with phase := s.clock.phase + 1 }, msRemainder := s.msRemainder + 1000, refreshDue := false } := by
  have period : crystalPeriod s.refreshed = { s.refreshed with
      clock := { s.clock with phase := s.clock.phase + 1 }, msRemainder := s.msRemainder + 1000 } := by
    rw [s.refreshed_frame]
    exact crystalPeriod_within hs phase h
  rw [passPeriod_works hs, period, if_pos (congrArg State.ms s.refreshed_frame)]

theorem passPeriod_rises (h : 32768 ≤ s.msRemainder + 1000) (below : s.ms < maxCount) : passPeriod s = { s.refreshed with
    clock := { s.clock with phase := s.clock.phase + 1 }, msRemainder := s.msRemainder + 1000 - 32768, ms := s.ms + 1
    refreshDue := decide ((s.ms + 1) % 4 = Config.refreshPhase % 4)
    evaluationDue := decide ((s.ms + 1) % 100 = 0) } := by
  have period : crystalPeriod s.refreshed = { s.refreshed with
      clock := { s.clock with phase := s.clock.phase + 1 }, msRemainder := s.msRemainder + 1000 - 32768
      ms := s.ms + 1 } := by
    rw [s.refreshed_frame]
    exact crystalPeriod_rises hs phase h below
  rw [passPeriod_works hs, period, if_neg (Nat.succ_ne_self s.ms)]
  rfl

end Works

theorem passPeriod_clock (s : State) : (passPeriod s).clock = (crystalPeriod (whenRunning s refreshChain)).clock := by
  unfold passPeriod
  dsimp only
  split <;> rfl

theorem passPeriod_wraps {s : State} (supply : s.crystalRuns = true) (h : 32768 ≤ s.clock.phase + 1) :
    (passPeriod s).clock = { s.clock with phase := 0, boundary := true } := by
  obtain ⟨crystal, clock⟩ : (whenRunning s refreshChain).crystalRuns = true ∧ (whenRunning s refreshChain).clock = s.clock :=
    whenRunning_keeps (fun t => t.crystalRuns = true ∧ t.clock = s.clock) s _ ⟨supply, rfl⟩ fun k => by
      rw [refreshChain_frame]; exact k
  rw [passPeriod_clock, crystalPeriod_clock_wraps crystal (by rw [clock]; exact h), clock]

/-! ### The step -/

theorem step_front (c : Instr) (rest : List Instr) (s : State) :
    step { s with pending := c :: rest } = exec c { s with pending := rest } := rfl

theorem step_idle {s : State} (empty : s.pending = []) : step s = .next (tick s) := by rw [step, empty]

theorem step_passes {s : State} (empty : s.pending = []) (still : s.due = []) : step s = .next (passPeriod s) := by
  rw [step_idle empty, tick, still]

/-- Settles O1: the front command, the period that passes where nothing is due, and the event that is taken where
something is. -/
theorem stepRunsFrontOrPassesOnePeriod : Obligations.StepRunsFrontOrPassesOnePeriod := by
  refine ⟨step_front, fun s empty still hs phase => ⟨fun h => ?_, fun h below => ?_⟩, fun s empty still supply wraps => ?_,
    fun s empty waiting => ?_⟩
  · exact (step_passes empty still).trans (congrArg Host.Outcome.next (passPeriod_within hs phase h))
  · exact (step_passes empty still).trans (congrArg Host.Outcome.next (passPeriod_rises hs phase h below))
  · have crystal : s.crystalRuns = true := by rw [State.crystalRuns, Bool.or_eq_true]; exact supply
    exact ⟨_, step_passes empty still, passPeriod_wraps crystal wraps⟩
  · rw [step_idle empty]
    rcases tick_cases s with ⟨i, n, due, e⟩ | ⟨still, -⟩
    · exact ⟨i, due, n, congrArg Host.Outcome.next e⟩
    · exact absurd still waiting

end Sys2Proof.Machine
end

section
/-! The request SETTINGS_SET: O22. -/

namespace Sys2Proof.Machine

theorem clampSettings_eq (t : Settings) : clampSettings t = ⟨min 30 t.skew, min 120 (max 5 t.takeWindow),
    min 60 (max 5 t.tagWindow), min 30 (max 2 t.deadline), min 100 t.minCharge, min 20 (max 1 t.deadTime)⟩ := by
  simp only [clampSettings, clamp, Nat.zero_max]

/-- SETTINGS_SET stores the clamped settings and answers them (R189). -/
theorem exec_settingsSet (a b c d e f : Byte) {s : State} (hs : s.accepting) :
    let t := clampSettings ⟨a.toNat, b.toNat, c.toNat, d.toNat, e.toNat, f.toNat⟩
    exec (.settingsSet a b c d e f) s =
      .next ({ s with settings := t }.answered 0x92 (okWith (settingsFields t))) := by
  intro t
  exact congrArg Host.Outcome.next (takeRequest_done 0x12 hs (t := { s.hunting with settings := t }) rfl)

/-- Settles O22: what the clamps leave of the six values is stored and answered. -/
theorem settingsSetClamps : Obligations.SettingsSetClamps := by
  intro s a b c d e f hs v
  have stored : clampSettings ⟨a.toNat, b.toNat, c.toNat, d.toNat, e.toNat, f.toNat⟩ = v := clampSettings_eq _
  rw [exec_settingsSet a b c d e f hs, stored]
  rfl

end Sys2Proof.Machine
end

section
/-! The catalogue of requests reads back what it writes: O8. -/

namespace Sys2Proof.Frame

/-! ### The values that bytes spell -/

theorem word16_bytes (w : BitVec 16) : word16 (w.extractLsb' 8 8) (w.extractLsb' 0 8) = w :=
  BitVec.extractLsb'_append_extractLsb'

theorem word24_bytes (w : BitVec 24) : word24 (w.extractLsb' 16 8) (w.extractLsb' 8 8) (w.extractLsb' 0 8) = w := by
  rw [word24, BitVec.extractLsb'_append_extractLsb'_eq_extractLsb' (by rfl)]
  exact BitVec.extractLsb'_append_extractLsb'

theorem word32_bytes (w : BitVec 32) :
    word32 (w.extractLsb' 24 8) (w.extractLsb' 16 8) (w.extractLsb' 8 8) (w.extractLsb' 0 8) = w := by
  rw [word32, BitVec.extractLsb'_append_extractLsb'_eq_extractLsb' (by rfl),
    BitVec.extractLsb'_append_extractLsb'_eq_extractLsb' (by rfl)]
  exact BitVec.extractLsb'_append_extractLsb'

theorem key_words (w : BitVec 128) :
    w.extractLsb' 96 32 ++ w.extractLsb' 64 32 ++ w.extractLsb' 32 32 ++ w.extractLsb' 0 32 = w := by
  rw [BitVec.extractLsb'_append_extractLsb'_eq_extractLsb' (by rfl),
    BitVec.extractLsb'_append_extractLsb'_eq_extractLsb' (by rfl)]
  exact BitVec.extractLsb'_append_extractLsb'

/-! ### Reading a payload back -/

/-- The catalogue has a row for the request's kind, which reads its payload as the request (R192, R195). -/
def ReadsBack (i : Instr) : Prop :=
  ∀ kind payload, encodeRequest i = some (kind, payload) →
    ∃ row, rowOf kind = some row ∧ payload.length = row.length ∧ row.parse payload = some i

theorem readsBack_of_row {i : Instr} {kind : Byte} {payload : List Byte} {row : Row}
    (sent : encodeRequest i = some (kind, payload)) (named : rowOf kind = some row) (length : payload.length = row.length)
    (read : row.parse payload = some i) : ReadsBack i := fun k p e => by
  rw [sent] at e
  cases e
  exact ⟨row, named, length, read⟩

/-- A command that is no request stands in no frame. -/
theorem readsBack_of_none {i : Instr} (unsent : encodeRequest i = none) : ReadsBack i := fun k p e => by
  rw [unsent] at e
  cases e

/-- Every request is read back: single bytes as they stand, and the wider fields from their bytes. -/
theorem readsBack (i : Instr) : ReadsBack i := by
  cases i
  case hello | status | restart | changesGet | getTime | settingsSet | settingsGet | keyDrop | tariffGet | denyClear | bayQuery
    | bayService | bayClear | staffUnlatch | journalRead | profileGet | channelEnable | supplyGet =>
    exact readsBack_of_row rfl rfl rfl rfl
  case setTime | denyAdd | denyRemove | denyLookup | rentalQuery =>
    refine readsBack_of_row rfl rfl rfl ?_
    simp only [bytes32, List.cons_append, List.nil_append, parseSetTime, parseDenyAdd, parseWord32, parseRentalQuery,
      word32_bytes]
  case bikeTag | rentalClose =>
    refine readsBack_of_row rfl rfl rfl ?_
    simp only [bytes24, List.cons_append, List.nil_append, parseBikeTag, parseRentalClose, word24_bytes]
  case tariffSet | journalRelease | profileSet | supplySet =>
    refine readsBack_of_row rfl rfl rfl ?_
    simp only [bytes16, List.cons_append, List.nil_append, parseTariffSet, parseJournalRelease, parseProfileSet,
      parseSupplySet, word16_bytes]
  case keyLoad =>
    refine readsBack_of_row rfl rfl rfl ?_
    simp only [bytes128, bytes32, List.cons_append, List.nil_append, parseKeyLoad, word32_bytes, key_words]
  case present =>
    refine readsBack_of_row rfl rfl rfl ?_
    simp only [tokenBytes, boundBytes, bytes32, bytes16, List.cons_append, List.nil_append, parsePresent, word32_bytes,
      word16_bytes]
  all_goals exact readsBack_of_none rfl

/-- Settles O8: the bytes of each field spell its value again, so the row of the request's kind reads its payload back. -/
theorem requestFrameRoundTrip : Obligations.RequestFrameRoundTrip := readsBack

/-! ### What the rows of the catalogue read -/

/-- A row reads no payload of another length than it gives: each reader answers on one length of list only. -/
theorem length_of_parse {row : Row} (listed : row ∈ catalogue) {payload : List Byte} {i : Instr}
    (read : row.parse payload = some i) : payload.length = row.length := by
  revert row
  simp only [catalogue, List.forall_mem_cons, List.not_mem_nil, false_implies, implies_true, and_true]
  and_intros
  all_goals
    intro read
    simp only [parse0, parse1, parse2, parseWord32, parseSetTime, parseSettingsSet, parseKeyLoad, parseTariffSet,
      parseDenyAdd, parsePresent, parseBikeTag, parseRentalQuery, parseRentalClose, parseJournalRelease, parseProfileSet,
      parseSupplySet] at read
    split at read
    · rfl
    · cases read

/-- Each row reads zeros of its length, and the request it reads is sent under the row's kind. -/
theorem zeros_of_row : ∀ row ∈ catalogue,
    (row.parse (List.replicate row.length 0)).bind encodeRequest = some (row.kind, List.replicate row.length 0) := by
  decide

/-- Every payload of the catalogue fits a frame (spec 11.1, 11.3). -/
theorem length_of_row : ∀ row ∈ catalogue, row.length ≤ 239 := by decide

end Sys2Proof.Frame
end

section
/-! Bytes and frames: what a byte, a gap or a line error makes of reception, and what becomes of a complete frame: O9, O10,
O11, O12. -/

namespace Sys2Proof.Machine

/-! ### Requests as frames reach them -/

/-- Every request is taken under the kind it is sent as (R192 to R194). -/
theorem exec_request {i : Instr} {kind : Byte} {payload : List Byte} (sent : Frame.encodeRequest i = some (kind, payload)) :
    ∃ act, ∀ s, exec i s = .next (takeRequest kind act s) := by
  cases i
  all_goals cases sent
  all_goals exact ⟨_, fun _ => rfl⟩

/-- A request handed over from a frame acts as the request (R192). -/
theorem handRequest_request {i : Instr} {kind : Byte} {payload : List Byte}
    (sent : Frame.encodeRequest i = some (kind, payload)) (s : State) : handRequest i s = exec i s := by
  cases i
  all_goals cases sent
  all_goals rfl

/-- A request that is accepted finds reception in HUNT whatever stood before (R191). -/
theorem exec_request_rx {i : Instr} {kind : Byte} {payload : List Byte} {s : State}
    (sent : Frame.encodeRequest i = some (kind, payload)) (hs : s.accepting) (x : Rx) :
    exec i { s with rx := x } = exec i s := by
  obtain ⟨act, taken⟩ := exec_request sent
  have again : State.accepting { s with rx := x } := hs
  rw [taken, taken, takeRequest_accepting kind act _ hs, takeRequest_accepting kind act _ again]

/-! ### The checks of a complete frame -/

theorem rowOf_some {kind : Byte} {row : Frame.Row} (named : Frame.rowOf kind = some row) :
    row ∈ Frame.catalogue ∧ row.kind = kind :=
  ⟨List.mem_of_find?_eq_some named, by simpa using List.find?_some named⟩

/-- A kind under which no request is sent has no row in the catalogue. -/
theorem rowOf_none {kind : Byte} (unsent : ∀ i p, Frame.encodeRequest i ≠ some (kind, p)) : Frame.rowOf kind = none := by
  cases named : Frame.rowOf kind with
  | none => rfl
  | some row =>
    obtain ⟨listed, same⟩ := rowOf_some named
    obtain ⟨i, -, sent⟩ := Option.bind_eq_some_iff.mp (Frame.zeros_of_row row listed)
    exact absurd (same ▸ sent) (unsent i _)

section Checks
variable {kind check : Byte} {payload : List Byte}

theorem verdict_check (wrong : BitVec.ofNat 8 (payload.length + 1) + Frame.sum (kind :: payload) + check ≠ 0) :
    verdict (kind :: payload) check = .rejected .check kind := if_pos wrong

variable (right : BitVec.ofNat 8 (payload.length + 1) + Frame.sum (kind :: payload) + check = 0)
include right

theorem verdict_kind (unnamed : Frame.rowOf kind = none) : verdict (kind :: payload) check = .rejected .kind kind := by
  refine (if_neg (not_not.mpr right)).trans ?_
  rw [unnamed]

theorem verdict_length {row : Frame.Row} (named : Frame.rowOf kind = some row) (other : payload.length ≠ row.length) :
    verdict (kind :: payload) check = .rejected .length kind := by
  have unread : row.parse payload = none :=
    Option.eq_none_iff_forall_ne_some.mpr fun _ read => other (Frame.length_of_parse (rowOf_some named).1 read)
  refine (if_neg (not_not.mpr right)).trans ?_
  simp only [named, unread]

theorem verdict_request {i : Instr} (sent : Frame.encodeRequest i = some (kind, payload)) :
    verdict (kind :: payload) check = .request i := by
  obtain ⟨row, named, -, read⟩ := Frame.readsBack i kind payload sent
  refine (if_neg (not_not.mpr right)).trans ?_
  simp only [named, read]

end Checks

/-! ### A complete frame is taken -/

theorem exec_reject {s : State} (hs : s.works) {body : List Byte} (fits : bodyLengthOk body = true) (check : Byte) :
    exec (.reject body check) s = takeFrame body check s := by
  simp only [exec, execReject, hs.running, fits, if_true]

section Taken
variable {s : State} (hs : s.accepting) {body : List Byte} {check : Byte} (fits : bodyLengthOk body = true)
include hs fits

/-- A frame that fails a check is answered with a REJECT of its reason and kind (R192). -/
theorem exec_reject_rejected {reason : RejectReason} {kind : Byte} (judged : verdict body check = .rejected reason kind) :
    exec (.reject body check) s = .next (s.answered 0xFF [BitVec.ofNat 8 reason.code, kind]) := by
  obtain ⟨-, -, free⟩ := id hs
  rw [exec_reject hs.works fits, takeFrame, judged, free]
  rfl

/-- A frame that passes every check acts as the request in it (R192). -/
theorem exec_reject_request {i : Instr} {kind : Byte} {payload : List Byte}
    (sent : Frame.encodeRequest i = some (kind, payload)) (judged : verdict body check = .request i) :
    exec (.reject body check) s = exec i s := by
  obtain ⟨-, -, free⟩ := id hs
  rw [exec_reject hs.works fits, takeFrame, judged, free]
  exact handRequest_request sent s

end Taken

/-- Settles O10: the verdict stops at the first check that fails. -/
theorem completeFramesAreCheckedInOrder : Obligations.CompleteFramesAreCheckedInOrder := by
  intro s kind payload check hs short sum
  have fits : bodyLengthOk (kind :: payload) = true := by
    simp only [bodyLengthOk, List.length_cons, decide_eq_true_eq]
    omega
  exact ⟨fun wrong => exec_reject_rejected hs fits (verdict_check wrong),
    fun right unsent => exec_reject_rejected hs fits (verdict_kind right (rowOf_none unsent)),
    fun right _ named other => exec_reject_rejected hs fits (verdict_length right named other),
    fun right _ sent => exec_reject_request hs fits sent (verdict_request right sent)⟩

/-! ### Bytes, gaps and line errors -/

theorem Rx.atByte_fresh {r : Rx} {t now : Nat} (last : r.lastAt? = some t) (fresh : now ≤ t + 10) : r.atByte now = r := by
  simp only [Rx.atByte, last]
  exact if_neg (Nat.not_lt.mpr fresh)

theorem Rx.atByte_late {r : Rx} {t now : Nat} (last : r.lastAt? = some t) (late : t + 10 < now) : r.atByte now = .hunt := by
  simp only [Rx.atByte, last]
  exact if_pos late

section Bytes
variable {s : State} (hs : s.works)
include hs

theorem exec_byteReceived (x : Byte) : exec (.byteReceived x) s = receiveByte x s := by
  simp only [exec, execByteReceived, hs.running, if_true]

/-- In HUNT, or after too long a gap, only SYNC begins a frame (R191). -/
theorem byteReceived_hunting (x : Byte) (found : s.rx.atByte s.ms = .hunt) :
    exec (.byteReceived x) s = .next { s with rx := if x = 0xC3 then .length s.ms else .hunt } := by
  simp only [exec_byteReceived hs, receiveByte, found]

theorem byteReceived_length (x : Byte) {t : Nat} (waits : s.rx = .length t) (fresh : s.ms ≤ t + 10) :
    exec (.byteReceived x) s =
      .next { s with rx := if 1 ≤ x.toNat ∧ x.toNat ≤ 240 then .body x.toNat [] s.ms else .hunt } := by
  have found : s.rx.atByte s.ms = .length t := by rw [waits]; exact Rx.atByte_fresh rfl fresh
  simp only [exec_byteReceived hs, receiveByte, found]

theorem byteReceived_body (x : Byte) {n t : Nat} {l : List Byte} (waits : s.rx = .body n l t) (fresh : s.ms ≤ t + 10) :
    exec (.byteReceived x) s =
      .next { s with rx := if l.length + 1 < n then .body n (l ++ [x]) s.ms else .check (l ++ [x]) s.ms } := by
  have found : s.rx.atByte s.ms = .body n l t := by rw [waits]; exact Rx.atByte_fresh rfl fresh
  simp only [exec_byteReceived hs, receiveByte, found]

/-- The byte in CHECK completes the frame (R191, R192). -/
theorem byteReceived_check (x : Byte) {t : Nat} {l : List Byte} (waits : s.rx = .check l t) (fresh : s.ms ≤ t + 10)
    (fits : bodyLengthOk l = true) : exec (.byteReceived x) s = exec (.reject l x) s := by
  have found : s.rx.atByte s.ms = .check l t := by rw [waits]; exact Rx.atByte_fresh rfl fresh
  simp only [exec_byteReceived hs, receiveByte, found, exec_reject hs fits]

theorem exec_lineError : exec .lineError s = .next { s with rx := .hunt } :=
  congrArg Host.Outcome.next (whenRunning_works s _ hs)

theorem exec_interByteGapTimeout :
    exec .interByteGapTimeout s = .next (if s.rx.gapOver s.ms then { s with rx := .hunt } else s) :=
  congrArg Host.Outcome.next (whenRunning_works s _ hs)

theorem interByteGapTimeout_drops (passed : s.rx.gapOver s.ms = true) :
    exec .interByteGapTimeout s = .next { s with rx := .hunt } := by
  rw [exec_interByteGapTimeout hs, if_pos passed]

theorem interByteGapTimeout_waits (early : s.rx.gapOver s.ms = false) : exec .interByteGapTimeout s = .next s := by
  rw [exec_interByteGapTimeout hs, if_neg (Bool.eq_false_iff.mp early)]

/-- A gap that is over is one of the events due (R179). -/
theorem interByteGapTimeout_due (passed : s.rx.gapOver s.ms = true) : .interByteGapTimeout ∈ s.due := by
  simp [State.due, hs.running, eventIf, passed]

end Bytes

theorem Rx.gapOver_iff {r : Rx} {t : Nat} (last : r.lastAt? = some t) (now : Nat) :
    r.gapOver now = true ↔ t + 10 ≤ now := by
  simp only [Rx.gapOver, last, Option.any_some, decide_eq_true_eq]

/-- Settles O11: one clause for each receive state, and one for each side of the gap. -/
theorem bytesMoveTheReceiveState : Obligations.BytesMoveTheReceiveState := by
  intro s x hs
  refine ⟨fun hunting => byteReceived_hunting hs x (by rw [hunting]; rfl),
    fun _ waits fresh => byteReceived_length hs x waits fresh,
    fun _ _ _ waits fresh => byteReceived_body hs x waits fresh,
    fun _ _ waits fresh fits => byteReceived_check hs x waits fresh fits,
    fun _ last late => byteReceived_hunting hs x (Rx.atByte_late last late),
    exec_lineError hs, fun _ last reached => ?_, fun _ last early => ?_, fun hunting => ?_⟩
  · have passed := (Rx.gapOver_iff last s.ms).mpr reached
    exact ⟨interByteGapTimeout_drops hs passed, interByteGapTimeout_due hs passed⟩
  · refine interByteGapTimeout_waits hs (Bool.eq_false_iff.mpr fun passed => ?_)
    exact Nat.not_le.mpr early ((Rx.gapOver_iff last s.ms).mp passed)
  · exact interByteGapTimeout_waits hs (by rw [hunting]; rfl)

/-! ### The bytes of a frame in a row -/

theorem feed_cons {x : Byte} {rest : List Byte} {s t : State} (moved : exec (.byteReceived x) s = .next t) :
    feed (x :: rest) s = feed rest t := by
  rw [feed, moved]

theorem feed_last (x : Byte) (s : State) : feed [x] s = exec (.byteReceived x) s := by
  unfold feed
  cases exec (.byteReceived x) s with
  | next | fault | refused => rfl

/-- The rest of a body and its CHECK byte complete the frame that the body began (R191). -/
theorem feed_body {s : State} (hs : s.works) (check : Byte) (rest : List Byte) (nonempty : rest ≠ []) (l : List Byte)
    (fits : l.length + rest.length ≤ 240) :
    feed (rest ++ [check]) { s with rx := .body (l.length + rest.length) l s.ms } =
      exec (.reject (l ++ rest) check) { s with rx := .check (l ++ rest) s.ms } := by
  induction rest generalizing l with
  | nil => exact absurd rfl nonempty
  | cons x rest ih =>
    have works (r : Rx) : State.works { s with rx := r } := hs
    rw [List.cons_append, feed_cons (byteReceived_body (works _) x rfl (Nat.le_add_right _ _))]
    cases rest with
    | nil =>
      have whole : bodyLengthOk (l ++ [x]) = true := by
        simp only [bodyLengthOk, List.length_append, List.length_singleton, decide_eq_true_eq] at fits ⊢
        omega
      simp only [List.length_singleton, lt_irrefl, if_false, List.nil_append, feed_last]
      exact byteReceived_check (works _) check rfl (Nat.le_add_right _ _) whole
    | cons y rest =>
      have more : l.length + 1 < l.length + (x :: y :: rest).length := by simp
      have shifted : l.length + (x :: y :: rest).length = (l ++ [x]).length + (y :: rest).length := by simp; omega
      rw [shifted] at fits
      simp only [more, if_true]
      rw [shifted, ih (List.cons_ne_nil y rest) (l ++ [x]) fits, List.append_assoc]
      rfl

/-- A whole frame received from HUNT with no time between its bytes is taken as a complete frame (R191, 11.1). -/
theorem feed_frame {s : State} (hs : s.works) (hunting : s.rx = .hunt) {body : List Byte} (fits : bodyLengthOk body = true) :
    feed (Frame.frame body) s =
      exec (.reject body (Frame.checkByte body)) { s with rx := .check body s.ms } := by
  have works (r : Rx) : State.works { s with rx := r } := hs
  obtain ⟨nonempty, few⟩ := of_decide_eq_true fits
  have length : (BitVec.ofNat 8 body.length).toNat = body.length := by
    rw [BitVec.toNat_ofNat, Nat.mod_eq_of_lt (by omega)]
  have sync := byteReceived_hunting hs 0xC3 (by rw [hunting]; rfl)
  have counted := byteReceived_length (works (.length s.ms)) (BitVec.ofNat 8 body.length) rfl (Nat.le_add_right _ _)
  rw [length, if_pos ⟨nonempty, few⟩] at counted
  have gathered := feed_body hs (Frame.checkByte body) body (List.length_pos_iff.mp nonempty) [] (by simpa using few)
  rw [List.length_nil, Nat.zero_add, List.nil_append] at gathered
  exact (feed_cons sync).trans ((feed_cons counted).trans gathered)

/-- The CHECK byte of a frame makes its sum 0 (11.1). -/
theorem sum_checkByte (body : List Byte) :
    BitVec.ofNat 8 body.length + Frame.sum body + Frame.checkByte body = 0 := by
  rw [Frame.checkByte]
  exact add_neg_cancel _

theorem request_fits {i : Instr} {kind : Byte} {payload : List Byte}
    (sent : Frame.encodeRequest i = some (kind, payload)) : bodyLengthOk (kind :: payload) = true := by
  obtain ⟨row, named, length, -⟩ := Frame.readsBack i kind payload sent
  have short : row.length ≤ 239 := Frame.length_of_row row (rowOf_some named).1
  exact decide_eq_true ⟨Nat.succ_pos _, Nat.succ_le_succ (length.trans_le short)⟩

/-- Settles O9: the bytes complete a frame that passes every check, and its request does not see the receive state. -/
theorem frameBytesRunTheRequest : Obligations.FrameBytesRunTheRequest := by
  intro i kind payload s sent hs hunting
  have fits := request_fits sent
  have taken : State.accepting { s with rx := .check (kind :: payload) s.ms } := hs
  rw [feed_frame hs.works hunting fits,
    exec_reject_request taken fits sent (verdict_request (sum_checkByte (kind :: payload)) sent), exec_request_rx sent hs]

/-! ### Frames during a reply -/

/-- Settles O12: what completes during a reply only returns reception to HUNT, and the end of a reply clears it. -/
theorem framesDuringAReplyAreDropped : Obligations.FramesDuringAReplyAreDropped := by
  intro s r hs busy
  refine ⟨fun body check fits => ?_, congrArg Host.Outcome.next ?_, fun i k p sent => ?_, fun w other => ?_⟩
  · rw [exec_reject hs fits, takeFrame, busy]
    rfl
  · rw [whenRunning_works s _ hs, busy]
    rfl
  · obtain ⟨act, taken⟩ := exec_request sent
    rw [taken, takeRequest_busy k act s r hs busy]
  · refine congrArg Host.Outcome.next ?_
    rw [whenRunning_works s _ hs, busy]
    exact if_neg other

/-! ### CHANGES_GET -/

/-- Settles O19: the bays of the set are those of the ascending list of all bays that hold a cause. -/
theorem changesGetTakesEveryEntry : Obligations.ChangesGetTakesEveryEntry := by
  intro s hs
  refine ⟨allBays.filter fun b => (s.changes.bays[b]).any, (List.pairwise_lt_finRange 32).filter _, fun b => ?_, ?_, ?_⟩
  · simp [allBays]
  · exact congrArg Host.Outcome.next (takeRequest_done 0x04 hs (t := { s.hunting with changes := emptyChanges }) rfl)
  · rw [State.attn, show emptyChanges.any = false by decide, Bool.and_false]

end Sys2Proof.Machine
end

section
/-! Every command answers a next state and leaves the commands that wait: O2. -/

namespace Sys2Proof.Machine

/-- `t` holds the waiting commands of `s`. -/
def KeepsPending (s t : State) : Prop := t.pending = s.pending

/-- A command answers a next state with the commands waiting that it found. -/
def Completes (s : State) (o : Host.Outcome State Fault Refusal) : Prop := ∃ t, o = .next t ∧ KeepsPending s t

theorem Completes.next {s t : State} (h : KeepsPending s t) : Completes s (.next t) := ⟨t, rfl, h⟩

namespace KeepsPending

theorem refl (s : State) : KeepsPending s s := rfl

theorem trans {s t u : State} (h : KeepsPending s t) (k : KeepsPending t u) : KeepsPending s u := Eq.trans k h

/-- An effect that comes or not. -/
theorem taken {cond : Prop} [Decidable cond] {s t : State} (h : KeepsPending s t) :
    KeepsPending s (if cond then t else s) := by
  split
  · exact h
  · exact refl s

theorem foldl {α : Type} {f : State → α → State} (h : ∀ t a, KeepsPending t (f t a)) (l : List α) (s : State) :
    KeepsPending s (l.foldl f s) := by
  induction l generalizing s with
  | nil => exact refl s
  | cons a rest ih => exact (h s a).trans (ih _)

/-! ### Bays, channels and the arbiter -/

theorem atBays {s t : State} (h : AtBays s t) : KeepsPending s t := by rw [KeepsPending, h]

theorem bayWork {s t : State} (h : BayWork s t) : KeepsPending s t := atBays h.atBays

theorem offChannels {s t : State} (h : OffChannels s t) : KeepsPending s t := by rw [KeepsPending, h.frame]

theorem arbitrate (s : State) : KeepsPending s (arbitrate s) := arbitrate_keeps (KeepsPending s) (fun _ _ _ h _ _ _ => h) s rfl

theorem refreshChain (s : State) : KeepsPending s (refreshChain s) := by rw [KeepsPending, refreshChain_frame]

/-! ### The requests -/

theorem whenRunning {s : State} {act : State → State} (k : KeepsPending s (act s)) : KeepsPending s (whenRunning s act) :=
  whenRunning_keeps (KeepsPending s) s act rfl fun _ => k

theorem takeRequest {kind : Byte} {act : State → State × List Byte} {s : State} (k : ∀ t, KeepsPending t (act t).1) :
    KeepsPending s (takeRequest kind act s) :=
  takeRequest_keeps (KeepsPending s) kind act s rfl (fun _ _ h => h) (fun _ _ h => h) fun t h => h.trans (k t)

theorem atBay {n : Byte} {act : BayIx → State → State × List Byte} {s : State} (k : ∀ b, BayWork s (act b s).1) :
    KeepsPending s (atBay n act s).1 := by
  unfold Machine.atBay
  split
  · exact bayWork (k _)
  · exact refl s

theorem setTime (m x : Nat) (s : State) : KeepsPending s (setTime m x s).1 := by
  unfold Machine.setTime
  split <;> rfl

theorem denyAdd (e : DenyEntry) (s : State) : KeepsPending s (denyAdd e s).1 := by
  unfold Machine.denyAdd
  (repeat' split) <;> rfl

theorem denyRemove (rider : Nat) (s : State) : KeepsPending s (denyRemove rider s).1 := by
  unfold Machine.denyRemove
  (repeat' split) <;> rfl

theorem presentToken (n : Byte) (t : Token) (s : State) : KeepsPending s (presentToken n t s).1 := by
  unfold Machine.presentToken
  split
  · exact refl s
  · exact bayWork (.acceptRental _ t s)

theorem bikeTag (n : Byte) (bike : Nat) (cls : Byte) (pct : Nat) (s : State) :
    KeepsPending s (bikeTag n bike cls pct s).1 := by
  unfold Machine.bikeTag
  split
  · split
    · exact refl s
    · exact bayWork (.tagBay _ _ s)
  · exact refl s

theorem rentalClose (bike : Nat) (s : State) : KeepsPending s (rentalClose bike s).1 := by
  unfold Machine.rentalClose
  split
  · exact refl s
  · split
    · exact .trans (t := s.setRental _ none) rfl (atBays (.flush _))
    · exact refl s

theorem journalRead (flag count : Nat) (s : State) : KeepsPending s (journalRead flag count s).1 := by
  unfold Machine.journalRead
  split <;> rfl

theorem journalRelease (n : Nat) (s : State) : KeepsPending s (journalRelease n s).1 := by
  unfold Machine.journalRelease
  split
  · exact refl s
  · split
    · exact refl s
    · exact .trans (t := dropRecords n s) rfl (atBays (.flush _))

theorem profileSet (n : Byte) (p : Profile) (s : State) : KeepsPending s (profileSet n p s).1 := by
  unfold Machine.profileSet
  split
  · next x _ => cases x <;> rfl
  · exact refl s

theorem channelEnable (n : Byte) (s : State) : KeepsPending s (channelEnable n s).1 := by
  unfold Machine.channelEnable
  split
  · next c _ => exact taken (.trans (t := s.setChannel c _) rfl (arbitrate _))
  · exact refl s

theorem supplySet (t : Thresholds) (s : State) : KeepsPending s (supplySet t s).1 := by
  unfold Machine.supplySet
  split <;> rfl

/-! ### Sense events and pulses -/

theorem scanAll (w : SenseWord) (s : State) : KeepsPending s (scanAll w s) := by simp only [KeepsPending, Machine.scanAll]

theorem senseEvent (b : BayIx) (s : State) : KeepsPending s (senseEvent b s) := by
  obtain ⟨u, e, off⟩ := drivesEnded_frame (b := b) (s.bay b) s
  have ended : KeepsPending s (drivesEnded b (s.bay b) s) := by
    rw [e]
    exact .trans (t := u) (offChannels off) rfl
  rw [senseEvent_eq]
  simp only
  generalize hv : (if (s.bay b).presenceDue = true then handlePresence b (drivesEnded b (s.bay b) s)
    else drivesEnded b (s.bay b) s) = v
  have handled : KeepsPending s v := by
    rw [← hv]
    split
    · exact ended.trans (bayWork (.handlePresence b _))
    · exact ended
  split
  · exact handled.trans (bayWork (.handleLatch b v))
  · exact handled

theorem expire {running : Bay → Option Nat} {b : BayIx} {act : State → State} {s : State} (k : BayWork s (act s)) :
    KeepsPending s (expire running b act s) := expire_keeps (KeepsPending s) running b act s rfl fun _ => bayWork k

theorem pulseEvent {c : Fin 4} {act : Pulse → State → State} {s : State} (k : ∀ p, KeepsPending s (act p s)) :
    KeepsPending s (pulseEvent c act s) := by
  refine whenRunning ?_
  split
  · exact k _
  · exact refl s

theorem setPulse (c : Fin 4) (p : Pulse) (s : State) : KeepsPending s (s.setPulse c p) := rfl

theorem finishBrake (c : Fin 4) (p : Pulse) (s : State) : KeepsPending s (finishBrake c p s) :=
  (setPulse c _ s).trans (bayWork (.complete _ _ _ _))

theorem endDeadtime (c : Fin 4) (p : Pulse) (s : State) : KeepsPending s (endDeadtime c p s) := by
  unfold Machine.endDeadtime
  split
  · rw [beginKick_eq]
    exact setPulse c _ s
  · unfold endSecondDeadtime
    simp only
    split
    · exact setPulse c _ s
    · split
      · exact (setPulse c _ s).trans (finishBrake c _ _)
      · exact setPulse c _ s
  all_goals exact refl s

theorem endCoast (c : Fin 4) (p : Pulse) (s : State) : KeepsPending s (endCoast c p s) := by
  refine taken ((refreshChain s).trans ?_)
  rw [finishCoast_eq]
  exact (bayWork (.reportCoast p _)).trans (.trans (t := (reportCoast p _).setChannel c _) rfl (arbitrate _))

/-! ### The supply band, the conversions and the clock -/

theorem abortChannel (s : State) (c : Fin 4) : KeepsPending s (abortChannel s c) := by
  unfold Machine.abortChannel
  (repeat' split) <;> rfl

theorem changeBand (b : Band) (s : State) : KeepsPending s (changeBand b s) := by
  unfold Machine.changeBand
  split
  · exact refl s
  · refine .trans (t := { s.postBand with band := b }) rfl (.trans ?_ (arbitrate _))
    split
    · exact foldl abortChannel _ _
    · exact refl _

theorem takeEvaluation (s : State) : KeepsPending s (takeEvaluation s) := by
  refine taken (.trans (t := { s with evaluationDue := false }) rfl ?_)
  unfold evaluateBand
  split
  · exact refl _
  · exact changeBand _ _

theorem countScan (c : Fin 4) (mA : Nat) (s : State) : KeepsPending s (countScan c mA s) := by
  unfold Machine.countScan
  (repeat' split) <;> rfl

theorem judgeSample (mV : Nat) (s : State) : KeepsPending s (judgeSample mV s) := by
  unfold Machine.judgeSample
  split <;> rfl

theorem convert {slot : Fin 5} {take : State → State} (k : ∀ t, KeepsPending t (take t)) (s : State) :
    KeepsPending s (convert slot take s) :=
  taken (.trans (t := { s with scanSlot := s.scanSlot + 1 }) rfl (k _))

theorem takeCurrent (c : Fin 4) (mA : Nat) (s : State) : KeepsPending s (takeCurrent c mA s) :=
  convert (fun t => .trans (t := { t with currents := t.currents.set c.val mA c.isLt }) rfl (whenRunning (countScan c mA _))) s

theorem takeBattery (mV : Nat) (s : State) : KeepsPending s (takeBattery mV s) :=
  convert (fun t => .trans (t := { t with battery := mV }) rfl (whenRunning (judgeSample mV _))) s

theorem minuteEvent (s : State) : KeepsPending s (minuteEvent s) := by
  unfold Machine.minuteEvent
  simp only
  split <;> rfl

theorem clockSecond (s : State) : KeepsPending s (clockSecond s) := by
  unfold Machine.clockSecond
  split
  · exact minuteEvent s
  · rfl

/-! ### Restarts and the supplies -/

theorem warmRestart (k : RestartKind) (w : SenseWord) (s : State) : KeepsPending s (warmRestart k w s) := by
  have discarded : KeepsPending s (restartDiscards s) := by rw [KeepsPending, restartDiscards_frame]
  have bays : KeepsPending s (restartedBays w s) :=
    discarded.trans (bayWork ((BayWork.flush _).trans ((BayWork.seedScan w _).trans (BayWork.rederiveAll _))))
  rw [warmRestart_eq]
  generalize restartedBays w s = t at bays
  exact bays

theorem coldReset (w : SenseWord) (s : State) : KeepsPending s (coldReset w s) := by
  rw [KeepsPending, coldReset_frame]
  rfl

theorem resetRelease (w : SenseWord) (s : State) : KeepsPending s (resetRelease w s) := by
  refine taken (.trans (t := { s with resetHeld := false }) rfl ?_)
  exact taken (coldReset w _)

theorem powerReturn (w : SenseWord) (s : State) : KeepsPending s (powerReturn w s) := by
  cases h : s.mainPower with
  | true => rw [powerReturn_present w s h]; exact refl s
  | false =>
    rw [powerReturn_absent w s h]
    refine .trans (t := poweredUp s) rfl ?_
    split
    · exact warmRestart _ w _
    · exact coldReset w _

theorem loseMainPower (s : State) : KeepsPending s (loseMainPower s) := by rw [KeepsPending, loseMainPower_frame]

theorem loseBackup (s : State) : KeepsPending s (loseBackup s) := by
  unfold Machine.loseBackup
  generalize State.reset = r
  rfl

theorem replyComplete (w : SenseWord) (s : State) : Completes s (execReplyComplete w s) := by
  refine .next (whenRunning ?_)
  split
  · refine .trans (t := { s with reply := none }) rfl ?_
    simp only
    split
    · exact warmRestart _ w _
    · exact refl _
  · exact refl s

/-! ### Every command completes -/

/-- Every request completes, and a command that is no request changes nothing in a frame. -/
theorem handRequest (i : Instr) (s : State) : Completes s (handRequest i s) := by
  cases i
  case hello | status | restart | getTime | settingsGet | tariffGet | denyLookup | rentalQuery | profileGet | supplyGet
    | changesGet | settingsSet | denyClear => exact .next (takeRequest fun _ => rfl)
  case setTime => exact .next (takeRequest (setTime _ _))
  case keyLoad | keyDrop | tariffSet => exact .next (takeRequest fun t => by split <;> rfl)
  case denyAdd => exact .next (takeRequest (denyAdd _))
  case denyRemove => exact .next (takeRequest (denyRemove _))
  case present => exact .next (takeRequest (presentToken _ _))
  case bikeTag => exact .next (takeRequest (bikeTag _ _ _ _))
  case rentalClose => exact .next (takeRequest (rentalClose _))
  case journalRead => exact .next (takeRequest (journalRead _ _))
  case journalRelease => exact .next (takeRequest (journalRelease _))
  case profileSet => exact .next (takeRequest (profileSet _ _))
  case channelEnable => exact .next (takeRequest (channelEnable _))
  case supplySet => exact .next (takeRequest (supplySet _))
  case bayQuery => exact .next (takeRequest fun t => atBay fun _ => .refl t)
  case bayService =>
    refine .next (takeRequest fun t => atBay fun b => ?_)
    split
    · exact .serviceOff b t
    · exact .serviceOn b t
  case bayClear => exact .next (takeRequest fun t => atBay fun b => .clearBay b t)
  case staffUnlatch => exact .next (takeRequest fun t => atBay fun b => .staffUnlatch b t)
  all_goals exact .next (refl s)

theorem takeFrame (body : List Byte) (check : Byte) (s : State) : Completes s (takeFrame body check s) := by
  unfold Machine.takeFrame
  split
  · exact .next rfl
  · split
    · exact .next rfl
    · exact handRequest _ s
    · exact .next rfl

theorem reject (body : List Byte) (check : Byte) (s : State) : Completes s (execReject body check s) := by
  unfold execReject
  split
  · split
    · exact takeFrame body check s
    · exact .next rfl
  · exact .next rfl

theorem byteReceived (x : Byte) (s : State) : Completes s (execByteReceived x s) := by
  unfold execByteReceived
  split
  · unfold receiveByte
    split
    case h_4 => exact takeFrame _ x s
    all_goals exact .next rfl
  · exact .next rfl

theorem exec (i : Instr) (s : State) : Completes s (exec i s) := by
  have request : Completes s (Machine.handRequest i s) := handRequest i s
  cases i
  case reject => exact reject _ _ s
  case byteReceived => exact byteReceived _ s
  case replyComplete w => exact replyComplete w s
  case busyFrameDrop | interByteGapTimeout => exact .next (whenRunning (taken rfl))
  case lineError => exact .next (whenRunning rfl)
  case resetAssert => exact .next rfl
  case resetRelease => exact .next (resetRelease _ s)
  case mainPowerLoss => exact .next (taken (loseMainPower s))
  case mainPowerReturn => exact .next (powerReturn _ s)
  case backupSupplyLoss =>
    refine .next ?_
    split
    · exact refl s
    · exact loseBackup s
  case senseScan => exact .next (whenRunning (scanAll _ s))
  case senseEvent => exact .next (whenRunning (senseEvent _ s))
  case takeWindowExpiry b => exact .next (expire (.takeExpired b s))
  case tagWindowExpiry b => exact .next (expire (.tagExpired b s))
  case unlatchDeadlineExpiry b => exact .next (expire (.deadlineExpired b s))
  case retryDelayExpiry b => exact .next (expire (.retryExpired b s))
  case pendingTagExpiry b | lampPhase b => exact .next (expire (.modBay s b _))
  case grant => exact .next (whenRunning (arbitrate s))
  case connectEnd c => exact .next (pulseEvent fun _ => taken ((refreshChain s).trans (setPulse c _ _)))
  case deadtimeEnd => exact .next (pulseEvent fun p => endDeadtime _ p s)
  case kickEnd | short => exact .next (pulseEvent fun _ => taken rfl)
  case stall | travelLimit => exact .next (pulseEvent fun p => taken (offChannels (.endDrive _ p s)))
  case brakeEnd => exact .next (pulseEvent fun p => taken (finishBrake _ p s))
  case coastEnd => exact .next (pulseEvent fun p => endCoast _ p s)
  case currentConversion => exact .next (takeCurrent _ _ s)
  case batteryConversion => exact .next (takeBattery _ s)
  case bandEvaluation => exact .next (whenRunning (takeEvaluation s))
  case clockSecond => exact .next (taken (clockSecond s))
  case minuteEvent => exact .next (taken (minuteEvent s))
  all_goals exact request

end KeepsPending

/-- Settles O2: no operation writes the waiting commands, and reception and the requests answer a next state in every case. -/
theorem everyCommandCompletesAndKeepsTheQueue : Obligations.EveryCommandCompletesAndKeepsTheQueue := KeepsPending.exec

end Sys2Proof.Machine
end
